-- ==== Sys2Proof/Word.lean ====
section
/-! DEFINITION. The words, numbers of objects and sample types of the 4816 (00_scope 0.4). -/

namespace Sys2Proof

/-- A byte on the control link or the contribution link port (11.8). -/
abbrev Byte := BitVec 8

/-- An audio sample: a 24-bit two's complement integer (0.4.1). -/
abbrev Sample := BitVec 24

/-- One TDM slot of one frame: 32 bit clocks, the first of them the most significant bit (1.2). -/
abbrev SlotWord := BitVec 32

/-- A link id, a filter value or a filter mask (7.1, 7.2.1). -/
abbrev LinkId := BitVec 16

/-- A link frame sequence number, modulo 65536 (0.4.5). -/
abbrev Seq := BitVec 16

/-- A block count, modulo 2^32 (0.4.2). -/
abbrev BlockCount := BitVec 32

/-- Numbers of objects (0.4.6). -/
abbrev PortId := Fin 48
abbrev BusId := Fin 8
abbrev KeyId := Fin 256
abbrev GroupId := Fin 32
abbrev ChanId := Fin 8
abbrev FilterId := Fin 16

/-- The 48 samples of one block of one port, slot or channel (0.4.2). -/
abbrev Block := Vector Sample 48

/-- The samples of one TDM frame: slot `k` of lane `l` is element `8 * l + k` (1.2). -/
abbrev TdmFrame := Vector Sample 48

/-- The raw slot words of one TDM frame, in the same order. -/
abbrev SlotFrame := Vector SlotWord 48

end Sys2Proof
end

