-- ==== Sys2Proof/Syntax.lean ====
section
/-! DEFINITION. The commands of the 4816: one constructor per row of spec/opcode_table.json.

Request fields are the numbers that the body carries (11.8.3), unchecked: the meaning applies the range checks in the order
the spec gives them. A field that may be omitted is an `Option`, `none` when the request omits it (R189). -/

namespace Sys2Proof

inductive Instr where
  /-- R17: the RSTN pin goes low (`true`) or high (`false`) (log 5, DESIGN CHOICE, safe). -/
  | resetInput (low : Bool)
  | start (tag : Byte)
  | stop (tag : Byte)
  | restart (tag : Byte)
  /-- R3: a port number, a kind and the optional slots (lane × 16 + slot) and channel. -/
  | port (tag : Byte) (number kind : Nat) (inSlot outSlot chan : Option Nat)
  /-- R121 with a configuration. -/
  | channel (tag : Byte) (chan operation : Nat) (linkId : LinkId) (prime maxDelay callKey : Option Nat)
  /-- R121 with the operation CLOSE. -/
  | channelClose (tag : Byte) (chan : Nat)
  | filter (tag : Byte) (number enabled : Nat) (value mask : LinkId) (chan : Nat)
  | governor (tag : Byte) (mode : Nat) (tLow tMid cap1 cap2 limit : Option Nat)
  | trim (tag : Byte) (number trim : Nat) (dipDepth : Option Nat)
  /-- R61: a KEY request with a target. -/
  | key (tag : Byte) (number owner targetType targetNumber : Nat) (level priority mode : Option Nat)
  /-- R62: a KEY request whose target type is none. -/
  | keyRemove (tag : Byte) (number : Nat)
  | group (tag : Byte) (number mode : Nat) (timeout : Option Nat) (members : List Nat)
  | presence (tag : Byte) (number value : Nat)
  | routeAdd (tag : Byte) (source destination cls : Nat) (level : Option Nat)
  | routeDrop (tag : Byte) (source destination cls : Nat)
  | routeCopy (tag : Byte)
  | swap (tag : Byte)
  | notify (tag : Byte) (mask : Byte)
  | resync (tag : Byte)
  | press (tag : Byte) (number : Nat)
  | release (tag : Byte) (number : Nat)
  | cueSend (tag : Byte) (chan code : Nat)
  | checkStart (tag : Byte) (chan : Nat) (duration forward : Option Nat)
  | checkStop (tag : Byte) (chan : Nat)
  | queryPort (tag : Byte) (number : Nat)
  | queryPaths (tag : Byte) (destination : Nat)
  | queryKey (tag : Byte) (number : Nat)
  | queryGroup (tag : Byte) (number : Nat)
  | queryEarpiece (tag : Byte) (number : Nat)
  | queryChannel (tag : Byte) (chan : Nat)
  | queryProtect (tag : Byte) (number : Nat)
  | queryRoutes (tag : Byte) (set startIndex : Nat)
  /-- R178: a frame refused BAD_FRAME, with the kind and the tag if they were received (log 31, DEDUCED, unsafe). -/
  | badFrame (kind tag : Option Byte)
  /-- R176, R186: a READ transaction begins. -/
  | readTransaction
  /-- R176: a transaction of another type begins, WRITE 0x3C or a type byte that the table does not name. The table of commands
  has no row of its own for it: a second form of READ_TRANSACTION (log 40, DESIGN CHOICE, safe). -/
  | otherTransaction (type : Byte)
  | blockBoundary
  | concealLimit (chan : ChanId)
  | channelIdleLimit (chan : ChanId)
  | channelDrop (chan : ChanId)
  | channelRecovery (chan : ChanId)
  | checkCompletion (chan : ChanId)
  /-- R30: the spent closing path at this position is removed. -/
  | pathRemoval (position : Fin 512)
  /-- R92: this key's wait deadline has been reached. -/
  | waitTimeout (number : KeyId)
  | windowEnd
  | swapJudgement
  | clockLost
  | clockPresent
  /-- R116 to R126: an AUDIO link frame with the bytes of its payload. -/
  | audioFrameArrival (linkId : LinkId) (seq : Seq) (payload : List Byte)
  /-- R134: a CUE link frame with the bytes of its payload. -/
  | cueFrameArrival (linkId : LinkId) (seq : Seq) (payload : List Byte)
  | malformedLinkFrame
  /-- R144: the arbiter looks at the transmit port, LKTXRDY being `ready` (log 32, DESIGN CHOICE, safe). -/
  | linkFrameBegin (ready : Bool)
  | linkFrameSent
  /-- R13: a frame sync and the slots of the frame it begins; `gap` is set when more than 2 ms passed since the previous one
  (log 9, DESIGN CHOICE, unsafe). -/
  | frameSync (gap : Bool) (slots : SlotFrame)
  /-- R176, R186: the transaction ends, for a READ its frame's last byte clocked out (`true`) or not (log 7, DESIGN CHOICE, safe). -/
  | readTransactionEnd (complete : Bool)
  deriving DecidableEq, Repr

end Sys2Proof
end

