-- ==== Sys2Proof/Decode.lean ====
section
/-! DEFINITION. Reading commands from bytes: the table's bits (it gives none), request frames (R178, R189, 11.8.3),
control link transactions (R176) and link frames (11.8.5); and after them the encoder of request frames. -/

namespace Sys2Proof

/-- The command that a word spells by the bits of spec/opcode_table.json. No row of the table gives bits, so no word spells
one (log 4, DEDUCED, safe). -/
def decodeTableWord (_nbits _w : Nat) : Option Instr := none

/-! ## Fields (R189): most significant byte first -/

def be16 (a b : Byte) : Nat := a.toNat * 256 + b.toNat
def be32 (a b c d : Byte) : Nat := ((a.toNat * 256 + b.toNat) * 256 + c.toNat) * 256 + d.toNat

/-- R189: the all-ones value of a field that may be omitted stands for its absence. -/
def orAbsent (ones n : Nat) : Option Nat := if n = ones then none else some n

def opt8 (a : Byte) : Option Nat := orAbsent 255 a.toNat
def opt16 (a b : Byte) : Option Nat := orAbsent 65535 (be16 a b)
def opt32 (a b c d : Byte) : Option Nat := orAbsent 4294967295 (be32 a b c d)
def word16 (a b : Byte) : BitVec 16 := a ++ b

/-- 11.8.3: the body of each request kind. `none` for a kind that is no request kind or a body of another length. -/
def decodeBody (kind tag : Byte) (body : List Byte) : Option Instr :=
  match kind.toNat, body with
  | 0x01, [] => some (.start tag)
  | 0x02, [] => some (.stop tag)
  | 0x03, [] => some (.restart tag)
  | 0x10, [p, k, i, o, c] => some (.port tag p.toNat k.toNat (opt8 i) (opt8 o) (opt8 c))
  | 0x11, [c, op, l1, l0, pr, d1, d0, k1, k0] =>
      if op.toNat = 0 then some (.channelClose tag c.toNat)
      else some (.channel tag c.toNat op.toNat (word16 l1 l0) (opt8 pr) (opt16 d1 d0) (opt16 k1 k0))
  | 0x12, [f, e, v1, v0, m1, m0, c] =>
      some (.filter tag f.toNat e.toNat (word16 v1 v0) (word16 m1 m0) c.toNat)
  | 0x13, [m, l3, l2, l1, l0, h3, h2, h1, h0, c1, c0, e1, e0, a1, a0] =>
      some (.governor tag m.toNat (opt32 l3 l2 l1 l0) (opt32 h3 h2 h1 h0) (opt16 c1 c0) (opt16 e1 e0)
        (opt16 a1 a0))
  | 0x20, [p, t1, t0, d1, d0] => some (.trim tag p.toNat (be16 t1 t0) (opt16 d1 d0))
  | 0x21, [k1, k0, o, tt, tn, l1, l0, p, m] =>
      if tt.toNat = 0 then some (.keyRemove tag (be16 k1 k0))
      else some (.key tag (be16 k1 k0) o.toNat tt.toNat tn.toNat (opt16 l1 l0) (opt8 p) (opt8 m))
  | 0x22, g :: m :: t1 :: t0 :: n :: members =>
      if members.length = n.toNat then
        some (.group tag g.toNat m.toNat (opt16 t1 t0) (members.map BitVec.toNat))
      else none
  | 0x23, [s, d, c, l1, l0] => some (.routeAdd tag s.toNat d.toNat c.toNat (opt16 l1 l0))
  | 0x24, [s, d, c] => some (.routeDrop tag s.toNat d.toNat c.toNat)
  | 0x25, [] => some (.routeCopy tag)
  | 0x26, [] => some (.swap tag)
  | 0x27, [p, v] => some (.presence tag p.toNat v.toNat)
  | 0x28, [m] => some (.notify tag m)
  | 0x30, [k1, k0] => some (.press tag (be16 k1 k0))
  | 0x31, [k1, k0] => some (.release tag (be16 k1 k0))
  | 0x32, [c, q1, q0] => some (.cueSend tag c.toNat (be16 q1 q0))
  | 0x33, [c, d1, d0, f] => some (.checkStart tag c.toNat (opt16 d1 d0) (opt8 f))
  | 0x34, [c] => some (.checkStop tag c.toNat)
  | 0x40, [p] => some (.queryPort tag p.toNat)
  | 0x41, [d] => some (.queryPaths tag d.toNat)
  | 0x42, [k1, k0] => some (.queryKey tag (be16 k1 k0))
  | 0x43, [g] => some (.queryGroup tag g.toNat)
  | 0x44, [p] => some (.queryEarpiece tag p.toNat)
  | 0x45, [c] => some (.queryChannel tag c.toNat)
  | 0x46, [p] => some (.queryProtect tag p.toNat)
  | 0x47, [s, i1, i0] => some (.queryRoutes tag s.toNat (be16 i1 i0))
  | 0x50, [] => some (.resync tag)
  | _, _ => none

/-- R178: the command that the bytes of a request frame make, its length byte first. A frame too short, of unknown kind, of
wrong body length, or cut off by CSN is BAD_FRAME, with the kind and the tag that were received. No byte makes no frame
(R176). Bytes beyond the frame's end are disregarded (log 31, DEDUCED, unsafe). -/
def takeFrame : List Byte → Option Instr
  | [] => none
  | len :: rest =>
      if rest.length < len.toNat then some (.badFrame rest[0]? rest[1]?)
      else
        match rest.take len.toNat with
        | [] => some (.badFrame none none)
        | [k] => some (.badFrame (some k) none)
        | k :: t :: body => some ((decodeBody k t body).getD (.badFrame (some k) (some t)))

/-- 11.8.1: the type bytes. -/
def writeType : Byte := 0x3C
def readType : Byte := 0xC3

/-- R176: the commands that the SDI bytes of one transaction make, the type byte first: its beginning, and the request of a WRITE.
A transaction that ends before its type byte is complete makes none. -/
def takeTransaction : List Byte → List Instr
  | [] => []
  | type :: rest =>
      if type = readType then [.readTransaction]
      else .otherTransaction type :: if type = writeType then (takeFrame rest).toList else []

/-! ## Link frames (11.8.5) -/

/-- A link frame's bytes, kind AUDIO 0x01 or CUE 0x02. -/
def linkFrameBytes (id : LinkId) (kind : Byte) (seq : Seq) (payload : List Byte) : List Byte :=
  id.extractLsb' 8 8 :: id.extractLsb' 0 8 :: kind :: seq.extractLsb' 8 8 :: seq.extractLsb' 0 8 :: payload

/-- R116: the arrival that a completed link frame makes. -/
def takeLinkFrame : List Byte → Instr
  | i1 :: i0 :: kind :: s1 :: s0 :: payload =>
      if kind = 0x01#8 then .audioFrameArrival (word16 i1 i0) (word16 s1 s0) payload
      else if kind = 0x02#8 then .cueFrameArrival (word16 i1 i0) (word16 s1 s0) payload
      else .malformedLinkFrame
  | _ => .malformedLinkFrame

/-- The 24-bit samples of a payload, three bytes each; a last partial sample is left out. -/
def payloadSamples : List Byte → List Sample
  | a :: b :: c :: rest => (a ++ b ++ c : BitVec 24) :: payloadSamples rest
  | _ => []

/-- 11.8.5: an AUDIO payload is 144 bytes; any other length is wrong (R126). -/
def audioBlock? (payload : List Byte) : Option Block :=
  if payload.length = 144 then
    let xs := payloadSamples payload
    if h : xs.length = 48 then some ⟨⟨xs⟩, by simpa using h⟩ else none
  else none

/-- 11.8.5: a CUE payload is one byte. -/
def cueCode? : List Byte → Option Byte
  | [c] => some c
  | _ => none

/-- 11.8.5: the two cue codes with a meaning to the receiver. -/
def cueCall : Byte := 0x01
def cueCancel : Byte := 0x02

/-! ## The encoder of request frames -/

def byteOf (n : Nat) : Byte := BitVec.ofNat 8 n
def bytes16 (n : Nat) : List Byte := [byteOf (n / 256), byteOf n]
def bytes32 (n : Nat) : List Byte := [byteOf (n / 16777216), byteOf (n / 65536), byteOf (n / 256), byteOf n]
def bits16 (x : BitVec 16) : List Byte := [x.extractLsb' 8 8, x.extractLsb' 0 8]
def optByte (o : Option Nat) : List Byte := [byteOf (o.getD 255)]
def optBytes16 (o : Option Nat) : List Byte := bytes16 (o.getD 65535)
def optBytes32 (o : Option Nat) : List Byte := bytes32 (o.getD 4294967295)

/-- 11.8.3: the kind, the tag and the body of a request; `none` for a command that no request frame carries. -/
def encodeBody : Instr → Option (Byte × Byte × List Byte)
  | .start t => some (0x01, t, [])
  | .stop t => some (0x02, t, [])
  | .restart t => some (0x03, t, [])
  | .port t p k i o c => some (0x10, t, byteOf p :: byteOf k :: (optByte i ++ optByte o ++ optByte c))
  | .channel t c op l pr md ck =>
      some (0x11, t, byteOf c :: byteOf op :: (bits16 l ++ optByte pr ++ optBytes16 md ++ optBytes16 ck))
  | .channelClose t c => some (0x11, t, byteOf c :: List.replicate 8 0)
  | .filter t f e v m c => some (0x12, t, byteOf f :: byteOf e :: (bits16 v ++ bits16 m ++ [byteOf c]))
  | .governor t m tl tm c1 c2 a =>
      some (0x13, t, byteOf m :: (optBytes32 tl ++ optBytes32 tm ++ optBytes16 c1 ++ optBytes16 c2 ++ optBytes16 a))
  | .trim t p v d => some (0x20, t, byteOf p :: (bytes16 v ++ optBytes16 d))
  | .key t k o tt tn l p m =>
      some (0x21, t, bytes16 k ++ [byteOf o, byteOf tt, byteOf tn] ++ optBytes16 l ++ optByte p ++ optByte m)
  | .keyRemove t k => some (0x21, t, bytes16 k ++ List.replicate 7 0)
  | .group t g m w ms =>
      some (0x22, t, byteOf g :: byteOf m :: (optBytes16 w ++ byteOf ms.length :: ms.map byteOf))
  | .routeAdd t s d c l => some (0x23, t, byteOf s :: byteOf d :: byteOf c :: optBytes16 l)
  | .routeDrop t s d c => some (0x24, t, [byteOf s, byteOf d, byteOf c])
  | .routeCopy t => some (0x25, t, [])
  | .swap t => some (0x26, t, [])
  | .presence t p v => some (0x27, t, [byteOf p, byteOf v])
  | .notify t m => some (0x28, t, [m])
  | .press t k => some (0x30, t, bytes16 k)
  | .release t k => some (0x31, t, bytes16 k)
  | .cueSend t c q => some (0x32, t, byteOf c :: bytes16 q)
  | .checkStart t c d f => some (0x33, t, byteOf c :: (optBytes16 d ++ optByte f))
  | .checkStop t c => some (0x34, t, [byteOf c])
  | .queryPort t p => some (0x40, t, [byteOf p])
  | .queryPaths t d => some (0x41, t, [byteOf d])
  | .queryKey t k => some (0x42, t, bytes16 k)
  | .queryGroup t g => some (0x43, t, [byteOf g])
  | .queryEarpiece t p => some (0x44, t, [byteOf p])
  | .queryChannel t c => some (0x45, t, [byteOf c])
  | .queryProtect t p => some (0x46, t, [byteOf p])
  | .queryRoutes t s i => some (0x47, t, byteOf s :: bytes16 i)
  | .resync t => some (0x50, t, [])
  | .resetInput _ | .badFrame _ _ | .readTransaction | .otherTransaction _ | .blockBoundary | .concealLimit _
  | .channelIdleLimit _ | .channelDrop _ | .channelRecovery _ | .checkCompletion _ | .pathRemoval _ | .waitTimeout _ | .windowEnd
  | .swapJudgement | .clockLost | .clockPresent | .audioFrameArrival _ _ _ | .cueFrameArrival _ _ _
  | .malformedLinkFrame | .linkFrameBegin _ | .linkFrameSent | .frameSync _ _ | .readTransactionEnd _ => none

/-- 11.8.2: the request frame, its length byte first. -/
def encodeFrame (i : Instr) : Option (List Byte) :=
  (encodeBody i).map fun (kind, tag, body) => byteOf (body.length + 2) :: kind :: tag :: body

end Sys2Proof
end

