-- ==== Sys2Proof/Config.lean ====
section
/-! DEFINITION. The fixed limits and defaults of the part. The spec leaves no value open, so there is no free value here. -/

namespace Sys2Proof.Config

/-- R19: records in the path table. -/
def maxPaths : Nat := 512
/-- R19: records with one destination. -/
def maxPathsPerDest : Nat := 32
/-- 0.4.4: the top of the level range; 4096 is unity. -/
def maxLevel : Nat := 8192
def unity : Nat := 4096
/-- R181: replies waiting. -/
def maxReplies : Nat := 16
/-- R183: notices waiting. -/
def maxNotices : Nat := 64
/-- R99: interrupt lists in the pool. -/
def earpiecePool : Nat := 16
/-- R100: entries in one interrupt list. -/
def maxTalkers : Nat := 4
/-- 5.1.2 and 5.1.5: members of a group, waiters in its queue. -/
def maxMembers : Nat := 8
def maxWaiters : Nat := 4
/-- 5.1.6: the wait timeout's range and default. -/
def minTimeout : Nat := 100
def maxTimeout : Nat := 60000
def defaultTimeout : Nat := 10000
/-- R66: a SMART key released before this many blocks latches. -/
def smartBlocks : Nat := 300
/-- R5, 1.1.6: the dip depth given to a new EARPIECE. -/
def defaultDipDepth : Nat := 64
/-- 0.4.4: the dip factor that leaves the programme alone. -/
def noDip : Nat := 256
/-- R110: the largest step of a dip factor in one block. -/
def dipStep : Nat := 32
/-- R125, R130: the rise of the quality count, its end, and the DEGRADED thresholds. -/
def qualityRise : Nat := 8
def qualityMax : Nat := 255
def degradedAt : Nat := 96
def degradedBelow : Nat := 64
/-- R129, R124, R133. -/
def concealLimit : Nat := 4
def idleLimit : Nat := 500
def recoveryRun : Nat := 128
/-- R121: prime level and max delay. -/
def defaultPrime : Nat := 6
def defaultMaxDelay : Nat := 250
/-- R143: entries in the outbound cue queue. -/
def maxCues : Nat := 8
/-- R146, R148: the check's default duration and the length of the send history. -/
def defaultDuration : Nat := 2000
def maxHistory : Nat := 256
/-- R118: where the unmatched count stops, and 9.2.3: where the openings count stops. -/
def countMax : Nat := 65535
/-- R154: the top of the threshold range. -/
def maxThreshold : Nat := 1073741824
/-- R156: blocks in a window. -/
def windowBlocks : Nat := 100
/-- R159: window counts kept. -/
def historyWindows : Nat := 8
/-- R167, R175. -/
def maxRoutes : Nat := 256
def routesPerReply : Nat := 16
/-- R13: closely spaced frame syncs that declare the clock present. -/
def syncsToPresent : Nat := 48

end Sys2Proof.Config
end

