-- ==== Sys2Proof/Machine/State.lean ====
section
/-! DEFINITION. The state of the 4816, block by block (00_scope 0.3.1), as plain data; its reset values; the faults and
refusals. Each field cites the section or rule that names it. -/

namespace Sys2Proof.Machine

/-! ## Enumerations (11.8.4) -/

inductive Mode where
  | config | run
  deriving DecidableEq, Repr

inductive PortKind where
  | unused | panel | earpiece | field | source
  deriving DecidableEq, Repr

inductive Presence where
  | available | engaged | away
  deriving DecidableEq, Repr

inductive KeyMode where
  | momentary | latch | smart
  deriving DecidableEq, Repr

inductive Activation where
  | idle | held | latched | unlatching
  deriving DecidableEq, Repr

inductive DenyReason where
  | noSpace | listFull | timeout
  deriving DecidableEq, Repr

/-- 4.1.9: what a destination answered. -/
inductive EntryStatus where
  | live | heldBack | denied (reason : DenyReason)
  deriving DecidableEq, Repr

/-- R73. -/
inductive DeliveryState where
  | none | live | heldBack | partly | waiting | denied
  deriving DecidableEq, Repr

inductive GroupMode where
  | all | hunt
  deriving DecidableEq, Repr

inductive PathClass where
  | feed | talk
  deriving DecidableEq, Repr

inductive ChanState where
  | closed | waiting | priming | running | dropped
  deriving DecidableEq, Repr

inductive GovMode where
  | off | open | closed
  deriving DecidableEq, Repr

inductive CheckState where
  | idle | running | passed | failed | stopped
  deriving DecidableEq, Repr

inductive CheckReason where
  | noReturn | errors | delay | dropped | noLink
  deriving DecidableEq, Repr

inductive ForwardOption where
  | silent | forward
  deriving DecidableEq, Repr

inductive SwapOutcome where
  | done | failed | abandoned
  deriving DecidableEq, Repr

inductive Status where
  | ok | badFrame | badArg | wrongMode | busy | noSpace | notFound
  deriving DecidableEq, Repr

/-! ## Objects -/

/-- 0.4.6: a path endpoint. -/
inductive Endpoint where
  | port (p : PortId) | bus (b : BusId)
  deriving DecidableEq, Repr

/-- 4.1.2: what a key aims at. -/
inductive Target where
  | port (p : PortId) | bus (b : BusId) | group (g : GroupId)
  deriving DecidableEq, Repr

/-- 1.1.2: a TDM slot. -/
structure Slot where
  lane : Fin 6
  slot : Fin 8
  deriving DecidableEq, Repr

/-! ## Port table (1.1) -/

structure PortRecord where
  kind : PortKind
  inSlot : Option Slot
  outSlot : Option Slot
  channel : Option ChanId
  trim : Option Nat
  dipDepth : Option Nat
  presence : Presence
  deriving DecidableEq, Repr

/-- R2. -/
def PortRecord.reset : PortRecord := ⟨.unused, none, none, none, none, none, .available⟩

/-! ## Audio lane interface (1.2 to 1.4) -/

structure Lanes where
  /-- R12, R13. -/
  clockPresent : Bool
  /-- R13: frame syncs counted while the clock is lost. -/
  syncCount : Nat
  /-- R7: the frames of the input block captured so far, frame 0 first. -/
  input : List TdmFrame
  /-- R9: the output samples of the block being driven, per port. -/
  outBlock : Option (Vector Block 48)
  /-- R7, R9: the frame last driven on the output slots; `none` while nothing is driven (R12). -/
  tdmOut : Option SlotFrame
  deriving DecidableEq, Repr

def Lanes.reset : Lanes := ⟨false, 0, [], none, some (Vector.replicate 48 0)⟩

/-! ## Path table (2.1) -/

/-- 2.1.1: the identity of a path, and of a route (10.1). -/
structure PathId where
  src : Endpoint
  dst : Endpoint
  cls : PathClass
  deriving DecidableEq, Repr

structure Path where
  /-- 2.1.8. -/
  pos : Nat
  ident : PathId
  /-- 2.1.2: the key holders, in ascending order. -/
  keys : List KeyId
  /-- 2.1.2: whether ROUTE is a holder. -/
  route : Bool
  /-- 2.1.3: Tg. -/
  target : Nat
  /-- 2.1.4: e0 and i. -/
  start : Nat
  index : Nat
  suspended : Bool
  closing : Bool
  /-- The model's own (log 2, DESIGN CHOICE, unsafe): it used i = 8 while closing in a computed block, so R30 removes it. -/
  spent : Bool
  deriving DecidableEq, Repr

/-! ## Mix engine (3.4.1, R56) -/

structure Gain where
  target : Nat
  start : Nat
  index : Nat
  deriving DecidableEq, Repr

structure Mix where
  gains : Vector (Option Gain) 48
  clips : Vector Nat 48
  deriving DecidableEq, Repr

def Mix.reset : Mix := ⟨Vector.replicate 48 none, Vector.replicate 48 0⟩

/-! ## Key table (4.1) -/

structure DestEntry where
  dest : Option Endpoint
  status : EntryStatus
  deriving DecidableEq, Repr

structure KeyRecord where
  owner : Option PortId
  target : Option Target
  level : Nat
  priority : Nat
  mode : KeyMode
  activation : Activation
  pressBlock : Option BlockCount
  delivered : Bool
  entries : List DestEntry
  deadline : Option BlockCount
  deriving DecidableEq, Repr

/-- R60. -/
def KeyRecord.reset : KeyRecord := ⟨none, none, Config.unity, 0, .momentary, .idle, none, false, [], none⟩

/-! ## Group table (5.1) -/

/-- 5.1.2 and 5.1.4: a member and the key that engages it. -/
structure Member where
  port : PortId
  engagedBy : Option KeyId
  deriving DecidableEq, Repr

structure GroupRecord where
  mode : GroupMode
  members : List Member
  lru : List PortId
  waiters : List KeyId
  timeout : Nat
  deriving DecidableEq, Repr

/-- R81. -/
def GroupRecord.reset : GroupRecord := ⟨.all, [], [], [], Config.defaultTimeout⟩

/-! ## Earpiece unit (6.1, 6.4.1) -/

structure TalkEntry where
  key : KeyId
  priority : Nat
  number : BitVec 32
  deriving DecidableEq, Repr

structure Dip where
  target : Nat
  /-- D0. -/
  start : Nat
  /-- A. -/
  count : Nat
  deriving DecidableEq, Repr

/-- R112: a dip record at rest at 256. -/
def Dip.rest : Dip := ⟨Config.noDip, Config.noDip, 8⟩

/-- An interrupt list of the pool, assigned to one EARPIECE port (log 22, DESIGN CHOICE, safe). -/
structure Ear where
  entries : List TalkEntry
  count : BitVec 32
  dip : Dip
  deriving DecidableEq, Repr

/-- R99. -/
def Ear.empty : Ear := ⟨[], 0, Dip.rest⟩

/-! ## Link receiver (7.2.1, 7.3) -/

structure Filter where
  enabled : Bool
  value : LinkId
  mask : LinkId
  channel : ChanId
  deriving DecidableEq, Repr

/-- R119. -/
def Filter.reset : Filter := ⟨false, 0, 0, 0⟩

structure ChannelConfig where
  linkId : LinkId
  prime : Nat
  maxDelay : Nat
  callKey : Option KeyId
  deriving DecidableEq, Repr

structure RingBlock where
  seq : Seq
  samples : Block
  deriving DecidableEq, Repr

structure Channel where
  state : ChanState
  config : Option ChannelConfig
  nextSeq : Option Seq
  /-- 7.3.8: the place of a block is its sequence modulo 32. -/
  ring : Vector (Option RingBlock) 32
  prevYield : Block
  conceal : Nat
  quality : Nat
  degraded : Bool
  excess : Bool
  run : Nat
  idle : Nat
  lastCue : Option Byte
  /-- The model's own (log 2, DESIGN CHOICE, unsafe): the frame that completed a recovery run, for CHANNEL_RECOVERY to store
  (R133). -/
  held : Option RingBlock
  deriving DecidableEq, Repr

def silence : Block := Vector.replicate 48 0

def emptyRing : Vector (Option RingBlock) 32 := Vector.replicate 32 none

/-- R120. -/
def Channel.reset : Channel :=
  ⟨.closed, none, none, emptyRing, silence, 0, 0, false, false, 0, 0, none, none⟩

structure Receiver where
  filters : Vector Filter 16
  channels : Vector Channel 8
  unmatched : Nat
  deriving DecidableEq, Repr

def Receiver.reset : Receiver := ⟨Vector.replicate 16 Filter.reset, Vector.replicate 8 Channel.reset, 0⟩

/-! ## Link transmitter (8.1 to 8.3) -/

/-- An AUDIO frame made and not yet begun (R144). -/
structure AudioFrame where
  channel : ChanId
  linkId : LinkId
  seq : Seq
  samples : Block
  deriving DecidableEq, Repr

structure OutCue where
  channel : ChanId
  code : Byte
  /-- Its frame has been begun and its last byte not yet sent. -/
  begun : Bool
  deriving DecidableEq, Repr

/-- A frame in progress on the transmit port. -/
inductive TxFrame where
  | audio (f : AudioFrame)
  | cue (linkId : LinkId) (seq : Seq) (code : Byte)
  deriving DecidableEq, Repr

structure Transmitter where
  outSeq : Vector Seq 8
  ready : List AudioFrame
  cues : List OutCue
  sending : Option TxFrame
  deriving DecidableEq, Repr

def Transmitter.reset : Transmitter := ⟨Vector.replicate 8 0, [], [], none⟩

/-! ## Line checker (8.4) -/

structure Check where
  state : CheckState
  startBlock : BlockCount
  duration : Nat
  forward : ForwardOption
  sent : Nat
  matched : Nat
  mismatched : Nat
  lastDelay : Option Nat
  maxDelay : Option Nat
  reason : Option CheckReason
  /-- 8.4.7: pattern number and block count, lowest pattern number first (log 21, DEDUCED, safe: empty where absent). -/
  history : List (Nat × BlockCount)
  deriving DecidableEq, Repr

/-- R146. -/
def Check.reset : Check := ⟨.idle, 0, Config.defaultDuration, .silent, 0, 0, 0, none, none, none, []⟩

/-! ## Protection governor (9.1, 9.2) -/

structure GovConfig where
  mode : GovMode
  tLow : Nat
  tMid : Nat
  cap1 : Nat
  cap2 : Nat
  limit : Nat
  deriving DecidableEq, Repr

/-- R154: mode OFF with every default. -/
def GovConfig.reset : GovConfig := ⟨.off, 2097152, 4194304, 2896, 2048, 12⟩

/-- 9.2.5. -/
structure LastWindow where
  peak : Nat
  openings : Nat
  clips : Nat
  deriving DecidableEq, Repr

structure Protection where
  level : Nat
  peak : Nat
  openings : Nat
  /-- 9.2.4: oldest first. -/
  history : List Nat
  last : Option LastWindow
  deriving DecidableEq, Repr

/-- R155. -/
def Protection.reset : Protection := ⟨0, 0, 0, [], none⟩

structure Governor where
  config : GovConfig
  records : Vector Protection 48
  /-- The model's own (log 2, DESIGN CHOICE, unsafe): a window's last block has been computed, so R159 closes the window. -/
  windowDue : Bool
  deriving DecidableEq, Repr

def Governor.reset : Governor := ⟨GovConfig.reset, Vector.replicate 48 Protection.reset, false⟩

/-! ## Route store (10.1) -/

structure Route where
  ident : PathId
  level : Nat
  deriving DecidableEq, Repr

structure RouteStore where
  active : List Route
  standby : List Route
  swapPending : Bool
  /-- The model's own (log 2, DESIGN CHOICE, unsafe): a boundary has been taken since the SWAP, so R170 judges it. -/
  judgementDue : Bool
  deriving DecidableEq, Repr

/-- R166. -/
def RouteStore.reset : RouteStore := ⟨[], [], false, false⟩

/-! ## Control link interface (11.1 to 11.5) -/

/-- R189: a field of a reply or notice body. The `opt` fields carry all ones when absent; the `tagged` ones, whose range takes
in all ones, are preceded by a presence byte. -/
inductive Field where
  | u8 (n : Nat) | u16 (n : Nat) | u32 (n : Nat)
  | opt8 (n : Option Nat) | opt16 (n : Option Nat) | opt32 (n : Option Nat)
  | tagged8 (n : Option Nat) | tagged16 (n : Option Nat) | tagged32 (n : Option Nat)
  deriving DecidableEq, Repr

/-- R179. -/
structure Reply where
  kind : Byte
  tag : Byte
  status : Status
  body : List Field
  deriving DecidableEq, Repr

/-- R153: what a CHECK notice holds. -/
structure CheckReport where
  channel : ChanId
  state : CheckState
  reason : Option CheckReason
  duration : Nat
  startBlock : BlockCount
  sent : Nat
  matched : Nat
  mismatched : Nat
  lastDelay : Option Nat
  maxDelay : Option Nat
  endBlock : BlockCount
  deriving DecidableEq, Repr

/-- R174: the limit that failed a swap. -/
inductive SwapLimit where
  | table | destination (d : Endpoint)
  deriving DecidableEq, Repr

/-- R183: an entry of the notice queue. A state kind holds its subject; an event kind holds its body. -/
inductive Notice where
  | key (k : KeyId)
  | earpiece (p : PortId)
  | link (c : ChanId)
  | protect (p : PortId)
  | cueIn (c : ChanId) (code : Byte) (block : BlockCount)
  | swap (outcome : SwapOutcome) (block : BlockCount) (routes : Nat) (creations : Option Nat)
      (limit : Option SwapLimit)
  | check (r : CheckReport)
  | clock (present : Bool) (block : BlockCount)
  deriving DecidableEq, Repr

/-- R186: where the frame of a READ transaction came from. -/
inductive ReadSource where
  | reply | notice | empty
  deriving DecidableEq, Repr

/-- R186: the READ transaction in progress. -/
structure Reading where
  source : ReadSource
  /-- The bytes sent on SDO after the status byte. -/
  frame : List Byte
  /-- A change of the subject of the state notice being sent has come since its body was read. -/
  marked : Bool
  deriving DecidableEq, Repr

structure ControlLink where
  replies : List Reply
  notices : List Notice
  /-- R184: bit k enables the notice kind of value k. -/
  mask : Byte
  overflow : Bool
  writeRefused : Bool
  fresh : Bool
  reading : Option Reading
  /-- R177: the status byte last shifted out (log 8, DESIGN CHOICE, unsafe: 0 at reset). -/
  statusOut : Byte
  /-- R176: a WRITE transaction is in progress and its request frame has not been taken. -/
  writing : Bool
  deriving DecidableEq, Repr

def ControlLink.reset : ControlLink := ⟨[], [], 0xFF, false, false, true, none, 0, false⟩

/-! ## The machine -/

/-- No command of the 4816 faults: every command has its effect in every state (see INVENTORY.md, Faults). -/
inductive Fault where
  deriving DecidableEq, Repr

inductive Refusal where
  /-- Raised by an arm of `exec` whose command has no meaning yet; safe. No arm raises it. -/
  | notModelled (mnemonic : String)
  deriving DecidableEq, Repr

structure State where
  /-- R17: RSTN is held low. -/
  rstnLow : Bool
  /-- R14. -/
  mode : Mode
  /-- R11. -/
  blockCount : BlockCount
  ports : Vector PortRecord 48
  lanes : Lanes
  /-- 2.1: in order of position. -/
  paths : List Path
  mix : Mix
  keys : Vector KeyRecord 256
  groups : Vector GroupRecord 32
  /-- 6.1: the interrupt list assigned to each EARPIECE port. -/
  ears : Vector (Option Ear) 48
  rx : Receiver
  tx : Transmitter
  checks : Vector Check 8
  gov : Governor
  routes : RouteStore
  link : ControlLink
  /-- The model's own (log 12, DESIGN CHOICE, unsafe): the block count of the event whose due steps remain. -/
  eventBlock : BlockCount
  /-- The model's own (log 3, DESIGN CHOICE, safe): the commands that wait, first in first out. -/
  pending : List Instr
  deriving DecidableEq, Repr

/-- R17: the reset condition (log 11; the values of the model's own fields are DESIGN CHOICE, unsafe). -/
def State.reset : State where
  rstnLow := false
  mode := .config
  blockCount := 0
  ports := Vector.replicate 48 PortRecord.reset
  lanes := Lanes.reset
  paths := []
  mix := Mix.reset
  keys := Vector.replicate 256 KeyRecord.reset
  groups := Vector.replicate 32 GroupRecord.reset
  ears := Vector.replicate 48 none
  rx := Receiver.reset
  tx := Transmitter.reset
  checks := Vector.replicate 8 Check.reset
  gov := Governor.reset
  routes := RouteStore.reset
  link := ControlLink.reset
  eventBlock := 0
  pending := []

end Sys2Proof.Machine
end

