-- ==== Sys2Proof/Machine/Arith.lean ====
section
/-! DEFINITION. Rounding, saturation, ramps and modular order (00_scope 0.4). -/

namespace Sys2Proof.Machine

/-- 0.4.3: division by `n` rounded to nearest, exact halves toward +∞. -/
def roundDiv (n : Nat) (x : Int) : Int := (x + ((n / 2 : Nat) : Int)) / (n : Int)

/-- 0.4.1: the largest and the smallest sample. -/
def sampleMax : Int := 8388607
def sampleMin : Int := -8388608

/-- 0.4.1: `x` limited to the sample range. -/
def sat24 (x : Int) : Int := if sampleMax < x then sampleMax else if x < sampleMin then sampleMin else x

/-- R55: the value lies outside the sample range. -/
def clips24 (x : Int) : Bool := decide (sampleMax < x) || decide (x < sampleMin)

/-- The sample whose value is `x`, for `x` within the sample range. -/
def sampleOf (x : Int) : Sample := BitVec.ofInt 24 x

/-- 2.1.5, R23, R53: the level a ramp has reached, e0 + (Tg − e0) × i / 8 with the quotient truncated toward zero. -/
def rampLevel (start target index : Nat) : Nat :=
  ((start : Int) + (((target : Int) - (start : Int)) * (index : Int)).tdiv 8).toNat

/-- R110: the dip factor, D0 moved toward the target by min(32 × A, |target − D0|). -/
def dipFactor (start target count : Nat) : Nat :=
  if target < start then start - min (Config.dipStep * count) (start - target)
  else start + min (Config.dipStep * count) (target - start)

/-- A value brought to the nearer end of its range (0.4.7, R180). -/
def clampTo (lo hi n : Nat) : Nat := max lo (min hi n)

/-- 0.4.5: `s` is ahead of or equal to `e`. -/
def aheadOrEqual (s e : Seq) : Bool := decide ((s - e).toNat < 32768)

/-- 7.4: `s` is within the window of `e`. -/
def inWindow (s e : Seq) : Bool := decide ((s - e).toNat ≤ 31)

/-- 7.3.8: the place of a sequence in the jitter ring. -/
def ringPlace (s : Seq) : Fin 32 := ⟨s.toNat % 32, Nat.mod_lt _ (by decide)⟩

/-- R156: the number of the window a block belongs to. -/
def windowOf (n : BlockCount) : Nat := n.toNat / Config.windowBlocks

/-- R156: block `n` is the last of its window, block 4,294,967,295 included. -/
def endsWindow (n : BlockCount) : Bool :=
  decide (n.toNat % Config.windowBlocks = 99) || decide (n.toNat = 4294967295)

/-- R56: block `n` is the first of its window. -/
def beginsWindow (n : BlockCount) : Bool := decide (n.toNat % Config.windowBlocks = 0)

end Sys2Proof.Machine
end

