-- ==== Sys2Proof/Machine/Tables.lean ====
section
/-! DEFINITION. Reading, writing and walking the fixed tables of the state. -/

namespace Sys2Proof.Machine

/-- Each record of a table with its number, in ascending order. -/
def tableRows (v : Vector α n) : List (Fin n × α) := (List.finRange n).zip v.toList

/-- The same change made to every record. -/
def tableMap (f : α → β) (v : Vector α n) : Vector β n := ⟨⟨v.toList.map f⟩, by simp⟩

/-- One record per number. -/
def tableOf (f : Fin n → α) : Vector α n := ⟨⟨(List.finRange n).map f⟩, by simp⟩

/-- One record replaced. -/
def tableSet (v : Vector α n) (i : Fin n) (x : α) : Vector α n := v.set i x

/-- A number of an object, if the raw number is in range (R180). -/
def objectNumber (n raw : Nat) : Option (Fin n) := if h : raw < n then some ⟨raw, h⟩ else none

namespace State

def setPort (s : State) (p : PortId) (r : PortRecord) : State := { s with ports := tableSet s.ports p r }
def setKey (s : State) (k : KeyId) (r : KeyRecord) : State := { s with keys := tableSet s.keys k r }
def setGroup (s : State) (g : GroupId) (r : GroupRecord) : State := { s with groups := tableSet s.groups g r }
def setEar (s : State) (p : PortId) (e : Option Ear) : State := { s with ears := tableSet s.ears p e }
def setGain (s : State) (p : PortId) (g : Option Gain) : State :=
  { s with mix := { s.mix with gains := tableSet s.mix.gains p g } }
def setChannel (s : State) (c : ChanId) (r : Channel) : State :=
  { s with rx := { s.rx with channels := tableSet s.rx.channels c r } }
def setCheck (s : State) (c : ChanId) (r : Check) : State := { s with checks := tableSet s.checks c r }
def setProtection (s : State) (p : PortId) (r : Protection) : State :=
  { s with gov := { s.gov with records := tableSet s.gov.records p r } }

end State

end Sys2Proof.Machine
end

