-- ==== Sys2Proof/Machine/Operands.lean ====
section
/-! DEFINITION. Reading the raw numbers of a request (R180, R189) and the codes of enumerations (11.8.4), both ways. -/

namespace Sys2Proof.Machine

/-! ## Enumerations of requests: `none` for a value outside the list of 11.8.4 (BAD_ARG; log 30, DEDUCED, unsafe) -/

def portKindOf : Nat → Option PortKind
  | 0 => some .unused | 1 => some .panel | 2 => some .earpiece | 3 => some .field | 4 => some .source | _ => none
def presenceValueOf : Nat → Option Presence
  | 0 => some .available | 1 => some .engaged | 2 => some .away | _ => none
def keyModeOf : Nat → Option KeyMode
  | 0 => some .momentary | 1 => some .latch | 2 => some .smart | _ => none
def groupModeOf : Nat → Option GroupMode
  | 0 => some .all | 1 => some .hunt | _ => none
def classOf : Nat → Option PathClass
  | 0 => some .feed | 1 => some .talk | _ => none
def govModeOf : Nat → Option GovMode
  | 0 => some .off | 1 => some .open | 2 => some .closed | _ => none
def forwardOf : Nat → Option ForwardOption
  | 0 => some .silent | 1 => some .forward | _ => none
def flagOf : Nat → Option Bool
  | 0 => some false | 1 => some true | _ => none
/-- ACTIVE 0 (`true`), STANDBY 1 (`false`). -/
def activeSetOf : Nat → Option Bool
  | 0 => some true | 1 => some false | _ => none

/-- R189: a slot byte. -/
def slotOf (raw : Nat) : Option Slot :=
  if h : raw / 16 < 6 ∧ raw % 16 < 8 then some ⟨⟨raw / 16, h.1⟩, ⟨raw % 16, h.2⟩⟩ else none

/-- R189: an endpoint byte; port 0 to 47, bus b as 128 + b. -/
def endpointOf (raw : Nat) : Option Endpoint :=
  if h : raw < 48 then some (.port ⟨raw, h⟩)
  else if h : 128 ≤ raw ∧ raw - 128 < 8 then some (.bus ⟨raw - 128, h.2⟩)
  else none

/-- R61 check 1: a key's target type and number. -/
def targetOf (type number : Nat) : Option Target :=
  match type with
  | 1 => (objectNumber 48 number).map .port
  | 2 => (objectNumber 8 number).map .bus
  | 3 => (objectNumber 32 number).map .group
  | _ => none

/-- A field that may be omitted: absent, or read by `f`, or out of range. -/
def optionally (f : Nat → Option α) : Option Nat → Option (Option α)
  | none => some none
  | some raw => (f raw).map some

/-! ## Codes of replies and notices (11.8.4) -/

def PortKind.code : PortKind → Nat
  | .unused => 0 | .panel => 1 | .earpiece => 2 | .field => 3 | .source => 4
def Presence.code : Presence → Nat
  | .available => 0 | .engaged => 1 | .away => 2
def KeyMode.code : KeyMode → Nat
  | .momentary => 0 | .latch => 1 | .smart => 2
def Activation.code : Activation → Nat
  | .idle => 0 | .held => 1 | .latched => 2 | .unlatching => 3
def DeliveryState.code : DeliveryState → Nat
  | .none => 0 | .live => 1 | .heldBack => 2 | .partly => 3 | .waiting => 4 | .denied => 5
def EntryStatus.code : EntryStatus → Nat
  | .live => 1 | .heldBack => 2 | .denied _ => 5
def DenyReason.code : DenyReason → Nat
  | .noSpace => 1 | .listFull => 2 | .timeout => 3
def EntryStatus.reasonCode : EntryStatus → Option Nat
  | .live => none | .heldBack => none | .denied r => some r.code
def GroupMode.code : GroupMode → Nat
  | .all => 0 | .hunt => 1
def PathClass.code : PathClass → Nat
  | .feed => 0 | .talk => 1
def ChanState.code : ChanState → Nat
  | .closed => 0 | .waiting => 1 | .priming => 2 | .running => 3 | .dropped => 4
def Mode.code : Mode → Nat
  | .config => 0 | .run => 1
def GovMode.code : GovMode → Nat
  | .off => 0 | .open => 1 | .closed => 2
def CheckState.code : CheckState → Nat
  | .idle => 0 | .running => 1 | .passed => 2 | .failed => 3 | .stopped => 4
def CheckReason.code : CheckReason → Nat
  | .noReturn => 1 | .errors => 2 | .delay => 3 | .dropped => 4 | .noLink => 5
def ForwardOption.code : ForwardOption → Nat
  | .silent => 0 | .forward => 1
def SwapOutcome.code : SwapOutcome → Nat
  | .done => 0 | .failed => 1 | .abandoned => 2
def SwapLimit.code : SwapLimit → Nat
  | .table => 0 | .destination _ => 1
def Status.code : Status → Nat
  | .ok => 0 | .badFrame => 1 | .badArg => 2 | .wrongMode => 3 | .busy => 4 | .noSpace => 5 | .notFound => 6
def Endpoint.code : Endpoint → Nat
  | .port p => p.val | .bus b => 128 + b.val
def Slot.code (x : Slot) : Nat := x.lane.val * 16 + x.slot.val
/-- 11.8.4 and R189: target type and number. -/
def Target.typeCode : Target → Nat
  | .port _ => 1 | .bus _ => 2 | .group _ => 3
def Target.number : Target → Nat
  | .port p => p.val | .bus b => b.val | .group g => g.val
def flagCode (b : Bool) : Nat := if b then 1 else 0

/-- A slot's place in a TDM frame. -/
def Slot.place (x : Slot) : Fin 48 := ⟨8 * x.lane.val + x.slot.val, by omega⟩

end Sys2Proof.Machine
end

