-- ==== Sys2Proof/Machine/Notices.lean ====
section
/-! DEFINITION. Queueing notices and replies, the status byte and ATTN (R177, R181, R183 to R187). -/

namespace Sys2Proof.Machine

/-- 11.8.2: the notice kind's value, its bit in the NOTIFY mask. -/
def Notice.kindCode : Notice → Nat
  | .key _ => 0 | .earpiece _ => 1 | .link _ => 2 | .protect _ => 3
  | .cueIn _ _ _ => 4 | .swap _ _ _ _ _ => 5 | .check _ => 6 | .clock _ _ => 7

/-- R183: the state kinds, one entry per kind and subject. -/
def Notice.isStateKind : Notice → Bool
  | .key _ => true | .earpiece _ => true | .link _ => true | .protect _ => true
  | .cueIn _ _ _ => false | .swap _ _ _ _ _ => false | .check _ => false | .clock _ _ => false

/-- R184: the kind's flag in the enable mask is set. -/
def ControlLink.enabled (l : ControlLink) (n : Notice) : Bool := l.mask.getLsbD n.kindCode

/-- R186: the notice is the entry being sent. -/
def ControlLink.isBeingSent (l : ControlLink) (n : Notice) : Bool :=
  match l.reading with
  | some r => decide (r.source = .notice) && decide (l.notices.head? = some n)
  | none => false

/-- R186: the entry being sent is marked as changed. -/
def ControlLink.markReading (l : ControlLink) : ControlLink :=
  { l with reading := l.reading.map fun r => { r with marked := true } }

/-- R183 to R186: a change (state kind) or an event is reported. A disabled kind queues nothing; a state kind whose subject
has an entry keeps that entry, marking it if it is being sent; a full queue discards and sets OVERFLOW. -/
def ControlLink.report (l : ControlLink) (n : Notice) : ControlLink :=
  if !l.enabled n then l
  else if n.isStateKind && l.notices.contains n then
    if l.isBeingSent n then l.markReading else l
  else if Config.maxNotices ≤ l.notices.length then { l with overflow := true }
  else { l with notices := l.notices ++ [n] }

/-- A block reports a change or an event to the control link interface. -/
def State.report (n : Notice) (s : State) : State := { s with link := s.link.report n }

/-- The same for several, in order. -/
def State.reportAll (ns : List Notice) (s : State) : State := ns.foldl (fun s n => s.report n) s

/-- R181: a reply joins the reply queue. -/
def State.queueReply (r : Reply) (s : State) : State :=
  { s with link := { s.link with replies := s.link.replies ++ [r] } }

/-- R177 and 11.8.1: the status byte. -/
def State.statusByte (s : State) : Byte :=
  BitVec.ofNat 8 <|
    128 * flagCode s.link.fresh + 64 * flagCode s.routes.swapPending + 32 * flagCode s.lanes.clockPresent
      + 16 * flagCode (decide (s.mode = .run)) + 8 * flagCode s.link.writeRefused + 4 * flagCode s.link.overflow
      + 2 * flagCode (!s.link.notices.isEmpty) + flagCode (!s.link.replies.isEmpty)

/-- R187: ATTN is asserted while either queue holds an entry, and never while RSTN is low. -/
def State.attn (s : State) : Bool := !s.rstnLow && (!s.link.replies.isEmpty || !s.link.notices.isEmpty)

end Sys2Proof.Machine
end

