-- ==== Sys2Proof/Machine/Paths.lean ====
section
/-! DEFINITION. The path table: holders, targets, ramps, suspension, openings and removal (chapter 2). -/

namespace Sys2Proof.Machine

/-- 2.1.2: a holder of a path. -/
inductive Holder where
  | key (k : KeyId) | route
  deriving DecidableEq, Repr

/-- 2.1.5: the present level. -/
def Path.level (p : Path) : Nat := rampLevel p.start p.target p.index

/-- R28: no holder is left. -/
def Path.unheld (p : Path) : Bool := p.keys.isEmpty && !p.route

/-- Whether a holder is a member of the set. -/
def Path.heldBy (p : Path) : Holder → Bool
  | .key k => p.keys.contains k
  | .route => p.route

/-- A key id put into an ascending set of key ids, once. -/
def insertKey (k : KeyId) : List KeyId → List KeyId
  | [] => [k]
  | x :: xs => if k < x then k :: x :: xs else if k = x then x :: xs else x :: insertKey k xs

/-- R25: a holder joins the set. ROUTE joining clears a suspension (R34). -/
def Path.join (h : Holder) (p : Path) : Path :=
  match h with
  | .key k => { p with keys := insertKey k p.keys }
  | .route => { p with route := true, suspended := false }

/-- R26: a closing record reopens with one holder, suspended if that is asked for. -/
def Path.reopen (h : Holder) (asked : Bool) (p : Path) : Path :=
  { ({ p with keys := [], route := false }).join h with closing := false, suspended := asked, spent := false }

/-- R27, R28: a holder leaves the set; the last one to leave closes the path. -/
def Path.leave (h : Holder) (p : Path) : Path :=
  if p.heldBy h then
    let q := match h with
      | .key k => { p with keys := p.keys.filter (· != k) }
      | .route => { p with route := false }
    if q.unheld then { q with closing := true, suspended := false } else q
  else p

/-- R31. -/
def Path.suspend (p : Path) : Path :=
  if !p.closing && !p.suspended && !p.keys.isEmpty && !p.route then { p with suspended := true } else p

/-- R32. -/
def Path.resume (p : Path) : Path := if p.suspended then { p with suspended := false } else p

/-- R22: a change of target restarts the ramp from the present level; an unchanged target changes nothing. -/
def Path.aim (target : Nat) (p : Path) : Path :=
  if target = p.target then p else { p with start := p.level, index := 0, target := target }

/-- R23: one block computed. A closing path that uses i = 8 is spent (R30). -/
def Path.advance (p : Path) : Path :=
  let i := min 8 (p.index + 1)
  { p with index := i, spent := p.closing && decide (i = 8) }

/-- The record of an identity. -/
def State.findPath (s : State) (id : PathId) : Option Path := s.paths.find? (fun p : Path => p.ident = id)

/-- 10.1: the level of the route of this identity in the active set. -/
def State.routeLevel (s : State) (id : PathId) : Nat :=
  match s.routes.active.find? (fun r : Route => r.ident = id) with
  | some r => r.level
  | none => 0

/-- R21: the target level that a path's holders and flags give. -/
def State.wantedTarget (s : State) (p : Path) : Nat :=
  if p.suspended || p.closing then 0
  else max ((p.keys.map fun k => s.keys[k].level).foldl max 0) (if p.route then s.routeLevel p.ident else 0)

/-- R1: the kinds the governor governs. -/
def PortKind.governed : PortKind → Bool
  | .panel => true | .earpiece => true | .field => false | .source => false | .unused => false

/-- R35, R158: an opening into a governed port is counted by a governor that is not OFF. -/
def State.reportOpening (d : Endpoint) (s : State) : State :=
  match d with
  | .bus _ => s
  | .port p =>
      if s.ports[p].kind.governed && decide (s.gov.config.mode ≠ .off) && decide (s.mode = .run) then
        let r := s.gov.records[p]
        s.setProtection p { r with openings := min Config.countMax (r.openings + 1) }
      else s

/-- R35: a target that rises from 0 reports an opening. -/
def State.openingIfRaised (before after : Nat) (d : Endpoint) (s : State) : State :=
  if before = 0 ∧ 0 < after then s.reportOpening d else s

/-- R21, R22, R35: the record of an identity is changed by `f`, its target formed again, and its ramp restarted if the target
changed. No record of the identity: no effect. -/
def State.touchPath (id : PathId) (f : Path → Path) (s : State) : State :=
  match s.findPath id with
  | none => s
  | some p =>
      let q := (f p).aim (s.wantedTarget (f p))
      let s' := { s with paths := s.paths.map fun r : Path => if r.ident = id then q else r }
      s'.openingIfRaised p.target q.target id.dst

/-- R40: the lowest-numbered empty position, the records being in order of position. -/
def lowestFree : Nat → List Path → Nat
  | n, [] => n
  | n, p :: ps => if p.pos = n then lowestFree (n + 1) ps else n

/-- A record put into the table in order of position. -/
def insertByPos (q : Path) : List Path → List Path
  | [] => [q]
  | p :: ps => if q.pos < p.pos then q :: p :: ps else p :: insertByPos q ps

/-- R19: how many records have this destination. -/
def State.pathsInto (s : State) (d : Endpoint) : Nat := (s.paths.filter fun p : Path => p.ident.dst = d).length

/-- R24: there is room for a record of this identity. -/
def State.roomForNew (s : State) (id : PathId) : Bool :=
  decide (s.paths.length < Config.maxPaths) && decide (s.pathsInto id.dst < Config.maxPathsPerDest)

/-- R71 step 1: an add to this identity would be answered OK. -/
def State.wouldAdd (s : State) (id : PathId) : Bool := (s.findPath id).isSome || s.roomForNew id

/-- R24: the new record, its target not yet formed. -/
def Path.fresh (pos : Nat) (id : PathId) (h : Holder) (asked : Bool) : Path :=
  ({ pos := pos, ident := id, keys := [], route := false, target := 0, start := 0, index := 0,
     suspended := asked, closing := false, spent := false : Path }).join h

/-- R24: a record is created. -/
def State.createPath (id : PathId) (h : Holder) (asked : Bool) (s : State) : State :=
  let p := Path.fresh (lowestFree 0 s.paths) id h asked
  let q := { p with target := s.wantedTarget p }
  let s' := { s with paths := insertByPos q s.paths }
  s'.openingIfRaised 0 q.target id.dst

/-- R24 to R26: a holder is added. The answer is OK (`true`) or NO_SPACE (`false`). -/
def State.addHolder (id : PathId) (h : Holder) (asked : Bool) (s : State) : State × Bool :=
  match s.findPath id with
  | none => if s.roomForNew id then (s.createPath id h asked, true) else (s, false)
  | some p =>
      if p.closing then (s.touchPath id (Path.reopen h asked), true)
      else (s.touchPath id (Path.join h), true)

/-- R27, R28. -/
def State.removeHolder (id : PathId) (h : Holder) (s : State) : State := s.touchPath id (Path.leave h)

/-- R31. -/
def State.suspendPath (id : PathId) (s : State) : State := s.touchPath id Path.suspend

/-- R32. -/
def State.resumePath (id : PathId) (s : State) : State := s.touchPath id Path.resume

/-- R29: a holder's level has changed. -/
def State.relevelPath (id : PathId) (s : State) : State := s.touchPath id (fun p => p)

/-- R30: the spent records that `which` picks leave the table. -/
def State.removeSpent (which : Path → Bool) (s : State) : State :=
  { s with paths := s.paths.filter fun p => !(p.spent && which p) }

end Sys2Proof.Machine
end

