-- ==== Sys2Proof/Machine/Keys.lean ====
section
/-! DEFINITION. The key record: its delivery list, delivery state, activation transitions and notices (4.1, 4.3, R73, R74, R78). -/

namespace Sys2Proof.Machine

/-- R63: some field channel names the key as its call key. -/
def State.linkOwned (s : State) (k : KeyId) : Bool :=
  s.rx.channels.toList.any fun c : Channel =>
    match c.config with
    | some cfg => decide (cfg.callKey = some k)
    | none => false

/-- 4.1: a record is defined while it has a target. -/
def KeyRecord.defined (r : KeyRecord) : Bool := r.target.isSome

def EntryStatus.isDenied : EntryStatus → Bool
  | .denied _ => true
  | .live => false
  | .heldBack => false

/-- R76: an entry that holds a path. -/
def EntryStatus.holdsPath (st : EntryStatus) : Bool := !st.isDenied

/-- R73. A deadline is present exactly while the key stands in a wait queue (4.1.11; log 24, DEDUCED, safe). -/
def KeyRecord.delivery (r : KeyRecord) : DeliveryState :=
  if !r.delivered then .none
  else if r.deadline.isSome then .waiting
  else if r.entries.isEmpty then .denied
  else if r.entries.all fun e : DestEntry => decide (e.status = .live) then .live
  else if r.entries.all fun e : DestEntry => decide (e.status = .heldBack) then .heldBack
  else if r.entries.all fun e : DestEntry => e.status.isDenied then .denied
  else .partly

/-- The TALK path from a key's owner to a destination (R69, 6.1.3). -/
def State.keyPath (s : State) (k : KeyId) (d : Endpoint) : Option PathId :=
  s.keys[k].owner.map fun o : PortId => ⟨.port o, d, .talk⟩

/-- R69, R78: an entry joins the delivery list. -/
def State.appendEntry (k : KeyId) (e : DestEntry) (s : State) : State :=
  let r := s.keys[k]
  (s.setKey k { r with entries := r.entries ++ [e] }).report (.key k)

/-- R74: the entry of one destination takes a new status. -/
def State.reportStanding (k : KeyId) (p : PortId) (st : EntryStatus) (s : State) : State :=
  let r := s.keys[k]
  let es := r.entries.map fun e : DestEntry => if e.dest = some (.port p) then { e with status := st } else e
  (s.setKey k { r with entries := es }).report (.key k)

/-- The action a transition calls for (section 4.3). -/
inductive KeyAction where
  | deliver | withdraw | nothing
  deriving DecidableEq, Repr

/-- R65, R66: PRESS. -/
def pressTransition : KeyMode → Activation → Option (Activation × KeyAction)
  | .momentary, .idle => some (.held, .deliver)
  | .latch, .idle => some (.latched, .deliver)
  | .latch, .latched => some (.idle, .withdraw)
  | .smart, .idle => some (.held, .deliver)
  | .smart, .latched => some (.unlatching, .withdraw)
  | _, _ => none

/-- R65, R66: RELEASE; `quick` when fewer than 300 blocks have passed since the press. -/
def releaseTransition (quick : Bool) : KeyMode → Activation → Option (Activation × KeyAction)
  | .momentary, .held => some (.idle, .withdraw)
  | .smart, .held => if quick then some (.latched, .nothing) else some (.idle, .withdraw)
  | .smart, .unlatching => some (.idle, .nothing)
  | _, _ => none

/-- R66: fewer than 300 blocks have passed since the press block. -/
def State.pressedQuickly (s : State) (k : KeyId) : Bool :=
  match s.keys[k].pressBlock with
  | some b => decide ((s.blockCount - b).toNat < Config.smartBlocks)
  | none => false

/-- R66, R67: the activation state changes and its KEY notice is queued. The press block is present while a SMART key is
HELD. -/
def State.setActivation (k : KeyId) (a : Activation) (s : State) : State :=
  let r := s.keys[k]
  let pressed := if r.mode = .smart ∧ a = .held then some s.blockCount else none
  (s.setKey k { r with activation := a, pressBlock := pressed }).report (.key k)

end Sys2Proof.Machine
end

