-- ==== Sys2Proof/Machine/Earpieces.lean ====
section
/-! DEFINITION. The earpiece unit: interrupt lists and the programme dip (chapter 6). -/

namespace Sys2Proof.Machine

/-- 6.4.1: the present dip factor. -/
def Dip.factor (d : Dip) : Nat := dipFactor d.start d.target d.count

/-- R110: a change of target restarts the dip ramp from the present factor; an unchanged target changes nothing. -/
def Dip.aim (target : Nat) (d : Dip) : Dip :=
  if target = d.target then d else { target := target, start := d.factor, count := 0 }

/-- R110: one block computed. -/
def Dip.advance (d : Dip) : Dip := { d with count := min 8 (d.count + 1) }

/-- R5, 1.1.6: an EARPIECE port's dip depth. -/
def State.dipDepth (s : State) (p : PortId) : Nat := (s.ports[p].dipDepth).getD Config.noDip

/-- R101: placed immediately after the last entry of equal or higher priority (the entries stand in order of priority, R100). -/
def placeEntry (e : TalkEntry) (es : List TalkEntry) : List TalkEntry :=
  es.takeWhile (fun x : TalkEntry => decide (e.priority ≤ x.priority)) ++ e ::
    es.dropWhile (fun x : TalkEntry => decide (e.priority ≤ x.priority))

/-- What the earpiece unit answers to an offer (6.2). -/
inductive Admission where
  | live | heldBack | listFull
  deriving DecidableEq, Repr

/-- A path-table operation on the path of a key into an earpiece, if the key has an owner. -/
def State.onKeyPath (k : KeyId) (p : PortId) (f : PathId → State → State) (s : State) : State :=
  match s.keyPath k (.port p) with
  | some id => f id s
  | none => s

/-- R103 step 1: the previous head is suspended, unless its path is the offered key's, and told that it is held back. -/
def State.demoteHead (p : PortId) (offered : KeyId) (previous : Option TalkEntry) (s : State) : State :=
  match previous with
  | none => s
  | some h =>
      let s1 :=
        if s.keyPath h.key (.port p) = s.keyPath offered (.port p) then s
        else s.onKeyPath h.key p State.suspendPath
      s1.reportStanding h.key p .heldBack

/-- R101, R103, R104: the key is placed in a list that has room. The insertion count wraps past 4,294,967,295 (log 45, DESIGN
CHOICE, unsafe). -/
def State.takeIn (p : PortId) (k : KeyId) (e : Ear) (s : State) : State × Admission :=
  let entry : TalkEntry := ⟨k, s.keys[k].priority, e.count + 1⟩
  let entries := placeEntry entry e.entries
  let dip := if e.entries.isEmpty then e.dip.aim (s.dipDepth p) else e.dip
  let s1 := (s.setEar p (some ⟨entries, e.count + 1, dip⟩)).report (.earpiece p)
  if entries.head? = some entry then
    ((s1.demoteHead p k e.entries.head?).onKeyPath k p State.resumePath, .live)
  else (s1, .heldBack)

/-- R102: a full list less its last entry. -/
def Ear.lessLast (e : Ear) : Ear := { e with entries := e.entries.take (Config.maxTalkers - 1) }

/-- R102: the last entry of a full list is evicted. -/
def State.evict (p : PortId) (e : Ear) (victim : TalkEntry) (s : State) : State :=
  let s1 := (s.setEar p (some e.lessLast)).report (.earpiece p)
  (s1.onKeyPath victim.key p fun id s => s.removeHolder id (.key victim.key)).reportStanding victim.key p
    (.denied .listFull)

/-- R101, R102: a key is offered to an earpiece's list. -/
def State.offer (p : PortId) (k : KeyId) (s : State) : State × Admission :=
  match s.ears[p] with
  | none => (s, .listFull)
  | some e =>
      if e.entries.length < Config.maxTalkers then s.takeIn p k e
      else
        match e.entries.getLast? with
        | none => (s, .listFull)
        | some victim =>
            if victim.priority < s.keys[k].priority then
              (s.evict p e victim).takeIn p k e.lessLast
            else (s, .listFull)

/-- R105 step 2: the new head is resumed and told that it is heard. -/
def State.promoteHead (p : PortId) (head : Option TalkEntry) (s : State) : State :=
  match head with
  | none => s
  | some h => (s.onKeyPath h.key p State.resumePath).reportStanding h.key p .live

/-- R105: a key leaves an earpiece's list. The answer says whether the list dropped from 4 entries to 3. -/
def State.depart (p : PortId) (k : KeyId) (s : State) : State × Bool :=
  match s.ears[p] with
  | none => (s, false)
  | some e =>
      if e.entries.any fun x : TalkEntry => decide (x.key = k) then
        let rest := e.entries.filter fun x : TalkEntry => decide (x.key ≠ k)
        let wasHead := decide ((e.entries.head?).map TalkEntry.key = some k)
        let ear : Ear :=
          if rest.isEmpty then ⟨[], 0, e.dip.aim Config.noDip⟩ else { e with entries := rest }
        let s1 := (s.setEar p (some ear)).report (.earpiece p)
        let s2 :=
          if wasHead then
            let newPath := (rest.head?).bind fun h : TalkEntry => s1.keyPath h.key (.port p)
            let s' := if newPath = s1.keyPath k (.port p) then s1 else s1.onKeyPath k p State.suspendPath
            s'.promoteHead p rest.head?
          else s1
        (s2, decide (e.entries.length = 4) && decide (rest.length = 3))
      else (s, false)

/-- R107: a path into an earpiece has lost ROUTE; it is suspended unless a key holder of it is the head. -/
def State.routeLeftEarpiece (id : PathId) (s : State) : State :=
  match id.dst with
  | .bus _ => s
  | .port p =>
      match s.ears[p], s.findPath id with
      | some e, some q =>
          if q.keys.isEmpty then s
          else
            match e.entries.head? with
            | some h => if q.keys.contains h.key then s else s.suspendPath id
            | none => s.suspendPath id
      | _, _ => s

/-- R109, R111: the dip depth has been written while the list is non-empty. The answer says whether the target changed. -/
def State.retargetDip (p : PortId) (s : State) : State :=
  match s.ears[p] with
  | none => s
  | some e =>
      if e.entries.isEmpty then s
      else if e.dip.target = s.dipDepth p then s
      else (s.setEar p (some { e with dip := e.dip.aim (s.dipDepth p) })).report (.earpiece p)

end Sys2Proof.Machine
end

