-- ==== Sys2Proof/Machine/Routing.lean ====
section
/-! DEFINITION. The route store: opening the active set, judging and carrying out a swap (chapter 10). -/

namespace Sys2Proof.Machine

/-- The route of an identity in a set. -/
def findRoute (id : PathId) (rs : List Route) : Option Route := rs.find? fun r : Route => decide (r.ident = id)

/-- 10.1: how many routes of a set have this destination. -/
def routesInto (d : Endpoint) (rs : List Route) : Nat := (rs.filter fun r : Route => decide (r.ident.dst = d)).length

/-- R41, R173: START adds ROUTE to the path of every route of the active set, in the order of the set, which fixes the positions
(log 42, DESIGN CHOICE, unsafe). -/
def State.openRoutes (s : State) : State :=
  s.routes.active.foldl (fun s r => (s.addHolder r.ident .route false).1) s

/-- R170: the routes of the incoming set whose identity has no record. -/
def State.creations (s : State) : List Route :=
  s.routes.standby.filter fun r : Route => (s.findPath r.ident).isNone

/-- R174: every destination endpoint, in ascending order of ports then buses. -/
def allEndpoints : List Endpoint := (List.finRange 48).map Endpoint.port ++ (List.finRange 8).map Endpoint.bus

/-- R170, R174: the limit that the creations exceed, TABLE before DESTINATION, or `none`. -/
def State.swapLimit (s : State) : Option SwapLimit :=
  let cs := s.creations
  if Config.maxPaths < cs.length + s.paths.length then some .table
  else
    (allEndpoints.find? fun d : Endpoint =>
      decide (Config.maxPathsPerDest < routesInto d cs + s.pathsInto d)).map .destination

/-- R34, R107: ROUTE leaves a path; one into an earpiece is reported to the earpiece unit. -/
def State.dropRoute (id : PathId) (s : State) : State := (s.removeHolder id .route).routeLeftEarpiece id

/-- R171: the sets exchange roles (log 23, DESIGN CHOICE, safe) and the path table is brought into line with the new active
set: the removals first, then the incoming set in its order, which fixes the positions of new records (log 42, DESIGN CHOICE,
unsafe). -/
def State.exchange (s : State) : State :=
  let outgoing := s.routes.active
  let incoming := s.routes.standby
  let s1 := { s with routes := { s.routes with active := incoming, standby := outgoing } }
  let s2 := outgoing.foldl (fun s r => if (findRoute r.ident incoming).isNone then s.dropRoute r.ident else s) s1
  incoming.foldl
    (fun s r =>
      match findRoute r.ident outgoing with
      | none => (s.addHolder r.ident .route false).1
      | some o => if o.level = r.level then s else s.relevelPath r.ident) s2

/-- R170, R171: the judgement of a pending swap. -/
def State.judgeSwap (s : State) : State :=
  let routes := s.routes.standby.length
  let count := s.creations.length
  let cleared := { s with routes := { s.routes with swapPending := false, judgementDue := false } }
  match s.swapLimit with
  | some l => cleared.report (.swap .failed s.blockCount routes (some count) (some l))
  | none => cleared.exchange.report (.swap .done s.blockCount routes (some count) none)

/-- R173: STOP abandons a pending swap. -/
def State.abandonSwap (s : State) : State :=
  if s.routes.swapPending then
    ({ s with routes := { s.routes with swapPending := false, judgementDue := false } }).report
      (.swap .abandoned s.blockCount s.routes.standby.length none none)
  else s

end Sys2Proof.Machine
end

