-- ==== Sys2Proof/Machine/Delivery.lean ====
section
/-! DEFINITION. Delivering and withdrawing a key; call groups, hunts and service passes (4.4, 4.5, chapter 5). -/

namespace Sys2Proof.Machine

/-- 7.3.2: the FIELD port bound to a channel. -/
def State.fieldPort (s : State) (c : ChanId) : Option PortId :=
  ((tableRows s.ports).find? fun r : PortId × PortRecord =>
    decide (r.2.kind = .field) && decide (r.2.channel = some c)).map Prod.fst

/-- R6, R95: a port's presence; SOURCE and UNUSED ports have none. -/
def State.presenceOf (s : State) (p : PortId) : Option Presence :=
  let r := s.ports[p]
  match r.kind with
  | .panel => some r.presence
  | .earpiece => some r.presence
  | .field =>
      match r.channel with
      | some c => if s.rx.channels[c].state = .running then some .available else some .away
      | none => some .away
  | .source => none
  | .unused => none

/-! ## One destination (R70, R71) -/

/-- R70. -/
def State.deliverPlain (k : KeyId) (d : Endpoint) (id : PathId) (s : State) : State :=
  let r := s.addHolder id (.key k) false
  r.1.appendEntry k ⟨some d, if r.2 then .live else .denied .noSpace⟩

/-- R71. -/
def State.deliverEarpiece (k : KeyId) (p : PortId) (id : PathId) (s : State) : State :=
  if s.wouldAdd id then
    let r := s.offer p k
    match r.2 with
    | .live => (r.1.addHolder id (.key k) false).1.appendEntry k ⟨some (.port p), .live⟩
    | .heldBack => (r.1.addHolder id (.key k) true).1.appendEntry k ⟨some (.port p), .heldBack⟩
    | .listFull => r.1.appendEntry k ⟨some (.port p), .denied .listFull⟩
  else s.appendEntry k ⟨some (.port p), .denied .noSpace⟩

/-- R69: one destination is delivered by R70 or R71. -/
def State.deliverTo (k : KeyId) (d : Endpoint) (s : State) : State :=
  match s.keyPath k d with
  | none => s
  | some id =>
      match d with
      | .bus _ => s.deliverPlain k d id
      | .port p => if s.ports[p].kind = .earpiece then s.deliverEarpiece k p id else s.deliverPlain k d id

/-! ## Groups -/

/-- R85: room at an earpiece. -/
def State.hasTalkRoom (s : State) (p : PortId) : Bool :=
  match s.ears[p] with
  | some e => decide (s.ports[p].kind ≠ .earpiece) || decide (e.entries.length < Config.maxTalkers)
  | none => true

/-- 5.1.4: the member is engaged in this group. -/
def GroupRecord.engaged (r : GroupRecord) (p : PortId) : Bool :=
  r.members.any fun m : Member => decide (m.port = p) && m.engagedBy.isSome

/-- R85. -/
def State.eligible (s : State) (g : GroupId) (k : KeyId) (p : PortId) : Bool :=
  decide (s.presenceOf p = some .available) && !(s.groups[g].engaged p)
    && decide (s.keys[k].owner ≠ some p) && s.hasTalkRoom p

/-- R86: the first eligible member in LRU order. -/
def State.chooseMember (s : State) (g : GroupId) (k : KeyId) : Option PortId :=
  s.groups[g].lru.find? fun p : PortId => s.eligible g k p

/-- R86: the chosen member moves to the end of the LRU order and is engaged. -/
def GroupRecord.engage (p : PortId) (k : KeyId) (r : GroupRecord) : GroupRecord :=
  { r with
    lru := r.lru.filter (fun q : PortId => decide (q ≠ p)) ++ [p]
    members := r.members.map fun m : Member => if m.port = p then { m with engagedBy := some k } else m }

/-- R86: the hunt gives its member to the key table. -/
def State.huntDeliver (g : GroupId) (k : KeyId) (p : PortId) (s : State) : State :=
  (s.setGroup g (s.groups[g].engage p k)).deliverTo k (.port p)

/-- R88: a hunt with no eligible member. -/
def State.joinQueue (g : GroupId) (k : KeyId) (s : State) : State :=
  let r := s.groups[g]
  if r.waiters.length < Config.maxWaiters then
    let s1 := s.setGroup g { r with waiters := r.waiters ++ [k] }
    (s1.setKey k { s1.keys[k] with deadline := some (s.blockCount + BitVec.ofNat 32 r.timeout) }).report (.key k)
  else s.appendEntry k ⟨none, .denied .listFull⟩

/-- R90 step 3, R91: a waiter leaves the queue and its deadline becomes absent. -/
def State.leaveQueue (g : GroupId) (k : KeyId) (s : State) : State :=
  let r := s.groups[g]
  let s1 := s.setGroup g { r with waiters := r.waiters.filter fun x : KeyId => decide (x ≠ k) }
  s1.setKey k { s1.keys[k] with deadline := none }

/-- R90 step 1: the oldest waiter for which some member is eligible, and the member chosen for it. -/
def State.nextService (s : State) (g : GroupId) : Option (KeyId × PortId) :=
  s.groups[g].waiters.findSome? fun k : KeyId => (s.chooseMember g k).map fun p : PortId => (k, p)

/-- R90: a service pass in one group; each turn serves one waiter. -/
def State.servicePass (g : GroupId) : Nat → State → State
  | 0, s => s
  | n + 1, s =>
      match s.nextService g with
      | none => s
      | some (k, p) => ((s.leaveQueue g k).huntDeliver g k p).servicePass g n

/-- R89: the events that trigger service passes: an engagement ended in a group, and ports that may have become eligible. -/
structure Triggers where
  group : Option GroupId
  ports : List PortId
  deriving DecidableEq, Repr

/-- R89: the event reaches one of the members of a HUNT group that has a waiter. -/
def State.triggered (s : State) (t : Triggers) (g : GroupId) : Bool :=
  let r := s.groups[g]
  decide (r.mode = .hunt) && !r.waiters.isEmpty
    && (decide (t.group = some g) || r.members.any fun m : Member => t.ports.contains m.port)

/-- R90: the passes that one event triggers, in ascending group number. -/
def State.runPasses (t : Triggers) (s : State) : State :=
  (List.finRange 32).foldl
    (fun s g => if s.triggered t g then s.servicePass g s.groups[g].waiters.length else s) s

/-! ## Deliver (R69, R72) -/

/-- R84: every member other than the owner, in member order. -/
def State.deliverAll (k : KeyId) (members : List PortId) (s : State) : State :=
  members.foldl (fun s p => if s.keys[k].owner = some p then s else s.deliverTo k (.port p)) s

/-- R72. -/
def State.deliverGroup (k : KeyId) (g : GroupId) (s : State) : State :=
  let r := s.groups[g]
  if r.members.isEmpty then s
  else
    match r.mode with
    | .all => s.deliverAll k (r.members.map Member.port)
    | .hunt =>
        match s.chooseMember g k with
        | some p => s.huntDeliver g k p
        | none => s.joinQueue g k

/-- R69. -/
def State.deliver (k : KeyId) (s : State) : State :=
  let s1 := s.setKey k { s.keys[k] with delivered := true, entries := [] }
  match s1.keys[k].target with
  | none => s1
  | some (.port p) => s1.deliverTo k (.port p)
  | some (.bus b) => s1.deliverTo k (.bus b)
  | some (.group g) => s1.deliverGroup k g

/-! ## Withdraw (R76) -/

/-- R76 step 1, for one entry. -/
def State.leaveEarpiece (k : KeyId) (e : DestEntry) (acc : State × List PortId) : State × List PortId :=
  match e.dest with
  | some (.port p) =>
      if e.status.holdsPath && decide (acc.1.ports[p].kind = .earpiece) then
        let r := acc.1.depart p k
        (r.1, if r.2 then acc.2 ++ [p] else acc.2)
      else acc
  | _ => acc

/-- R76 step 2, for one entry. -/
def State.leavePath (k : KeyId) (e : DestEntry) (s : State) : State :=
  match e.dest with
  | some d =>
      if e.status.holdsPath then
        match s.keyPath k d with
        | some id => s.removeHolder id (.key k)
        | none => s
      else s
  | none => s

/-- R91: the key's engagement in its target group ends. -/
def GroupRecord.disengage (k : KeyId) (r : GroupRecord) : GroupRecord :=
  { r with members := r.members.map fun m : Member => if m.engagedBy = some k then { m with engagedBy := none } else m }

def GroupRecord.engagedFor (r : GroupRecord) (k : KeyId) : Bool :=
  r.members.any fun m : Member => decide (m.engagedBy = some k)

/-- R76: the key is taken back from everything its delivery touched. The service passes that this triggers are left to the
event that withdrew it (R90, R135). -/
def State.withdraw (k : KeyId) (s : State) : State × Triggers :=
  let entries := s.keys[k].entries
  let a := entries.foldl (fun acc e => State.leaveEarpiece k e acc) (s, [])
  let s2 := entries.foldl (fun s e => s.leavePath k e) a.1
  let b : State × Option GroupId :=
    match s2.keys[k].target with
    | some (.group g) =>
        let s3 := if s2.keys[k].deadline.isSome then s2.leaveQueue g k else s2
        if s3.groups[g].engagedFor k then (s3.setGroup g (s3.groups[g].disengage k), some g) else (s3, none)
    | _ => (s2, none)
  (b.1.setKey k { b.1.keys[k] with entries := [], delivered := false, deadline := none }, ⟨b.2, a.2⟩)

/-- A transition's action (R65, R66, R68), with the passes a withdrawal triggers. -/
def State.keyAction (k : KeyId) (a : KeyAction) (s : State) : State :=
  match a with
  | .deliver => s.deliver k
  | .withdraw => let r := s.withdraw k; r.1.runPasses r.2
  | .nothing => s

/-- R67: a transition: its KEY notice first, then the action it calls for. -/
def State.keyTransition (k : KeyId) (t : Option (Activation × KeyAction)) (s : State) : State :=
  match t with
  | none => s
  | some (a, act) => (s.setActivation k a).keyAction k act

/-! ## Call keys (R68) -/

/-- R68: a CALL cue. A cue reaching an undefined key does nothing (R60). -/
def State.callCue (k : KeyId) (s : State) : State :=
  if s.keys[k].defined && decide (s.keys[k].activation = .idle) then s.keyTransition k (some (.latched, .deliver)) else s

/-- R68: a CANCEL cue. -/
def State.cancelCue (k : KeyId) (s : State) : State :=
  if decide (s.keys[k].activation = .latched) then s.keyTransition k (some (.idle, .withdraw)) else s

/-- R68, R135: the channel forces its call key IDLE; the passes are left to the event (log 15, DEDUCED, unsafe). -/
def State.forceCallKey (k : KeyId) (s : State) : State × Triggers :=
  if s.keys[k].activation = .latched then (s.setActivation k .idle).withdraw k else (s, ⟨none, []⟩)

/-! ## Wait timeout (R92) -/

/-- R92: a waiter of this group's queue has reached its deadline. -/
def State.timeoutDue (s : State) (g : GroupId) (k : KeyId) : Bool :=
  decide (s.mode = .run) && s.groups[g].waiters.contains k && decide (s.keys[k].deadline = some s.blockCount)

/-- R75, R92: the waiter leaves the queue DENIED (TIMEOUT). -/
def State.timeOut (g : GroupId) (k : KeyId) (s : State) : State :=
  (s.leaveQueue g k).appendEntry k ⟨none, .denied .timeout⟩

end Sys2Proof.Machine
end

