-- ==== Sys2Proof/Machine/LineCheck.lean ====
section
/-! DEFINITION. The line checker: pattern blocks, examination of returned blocks, the ends of a check (8.4 to 8.8). -/

namespace Sys2Proof.Machine

/-- R128: the marker of a yield. -/
inductive Marker where
  | taken | concealed | silence
  deriving DecidableEq, Repr

/-- R148: sample `j` of pattern block `p`. -/
def patternValue (p j : Nat) : Int :=
  if j = 0 then (p : Int) * 256 else ((((p * 48 + j) * 40503 % 65536 : Nat) : Int) - 32768) * 128

/-- R148: pattern block `p`. -/
def patternBlock (p : Nat) : Block := tableOf fun j : Fin 48 => sampleOf (patternValue p j.val)

/-- R148: the entry of a new pattern number; a full history loses its lowest number. -/
def addHistory (p : Nat) (n : BlockCount) (h : List (Nat × BlockCount)) : List (Nat × BlockCount) :=
  let h' := h ++ [(p, n)]
  h'.drop (h'.length - Config.maxHistory)

/-- R149: the pattern number that sample 0 of a block spells: a non-negative multiple of 256. -/
def spelledPattern (b : Block) : Option Nat :=
  let x := (b[0]).toInt
  if 0 ≤ x ∧ x % 256 = 0 then some (x / 256).toNat else none

/-- R149: all 48 samples are 0. -/
def allZero (b : Block) : Bool := b.toList.all fun x : Sample => decide (x = 0)

/-- R149: the block that a channel yields for block `n` is examined. -/
def Check.examine (n : BlockCount) (m : Marker) (b : Block) (c : Check) : Check :=
  if decide (m = .taken) && !allZero b then
    match spelledPattern b with
    | none => c
    | some q =>
        match c.history.find? fun e : Nat × BlockCount => decide (e.1 = q) with
        | none => c
        | some e =>
            if b = patternBlock q then
              let d := (n - e.2).toNat
              { c with
                matched := c.matched + 1
                lastDelay := some d
                maxDelay := some (match c.maxDelay with | some x => max x d | none => d) }
            else { c with mismatched := c.mismatched + 1 }
  else c

/-- R148: the number of the pattern block made for block `n`. -/
def Check.patternNumber (n : BlockCount) (c : Check) : Nat := (n - c.startBlock).toNat

/-- R148: the pattern block for block `n` has been made. -/
def Check.record (n : BlockCount) (c : Check) : Check :=
  { c with history := addHistory (c.patternNumber n) n c.history, sent := c.sent + 1 }

/-- R151: the measured delay exceeds the channel's max delay. -/
def Check.exceeds (c : Check) (maxDelay : Nat) : Bool :=
  match c.maxDelay with
  | some d => decide (maxDelay < d)
  | none => false

/-- R151: the failure reason of a completed check, `none` when it has passed. -/
def Check.verdict (c : Check) (maxDelay : Nat) : Option CheckReason :=
  if c.matched = 0 then some .noReturn
  else if c.sent < c.mismatched * 64 then some .errors
  else if c.exceeds maxDelay then some .delay
  else none

/-- R153: the body of a CHECK notice. -/
def Check.report (ch : ChanId) (endBlock : BlockCount) (c : Check) : CheckReport :=
  ⟨ch, c.state, c.reason, c.duration, c.startBlock, c.sent, c.matched, c.mismatched, c.lastDelay, c.maxDelay, endBlock⟩

/-- R151 to R153: a check ends with a state and a reason, and its CHECK notice is queued (its end block: log 12, DESIGN CHOICE,
unsafe). -/
def State.endCheck (ch : ChanId) (st : CheckState) (reason : Option CheckReason) (endBlock : BlockCount) (s : State) :
    State :=
  let c := { s.checks[ch] with state := st, reason := reason }
  (s.setCheck ch c).report (.check (c.report ch endBlock))

/-- R152: a running check ends before completion; a check that is not running is left alone. -/
def State.abortCheck (ch : ChanId) (st : CheckState) (reason : Option CheckReason) (endBlock : BlockCount) (s : State) :
    State :=
  if s.checks[ch].state = .running then s.endCheck ch st reason endBlock else s

end Sys2Proof.Machine
end

