-- ==== Sys2Proof/Machine/Channels.lean ====
section
/-! DEFINITION. The link receiver: filters, jitter rings, arrivals, the yield, and a channel's changes of state (chapter 7). -/

namespace Sys2Proof.Machine

/-! ## Acceptance filters (R117, R118) -/

/-- R117: every bit position that the mask does not set agrees. -/
def Filter.accepts (f : Filter) (id : LinkId) : Bool := f.enabled && decide ((id ^^^ f.value) &&& ~~~f.mask = 0)

/-- R117: the channel of the lowest-numbered enabled filter that accepts the id. -/
def State.filterChannel (s : State) (id : LinkId) : Option ChanId :=
  (s.rx.filters.toList.find? fun f : Filter => f.accepts id).map Filter.channel

/-- R117: the channel that takes a frame; a CLOSED channel takes none. -/
def State.takingChannel (s : State) (id : LinkId) : Option ChanId :=
  (s.filterChannel id).filter fun c : ChanId => decide (s.rx.channels[c].state ≠ .closed)

/-- R118. -/
def State.countUnmatched (s : State) : State :=
  { s with rx := { s.rx with unmatched := min Config.countMax (s.rx.unmatched + 1) } }

/-! ## The ring (7.3.8) -/

/-- A block of this sequence is held. -/
def Channel.holds (c : Channel) (q : Seq) : Option RingBlock :=
  (c.ring[ringPlace q]).filter fun b : RingBlock => decide (b.seq = q)

/-- The number of blocks held. -/
def Channel.heldCount (c : Channel) : Nat := (c.ring.toList.filter Option.isSome).length

def Channel.put (q : Seq) (b : Block) (c : Channel) : Channel :=
  { c with ring := tableSet c.ring (ringPlace q) (some ⟨q, b⟩) }

def Channel.takeOut (q : Seq) (c : Channel) : Channel := { c with ring := tableSet c.ring (ringPlace q) none }

def Channel.flush (c : Channel) : Channel := { c with ring := emptyRing }

/-! ## The quality count (R130) -/

/-- R130: a rise by 8, stopping at 255; DEGRADED is set at 96 or more. -/
def Channel.raise (c : Channel) : Channel :=
  let q := min Config.qualityMax (c.quality + Config.qualityRise)
  { c with quality := q, degraded := c.degraded || decide (Config.degradedAt ≤ q) }

/-- R130: a fall by 1, stopping at 0; DEGRADED is cleared below 64. -/
def Channel.lower (c : Channel) : Channel :=
  if c.quality = 0 then c
  else { c with quality := c.quality - 1, degraded := c.degraded && decide (Config.degradedBelow ≤ c.quality - 1) }

/-! ## Values and states of the record -/

/-- R120: the starting values. The excess-delay flag and the last cue are left. -/
def Channel.starting (c : Channel) : Channel :=
  { c with nextSeq := none, ring := emptyRing, prevYield := silence, conceal := 0, quality := 0, degraded := false,
           run := 0, idle := 0, held := none }

/-- R121, R140: into WAITING by CHANNEL or STOP, which also clear the excess-delay flag and the last cue. -/
def Channel.restart (c : Channel) : Channel :=
  { c.starting with state := .waiting, excess := false, lastCue := none }

/-- R137: the record is rewritten, and a LINK notice is queued if its state or one of its two flags has changed (log 34,
DEDUCED, unsafe). -/
def State.putChannel (ch : ChanId) (c : Channel) (s : State) : State :=
  let old := s.rx.channels[ch]
  let s1 := s.setChannel ch c
  if decide (old.state = c.state) && old.degraded == c.degraded && old.excess == c.excess then s1
  else s1.report (.link ch)

/-- 7.3.6: the channel's call key. -/
def State.callKeyOf (s : State) (ch : ChanId) : Option KeyId :=
  match s.rx.channels[ch].config with
  | some cfg => cfg.callKey
  | none => none

/-! ## Arrivals of AUDIO frames -/

/-- R123: the frame is stored; the idle count returns to 0; a ring that holds the prime level enters RUNNING. -/
def Channel.primeStore (q : Seq) (b : Block) (c : Channel) : Channel :=
  let c1 := { c.put q b with idle := 0 }
  match c1.config with
  | some cfg => if cfg.prime ≤ c1.heldCount then { c1 with state := .running, conceal := 0 } else c1
  | none => c1

/-- R122, R123, R125: a channel enters PRIMING with a frame as its base and first block. -/
def Channel.primeFrom (q : Seq) (b : Block) (c : Channel) : Channel :=
  { (c.flush.put q b) with state := .priming, nextSeq := some q, idle := 0 }

/-- R122. -/
def Channel.wake (q : Seq) (b : Block) (c : Channel) : Channel := c.primeFrom q b

/-- R123. -/
def Channel.takePriming (q : Seq) (b : Block) (c : Channel) : Channel :=
  match c.nextSeq with
  | none => c
  | some base =>
      if inWindow q base then if (c.holds q).isSome then c else c.primeStore q b
      else if aheadOrEqual q base then ({ c.flush with nextSeq := some q }).primeStore q b
      else c

/-- R125. A resynchronisation whose rise reaches 255 stores nothing: the drop follows (R132). -/
def Channel.takeRunning (q : Seq) (b : Block) (c : Channel) : Channel :=
  match c.nextSeq with
  | none => c
  | some e =>
      if inWindow q e then if (c.holds q).isSome then c else c.put q b
      else if aheadOrEqual q e then
        if c.raise.quality = Config.qualityMax then c.raise
        else { (c.raise.primeFrom q b) with conceal := 0 }
      else c.raise

/-- R133: the recovery run. The frame that completes it is kept for the recovery. -/
def Channel.takeDropped (q : Seq) (b : Block) (c : Channel) : Channel :=
  let n := if c.nextSeq = some q then c.run + 1 else 1
  { c with run := n, nextSeq := some (q + 1), held := if n = Config.recoveryRun then some ⟨q, b⟩ else none }

/-- R122 to R126, R133: a channel takes an AUDIO frame; `none` is a payload of wrong length. -/
def Channel.takeAudio (q : Seq) (payload : Option Block) (c : Channel) : Channel :=
  match c.state, payload with
  | .waiting, some b => c.wake q b
  | .waiting, none => c
  | .priming, some b => c.takePriming q b
  | .priming, none => c.raise
  | .running, some b => c.takeRunning q b
  | .running, none => c.raise
  | .dropped, some b => c.takeDropped q b
  | .dropped, none => { c with run := 0, nextSeq := none, held := none }
  | .closed, _ => c

/-- R95, R135: a channel that has entered RUNNING makes its field port AVAILABLE, and passes run. -/
def State.passesForRunning (ch : ChanId) (before : ChanState) (s : State) : State :=
  if before ≠ .running ∧ s.rx.channels[ch].state = .running then
    match s.fieldPort ch with
    | some p => s.runPasses ⟨none, [p]⟩
    | none => s
  else s

/-- R125, R135: a channel takes an AUDIO frame, with what its change of state hands on. -/
def State.audioTo (ch : ChanId) (q : Seq) (payload : Option Block) (s : State) : State :=
  let c := s.rx.channels[ch]
  (s.putChannel ch (c.takeAudio q payload)).passesForRunning ch c.state

/-! ## Cues (R134) -/

/-- R134: which cues reach the key table. -/
def passesCue (st : ChanState) (code : Byte) : Bool :=
  if code = cueCall then decide (st = .priming) || decide (st = .running) else decide (code = cueCancel)

/-- R134: a channel takes a CUE frame. -/
def State.cueTo (ch : ChanId) (code : Byte) (s : State) : State :=
  let c := s.rx.channels[ch]
  let s1 := (s.setChannel ch { c with lastCue := some code }).report (.cueIn ch code s.blockCount)
  if passesCue c.state code then
    match s.callKeyOf ch with
    | some k => if code = cueCall then s1.callCue k else s1.cancelCue k
    | none => s1
  else s1

/-! ## The yield (R128, R129) -/

/-- R129: a quieter copy. -/
def halve (b : Block) : Block := tableMap (fun x : Sample => sampleOf (roundDiv 2 x.toInt)) b

/-- R128, R129: the channel after its yield, whose samples are its previous yield then, and the yield's marker. -/
def Channel.yieldBlock (c : Channel) : Channel × Marker :=
  match c.state, c.nextSeq with
  | .running, some e =>
      match c.holds e with
      | some b =>
          ({ (c.takeOut e).lower with conceal := 0, nextSeq := some (e + 1), prevYield := b.samples }, .taken)
      | none =>
          ({ c.raise with conceal := c.conceal + 1, nextSeq := some (e + 1), prevYield := halve c.prevYield },
            .concealed)
  | .priming, _ => ({ c with idle := c.idle + 1, prevYield := silence }, .silence)
  | _, _ => ({ c with prevYield := silence }, .silence)

/-- R128, R149: a configured channel yields for block `n`, and a running check examines the yield. -/
def State.yieldChannel (n : BlockCount) (ch : ChanId) (s : State) : State :=
  let c := s.rx.channels[ch]
  if c.state = .closed then s
  else
    let y := c.yieldBlock
    let s1 := s.putChannel ch y.1
    let k := s1.checks[ch]
    if k.state = .running then s1.setCheck ch (k.examine n y.2 y.1.prevYield) else s1

/-! ## Changes of state (R124, R129, R132, R133, R135, R136) -/

/-- R132: the drop is due. -/
def Channel.dropDue (c : Channel) : Bool :=
  (decide (c.state = .priming) || decide (c.state = .running)) && decide (c.quality = Config.qualityMax)

/-- R124: the idle limit is due. -/
def Channel.idleDue (c : Channel) : Bool :=
  decide (c.state = .priming) && decide (Config.idleLimit ≤ c.idle) && !c.dropDue

/-- R129: the conceal limit is due; a drop due at once comes before it. -/
def Channel.concealDue (c : Channel) : Bool :=
  decide (c.state = .running) && decide (Config.concealLimit ≤ c.conceal) && !c.dropDue

/-- R133: the recovery is due. -/
def Channel.recoveryDue (c : Channel) : Bool :=
  decide (c.state = .dropped) && decide (c.run = Config.recoveryRun) && c.held.isSome

/-- R132. -/
def Channel.drop (c : Channel) : Channel :=
  { c.flush with state := .dropped, conceal := 0, idle := 0, run := 0, nextSeq := none, held := none }

/-- R135: a channel leaves PRIMING or RUNNING for DROPPED or WAITING. LINK notice, then the call key is forced, then a running
check ends, then the passes run. -/
def State.leaveLive (ch : ChanId) (c : Channel) (reason : CheckReason) (s : State) : State :=
  let s1 := s.putChannel ch c
  let f : State × Triggers :=
    match s1.callKeyOf ch with
    | some k => s1.forceCallKey k
    | none => (s1, ⟨none, []⟩)
  (f.1.abortCheck ch .failed (some reason) s.eventBlock).runPasses f.2

/-- R132: the channel drops. -/
def State.dropChannel (ch : ChanId) (s : State) : State := s.leaveLive ch s.rx.channels[ch].drop .dropped

/-- R124: the channel returns to WAITING by its idle limit. -/
def State.idleOut (ch : ChanId) (s : State) : State :=
  s.leaveLive ch { s.rx.channels[ch].starting with state := .waiting } .noLink

/-- R129: the fourth consecutive concealment; the ring is kept. -/
def Channel.reprime (c : Channel) : Channel := { c with state := .priming, conceal := 0, idle := 0 }

/-- R133: the channel recovers with the frame that completed the run as base and first block. -/
def Channel.recover (c : Channel) : Channel :=
  match c.held with
  | some b => { (c.primeFrom b.seq b.samples) with quality := 0, degraded := false, run := 0, held := none }
  | none => c

/-- R136: a RUNNING channel at the declaration of clock presence. -/
def Channel.clockReturn (c : Channel) : Channel := c.flush.reprime

end Sys2Proof.Machine
end

