-- ==== Sys2Proof/Machine/Govern.lean ====
section
/-! DEFINITION. Output gains and the protection governor (3.4, chapter 9). -/

namespace Sys2Proof.Machine

/-! ## Output gain (R53, R54) -/

/-- 3.4.1: the present gain. -/
def Gain.level (g : Gain) : Nat := rampLevel g.start g.target g.index

/-- R54: a change of target restarts the ramp from the present gain; an unchanged target changes nothing. -/
def Gain.aim (target : Nat) (g : Gain) : Gain :=
  if target = g.target then g else { target := target, start := g.level, index := 0 }

/-- R53: one block computed. -/
def Gain.advance (g : Gain) : Gain := { g with index := min 8 (g.index + 1) }

/-- R53, R161: the cap that a protection level selects. -/
def GovConfig.cap (c : GovConfig) (level : Nat) : Nat :=
  match level with
  | 0 => Config.unity
  | 1 => c.cap1
  | _ => c.cap2

/-- R53, R155: a port's cap; a port that is not governed has level 0 and cap 4096. -/
def State.capOf (s : State) (p : PortId) : Nat :=
  if s.ports[p].kind.governed then s.gov.config.cap s.gov.records[p].level else Config.unity

/-- R53: the target gain of an output port. -/
def State.wantedGain (s : State) (p : PortId) : Nat := min ((s.ports[p].trim).getD Config.unity) (s.capOf p)

/-- R54: the gain record is retargeted if min(trim, cap) has changed. -/
def State.retargetGain (p : PortId) (s : State) : State :=
  match s.mix.gains[p] with
  | none => s
  | some g => s.setGain p (some (g.aim (s.wantedGain p)))

/-- R48: the kinds that have an output. -/
def PortKind.hasOutput : PortKind → Bool
  | .panel => true | .earpiece => true | .field => true | .source => false | .unused => false

/-- R53: the records that START makes, at rest at their targets. -/
def State.startGains (s : State) : Vector (Option Gain) 48 :=
  tableOf fun p : PortId =>
    if s.ports[p].kind.hasOutput then some ⟨s.wantedGain p, s.wantedGain p, 8⟩ else none

/-! ## The window end (R159 to R161) -/

/-- R160: the closed-loop level. -/
def GovConfig.closedLevel (c : GovConfig) (peak : Nat) : Nat :=
  match c.mode with
  | .closed => if c.tMid < peak then 2 else if c.tLow < peak then 1 else 0
  | .open => 0
  | .off => 0

/-- R160: the open-loop level. -/
def GovConfig.openLevel (c : GovConfig) (history : List Nat) : Nat :=
  if history.any fun n : Nat => decide (c.limit < n) then 1 else 0

/-- R160: a level rises at once to what is wanted and falls by one step. -/
def nextLevel (wanted present : Nat) : Nat :=
  if present < wanted then wanted else if wanted < present then present - 1 else present

/-- R159 step 1: the last eight counts, oldest first. -/
def appendHistory (n : Nat) (h : List Nat) : List Nat :=
  let h' := h ++ [n]
  h'.drop (h'.length - Config.historyWindows)

/-- R159: a port's record after a window end, given the window's clip count. -/
def Protection.endWindow (c : GovConfig) (clips : Nat) (r : Protection) : Protection :=
  let h := appendHistory r.openings r.history
  { level := nextLevel (max (c.closedLevel r.peak) (c.openLevel h)) r.level
    peak := 0
    openings := 0
    history := h
    last := some ⟨r.peak, r.openings, clips⟩ }

/-- R159 to R162: the window end of one governed port. -/
def State.endWindowPort (p : PortId) (s : State) : State :=
  if s.ports[p].kind.governed then
    let r := s.gov.records[p]
    let r' := r.endWindow s.gov.config s.mix.clips[p]
    let s1 := (s.setProtection p r').retargetGain p
    if r'.level = r.level then s1 else s1.report (.protect p)
  else s

/-- R159: the window end, due once the window's last block has been computed. Ports in ascending order (R162). -/
def State.endWindow (s : State) : State :=
  if s.gov.windowDue then
    (List.finRange 48).foldl (fun s p => s.endWindowPort p)
      { s with gov := { s.gov with windowDue := false } }
  else s

/-- R165: STOP's effect on the governor. The levels' notices are queued in ascending port order (R162). -/
def State.stopGovernor (s : State) : State :=
  let raised := (tableRows s.gov.records).filter fun r : PortId × Protection =>
    s.ports[r.1].kind.governed && decide (r.2.level ≠ 0)
  ({ s with gov := { s.gov with records := Vector.replicate 48 Protection.reset, windowDue := false } }).reportAll
    (raised.map fun r : PortId × Protection => .protect r.1)

end Sys2Proof.Machine
end

