-- ==== Sys2Proof/Machine/MixEngine.lean ====
section
/-! DEFINITION. The mix engine's arithmetic for one block: inputs, buses, N−1, accumulators, dip, gain, clips (chapter 3). All
sums are exact integers, rounded once. The paths and records it reads have already advanced for the block. -/

namespace Sys2Proof.Machine

/-- R7, R8: the 48 samples of a slot in a completed input block; a frame that is missing gives 0. -/
def slotBlock (frames : List TdmFrame) (x : Slot) : Block :=
  tableOf fun j : Fin 48 =>
    match frames[j.val]? with
    | some f => f[x.place]
    | none => 0

/-- R8, R150: a check running with SILENT silences its field port's input (log 26, DEDUCED, unsafe). -/
def State.silenced (s : State) (c : ChanId) : Bool :=
  decide (s.checks[c].state = .running) && decide (s.checks[c].forward = .silent)

/-- R1, R8, R43: a port's input for the block being computed; a channel's yield for the block is its previous yield by then. -/
def State.portInput (s : State) (p : PortId) : Block :=
  let r := s.ports[p]
  let slots : Block :=
    match r.inSlot with
    | some x => slotBlock s.lanes.input x
    | none => silence
  match r.kind with
  | .panel => slots
  | .earpiece => slots
  | .source => slots
  | .field =>
      match r.channel with
      | some c => if s.silenced c then silence else s.rx.channels[c].prevYield
      | none => silence
  | .unused => silence

/-- R43: every port's source samples. -/
def State.inputs (s : State) : Vector Block 48 := tableOf fun p : PortId => s.portInput p

/-- R43: the source sample of a port at position `j`. -/
def sourceSample (inp : Vector Block 48) (p : PortId) (j : Fin 48) : Int := (inp[p][j]).toInt

def sumInt (xs : List Int) : Int := xs.foldr (· + ·) 0

/-- R45: one path's product in a bus accumulator; no path runs from a bus into a bus (R20). -/
def busTerm (inp : Vector Block 48) (j : Fin 48) (q : Path) : Int :=
  match q.ident.src with
  | .port p => sourceSample inp p j * (q.level : Int)
  | .bus _ => 0

/-- R45: the bus accumulator. -/
def busAcc (paths : List Path) (inp : Vector Block 48) (b : BusId) (j : Fin 48) : Int :=
  sumInt ((paths.filter fun q : Path => decide (q.ident.dst = .bus b)).map (busTerm inp j))

/-- R46: a listener's own contribution to a bus. -/
def ownContribution (paths : List Path) (inp : Vector Block 48) (k : PortId) (b : BusId) (j : Fin 48) : Int :=
  sourceSample inp k j *
    sumInt ((paths.filter fun q : Path => decide (q.ident.dst = .bus b) && decide (q.ident.src = .port k)).map
      fun q : Path => (q.level : Int))

/-- R46: the N−1 bus value that a listener hears. -/
def busValue (paths : List Path) (inp : Vector Block 48) (k : PortId) (b : BusId) (j : Fin 48) : Int :=
  sat24 (roundDiv 4096 (busAcc paths inp b j - ownContribution paths inp k b j))

/-- R49: what a path into port `k` carries. -/
def pathValue (paths : List Path) (inp : Vector Block 48) (k : PortId) (j : Fin 48) (q : Path) : Int :=
  match q.ident.src with
  | .port p => sourceSample inp p j
  | .bus b => busValue paths inp k b j

/-- R49: ProgAcc (FEED) or TalkAcc (TALK) of port `k`. -/
def outputAcc (paths : List Path) (inp : Vector Block 48) (cls : PathClass) (k : PortId) (j : Fin 48) : Int :=
  sumInt ((paths.filter fun q : Path => decide (q.ident.dst = .port k) && decide (q.ident.cls = cls)).map
    fun q : Path => pathValue paths inp k j q * (q.level : Int))

/-- R50 to R52: the measured value M of port `k`, dip factor `d`. -/
def measured (paths : List Path) (inp : Vector Block 48) (d : Nat) (k : PortId) (j : Fin 48) : Int :=
  roundDiv 256 (roundDiv 4096 (outputAcc paths inp .feed k j) * (d : Int))
    + roundDiv 4096 (outputAcc paths inp .talk k j)

/-- R55: Y, before saturation. -/
def gained (m : Int) (gain : Nat) : Int := roundDiv 4096 (m * (gain : Int))

/-- R51: a port's dip factor for the block; 256 for a port that is no EARPIECE. -/
def State.dipOf (s : State) (p : PortId) : Nat :=
  match s.ports[p].kind, s.ears[p] with
  | .earpiece, some e => e.dip.factor
  | _, _ => Config.noDip

/-- R53: a port's output gain for the block. -/
def State.gainOf (s : State) (p : PortId) : Nat :=
  match s.mix.gains[p] with
  | some g => g.level
  | none => 0

/-- R52: the 48 measured values of a port. -/
def State.measures (s : State) (inp : Vector Block 48) (p : PortId) : List Int :=
  let d := s.dipOf p
  (List.finRange 48).map fun j : Fin 48 => measured s.paths inp d p j

/-- R48, R55: the 48 output samples of a port, given its measured values. -/
def outputBlock (ms : List Int) (gain : Nat) : Block :=
  tableOf fun j : Fin 48 => sampleOf (sat24 (gained (ms.getD j.val 0) gain))

/-- R55: how many of a port's output samples clip. -/
def clipCount (ms : List Int) (gain : Nat) : Nat := (ms.filter fun m : Int => clips24 (gained m gain)).length

/-- R157: the largest magnitude of M. -/
def peakOf (ms : List Int) : Nat := (ms.map Int.natAbs).foldl max 0

/-- What the mix engine computes for one port in one block: its output samples, its clips and its peak. -/
structure PortMix where
  out : Block
  clips : Nat
  peak : Nat
  deriving DecidableEq, Repr

/-- R48 to R55: a port's output; ports of other kinds have none. -/
def State.mixPort (s : State) (inp : Vector Block 48) (p : PortId) : PortMix :=
  if s.ports[p].kind.hasOutput then
    let ms := s.measures inp p
    let g := s.gainOf p
    ⟨outputBlock ms g, clipCount ms g, peakOf ms⟩
  else ⟨silence, 0, 0⟩

/-- R44, R53, R110: every ramp advances by one block. -/
def State.advanceRamps (s : State) : State :=
  { s with
    paths := s.paths.map Path.advance
    mix := { s.mix with gains := tableMap (Option.map Gain.advance) s.mix.gains }
    ears := tableMap (Option.map fun e : Ear => { e with dip := e.dip.advance }) s.ears }

/-- R57: the computed block stands ready to be driven; R56: clips are counted, from 0 at the first block of a window;
R157: peaks are raised unless the governor is OFF. -/
def State.mixBlock (n : BlockCount) (s : State) : State :=
  let inp := s.inputs
  let mixes : Vector PortMix 48 := tableOf fun p : PortId => s.mixPort inp p
  { s with
    lanes := { s.lanes with outBlock := some (tableMap PortMix.out mixes) }
    mix := { s.mix with
      clips := tableOf fun p : PortId => (if beginsWindow n then 0 else s.mix.clips[p]) + mixes[p].clips }
    gov := { s.gov with
      records := tableOf fun p : PortId =>
        let r := s.gov.records[p]
        if s.ports[p].kind.governed && decide (s.gov.config.mode ≠ .off) then
          { r with peak := max r.peak mixes[p].peak }
        else r } }

end Sys2Proof.Machine
end

