-- ==== Sys2Proof/Machine/Transmit.lean ====
section
/-! DEFINITION. The link transmitter: outbound AUDIO and CUE frames and the port arbiter (8.1 to 8.3). -/

namespace Sys2Proof.Machine

/-- R57: the output block of a channel's field port, as the mix engine has just computed it. -/
def State.fieldOutput (s : State) (ch : ChanId) : Block :=
  match s.fieldPort ch, s.lanes.outBlock with
  | some p, some out => out[p]
  | _, _ => silence

/-- R148, R152: the pattern block replaces the port's output while a check runs, unless the yield for this block has ended
it by a drop or the idle limit. In the last block of a check that end comes before completion, where R152 also says that either may be
taken first (log 51, DESIGN CHOICE, unsafe). -/
def State.patternFor (s : State) (ch : ChanId) : Bool :=
  decide (s.checks[ch].state = .running) && !s.rx.channels[ch].dropDue && !s.rx.channels[ch].idleDue

/-- R141, R148: a configured channel makes its AUDIO frame for block `n` and its outbound sequence advances. -/
def State.makeFrame (n : BlockCount) (ch : ChanId) (s : State) : State :=
  match s.rx.channels[ch].config with
  | none => s
  | some cfg =>
      let k := s.checks[ch]
      let pattern := s.patternFor ch
      let samples := if pattern then patternBlock (k.patternNumber n) else s.fieldOutput ch
      let s1 := if pattern then s.setCheck ch (k.record n) else s
      { s1 with tx := { s1.tx with
          ready := s1.tx.ready ++ [⟨ch, cfg.linkId, s1.tx.outSeq[ch], samples⟩]
          outSeq := tableSet s1.tx.outSeq ch (s1.tx.outSeq[ch] + 1) } }

/-- R141, R144: the AUDIO frames of block `n` replace those of the earlier block that were not begun. -/
def State.makeFrames (n : BlockCount) (s : State) : State :=
  (List.finRange 8).foldl (fun s ch => s.makeFrame n ch) { s with tx := { s.tx with ready := [] } }

/-- R144: the cue frame is made when it is begun. -/
def State.cueFrame (s : State) (q : OutCue) : TxFrame :=
  match s.rx.channels[q.channel].config with
  | some cfg => .cue cfg.linkId s.tx.outSeq[q.channel] q.code
  | none => .cue 0 s.tx.outSeq[q.channel] q.code

/-- R144: the oldest cue not begun is marked as begun. -/
def beginCue : List OutCue → List OutCue
  | [] => []
  | q :: qs => if q.begun then q :: beginCue qs else { q with begun := true } :: qs

/-- R144: the arbiter's choice when the port is free and LKTXRDY is asserted: the ready AUDIO frame of the lowest channel (they
stand in channel order), else the oldest cue not begun. -/
def State.beginFrame (s : State) : State :=
  match s.tx.ready with
  | f :: rest => { s with tx := { s.tx with sending := some (.audio f), ready := rest } }
  | [] =>
      match s.tx.cues.find? fun q : OutCue => !q.begun with
      | some q => { s with tx := { s.tx with sending := some (s.cueFrame q), cues := beginCue s.tx.cues } }
      | none => s

/-- R144, R145: the last byte of the frame in progress has been sent; a cue frame's entry leaves the queue. -/
def State.finishFrame (s : State) : State :=
  match s.tx.sending with
  | none => s
  | some (.audio _) => { s with tx := { s.tx with sending := none } }
  | some (.cue _ _ _) =>
      { s with tx := { s.tx with sending := none, cues := s.tx.cues.filter fun q : OutCue => !q.begun } }

/-- R145: STOP empties the cue queue, but for an entry whose frame is in progress (log 25, DEDUCED, unsafe), and discards the
frames not begun. -/
def Transmitter.stop (t : Transmitter) : Transmitter :=
  { t with ready := [], cues := t.cues.filter OutCue.begun }

/-- 11.8.5: three bytes of a sample. -/
def sampleBytes (x : Sample) : List Byte := [x.extractLsb' 16 8, x.extractLsb' 8 8, x.extractLsb' 0 8]

/-- 11.8.5: the bytes of a block's samples, sample 0 first. -/
def blockBytes (b : Block) : List Byte := b.toList.flatMap sampleBytes

/-- 11.8.5: the bytes on LKTXD of the frame in progress. -/
def TxFrame.bytes : TxFrame → List Byte
  | .audio f => linkFrameBytes f.linkId 0x01 f.seq (blockBytes f.samples)
  | .cue id q code => linkFrameBytes id 0x02 q [code]

end Sys2Proof.Machine
end

