-- ==== Sys2Proof/Machine/Steps.lean ====
section
/-! DEFINITION. The device's own steps: the block boundary, the steps that fall due with it or with a link frame, the clock's
loss and return; and `settle`, which takes whatever is due before another event is taken (R30, R92, R135, R159, R169). -/

namespace Sys2Proof.Machine

/-! ## The block boundary (R10, R11, R42) -/

/-- R10: the block's 48th frame sync has come, so its boundary may be taken (log 10, DESIGN CHOICE, unsafe). It comes at the end of
the frame, with its command or with the next frame sync, and other commands may come first (log 49, DESIGN CHOICE, safe). -/
def State.boundaryDue (s : State) : Bool := s.lanes.clockPresent && decide (48 ≤ s.lanes.input.length)

/-- R42: block `n` is computed: yields and examinations, ramps, the mix, the outbound frames. The LINK notices of the yields come
ahead of those of the steps that fall due (log 47, DEDUCED, unsafe). -/
def State.computeBlock (n : BlockCount) (s : State) : State :=
  let s1 := (List.finRange 8).foldl (fun s ch => s.yieldChannel n ch) { s with eventBlock := n }
  (s1.advanceRamps.mixBlock n).makeFrames n

/-- R11, R156, R169: the block count advances, and the window end and the judgement fall due. -/
def State.advanceCount (n : BlockCount) (s : State) : State :=
  { s with
    blockCount := n + 1
    gov := { s.gov with windowDue := endsWindow n && decide (s.gov.config.mode ≠ .off) }
    routes := { s.routes with judgementDue := s.routes.swapPending } }

/-- R7: the input block is discarded once the boundary has been taken. -/
def State.clearInput (s : State) : State := { s with lanes := { s.lanes with input := [] } }

/-- R10, R42: the boundary, when it is due. In CONFIG it discards the input block and nothing else. -/
def State.takeBoundary (s : State) : State :=
  if s.boundaryDue then
    match s.mode with
    | .config => s.clearInput
    | .run => ((s.computeBlock s.blockCount).advanceCount s.blockCount).clearInput
  else s

/-! ## The steps due after a boundary or a link frame, each taken only when it is due (log 2, log 38, DESIGN CHOICE, unsafe)

A drop, an idle limit or a judgement takes a window end due at the same boundary first (log 13, DEDUCED, unsafe). -/

def State.takeDrop (ch : ChanId) (s : State) : State :=
  if s.rx.channels[ch].dropDue then s.endWindow.dropChannel ch else s

def State.takeIdleLimit (ch : ChanId) (s : State) : State :=
  if s.rx.channels[ch].idleDue then s.endWindow.idleOut ch else s

def State.takeConcealLimit (ch : ChanId) (s : State) : State :=
  if s.rx.channels[ch].concealDue then s.putChannel ch s.rx.channels[ch].reprime else s

def State.takeRecovery (ch : ChanId) (s : State) : State :=
  if s.rx.channels[ch].recoveryDue then s.putChannel ch s.rx.channels[ch].recover else s

/-- R151: the pattern block of the check's last block has been recorded. -/
def State.completionDue (s : State) (ch : ChanId) : Bool :=
  decide (s.checks[ch].state = .running) && decide (s.checks[ch].duration ≤ s.checks[ch].sent)

/-- R151: the max delay that a check is judged by. -/
def State.maxDelayOf (s : State) (ch : ChanId) : Nat :=
  match s.rx.channels[ch].config with
  | some cfg => cfg.maxDelay
  | none => Config.defaultMaxDelay

/-- R151, R153: a check completes: PASSED or FAILED, its CHECK notice, then the excess-delay flag (log 16, DESIGN CHOICE,
unsafe). -/
def State.takeCompletion (ch : ChanId) (s : State) : State :=
  if s.completionDue ch then
    let k := s.checks[ch]
    let limit := s.maxDelayOf ch
    let v := k.verdict limit
    let s1 := s.endCheck ch (if v.isNone then .passed else .failed) v s.eventBlock
    s1.putChannel ch { s1.rx.channels[ch] with excess := k.exceeds limit }
  else s

/-- R30: the spent record at one position leaves the table. -/
def State.takeRemoval (pos : Nat) (s : State) : State := s.removeSpent fun p : Path => decide (p.pos = pos)

/-- R92: a key's wait in its target group has reached its deadline. -/
def State.takeTimeout (k : KeyId) (s : State) : State :=
  match s.keys[k].target with
  | some (.group g) => if s.timeoutDue g k then s.timeOut g k else s
  | _ => s

/-- R92: every waiter of a group whose deadline is reached, oldest first (log 18, DESIGN CHOICE, unsafe). -/
def State.takeTimeouts (g : GroupId) (s : State) : State := s.groups[g].waiters.foldl (fun s k => s.takeTimeout k) s

/-- R170, R171: the judgement, when it is due. The window end due at the same boundary comes first, since the openings of the
exchange count in the next window. -/
def State.takeJudgement (s : State) : State := if s.routes.judgementDue then s.endWindow.judgeSwap else s

/-! ## Clock loss and return (R12, R13, R136) -/

/-- R12: the declaration of loss; nothing is driven from then on (log 37, DEDUCED, unsafe). -/
def State.loseClock (s : State) : State :=
  ({ s with lanes := { s.lanes with clockPresent := false, syncCount := 0, input := [], outBlock := none,
                                    tdmOut := none } }).report (.clock false s.blockCount)

/-- R13: 48 closely spaced frame syncs have been counted. -/
def State.presenceDue (s : State) : Bool :=
  !s.lanes.clockPresent && decide (Config.syncsToPresent ≤ s.lanes.syncCount)

/-- R136: a channel at the declaration of presence. -/
def State.returnChannel (ch : ChanId) (s : State) : State :=
  if s.rx.channels[ch].state = .running then s.putChannel ch s.rx.channels[ch].clockReturn else s

/-- R13, R136: the declaration of presence, when it is due; the CLOCK notice comes before the LINK notices (log 17, DESIGN
CHOICE, unsafe). -/
def State.takeClockPresent (s : State) : State :=
  if s.presenceDue then
    (List.finRange 8).foldl (fun s ch => s.returnChannel ch)
      (({ s with lanes := { s.lanes with clockPresent := true, syncCount := 0, input := [] } }).report
        (.clock true s.blockCount))
  else s

/-! ## Settling -/

/-- The due steps of one channel. -/
def State.settleChannel (ch : ChanId) (s : State) : State :=
  (((s.takeDrop ch).takeIdleLimit ch).takeConcealLimit ch).takeRecovery ch

/-- Every due step but the boundary and the declaration of presence, in the default order. Removals come at once after the
block (R30). Each channel's LINK notices stand with its steps (log 47, DEDUCED, unsafe). Checks that complete at one boundary do so
in ascending channel order, which R153 does not give (log 50, DESIGN CHOICE, unsafe); so do the timeouts by group (log 18, DESIGN
CHOICE, unsafe). -/
def State.settleSteps (s : State) : State :=
  let s1 := s.endWindow.removeSpent fun _ => true
  let s2 := (List.finRange 8).foldl (fun s ch => s.settleChannel ch) s1
  let s3 := (List.finRange 8).foldl (fun s ch => s.takeCompletion ch) s2
  let s4 := (List.finRange 32).foldl (fun s g => s.takeTimeouts g) s3
  s4.takeJudgement

/-- Every due step is taken: those left by the event before, then the declaration of presence, then what that makes due. A boundary
is none of them: it waits for the end of its frame (log 49, DESIGN CHOICE, safe). -/
def State.settle (s : State) : State := s.settleSteps.takeClockPresent.settleSteps

/-- R10: a frame sync begins the next frame, so a boundary that waits has been taken before it, with the steps that follow from it
(log 49, DESIGN CHOICE, safe). -/
def State.passBoundary (s : State) : State := if s.boundaryDue then s.takeBoundary.settleSteps else s

/-- Nothing is due for a channel. -/
def State.channelQuiet (s : State) (ch : ChanId) : Bool :=
  !s.rx.channels[ch].dropDue && !s.rx.channels[ch].idleDue && !s.rx.channels[ch].concealDue
    && !s.rx.channels[ch].recoveryDue && !s.completionDue ch

/-- No waiter of a group has reached its deadline. -/
def State.groupQuiet (s : State) (g : GroupId) : Bool :=
  s.groups[g].waiters.all fun k : KeyId =>
    decide (s.mode ≠ .run) || decide (s.keys[k].deadline ≠ some s.blockCount)

/-- No step is due but, perhaps, the boundary or the declaration of presence. -/
def State.stepsQuiet (s : State) : Bool :=
  !s.gov.windowDue && (List.finRange 8).all (fun ch => s.channelQuiet ch) && !(s.paths.any Path.spent)
    && (List.finRange 32).all (fun g => s.groupQuiet g) && !s.routes.judgementDue

/-- No step is due that is taken before the next event; a boundary may wait. -/
def State.quiet (s : State) : Bool := s.stepsQuiet && !s.presenceDue

end Sys2Proof.Machine
end

