-- ==== Sys2Proof/Machine/Wire.lean ====
section
/-! DEFINITION. What replies and notices hold, field by field, and their bytes on the control link (R39, R78, R79, R97, R113,
R114, R137, R138, R153, R162, R164, R174, R175, R182, R189, 11.8). -/

namespace Sys2Proof.Machine

/-! ## Fields as bytes (R189) -/

/-- R189: a field that may be absent and whose range takes in all ones: a presence byte, then the field. -/
def taggedBytes (ones : List Byte) (f : Nat → List Byte) : Option Nat → List Byte
  | none => 0 :: ones
  | some n => 1 :: f n

def Field.bytes : Field → List Byte
  | .u8 n => [byteOf n]
  | .u16 n => bytes16 n
  | .u32 n => bytes32 n
  | .opt8 n => optByte n
  | .opt16 n => optBytes16 n
  | .opt32 n => optBytes32 n
  | .tagged8 n => taggedBytes [0xFF] (fun n => [byteOf n]) n
  | .tagged16 n => taggedBytes [0xFF, 0xFF] bytes16 n
  | .tagged32 n => taggedBytes [0xFF, 0xFF, 0xFF, 0xFF] bytes32 n

def bodyBytes (fs : List Field) : List Byte := fs.flatMap Field.bytes

/-- 11.8.2: a reply frame. -/
def Reply.bytes (r : Reply) : List Byte :=
  let body := bodyBytes r.body
  bytes16 (4 + body.length) ++ [0x01, r.kind, r.tag, byteOf r.status.code] ++ body

/-- 11.8.2: an empty frame. -/
def emptyFrame : List Byte := [0, 0]

/-! ## Shared parts of bodies -/

def seqNat (q : Option Seq) : Option Nat := q.map BitVec.toNat
def blockNat (b : Option BlockCount) : Option Nat := b.map BitVec.toNat
def countField (n : BlockCount) : Field := .u32 n.toNat

/-- R189: a list is a count byte and then its elements. -/
def listFields (f : α → List Field) (xs : List α) : List Field := .u8 xs.length :: xs.flatMap f

/-- 4.1.9: a destination entry: destination, status, reason. -/
def DestEntry.fields (e : DestEntry) : List Field :=
  [.opt8 (e.dest.map Endpoint.code), .u8 e.status.code, .opt8 e.status.reasonCode]

/-- 6.1.1: key id, priority, entry number. -/
def TalkEntry.fields (e : TalkEntry) : List Field := [.u16 e.key.val, .u8 e.priority, .u32 e.number.toNat]

/-- 9.2.5: peak, openings count, clip count, or absent. The clip count is at most 4800, so it has no presence byte (log 48,
DEDUCED, unsafe). -/
def lastFields : Option LastWindow → List Field
  | some l => [.opt32 (some l.peak), .tagged16 (some l.openings), .opt16 (some l.clips)]
  | none => [.opt32 none, .tagged16 none, .opt16 none]

/-! ## Notices -/

/-- R78. -/
def State.keyNotice (s : State) (k : KeyId) : List Field :=
  let r := s.keys[k]
  [.u16 k.val, .u8 r.activation.code, .u8 r.delivery.code] ++ listFields DestEntry.fields r.entries

/-- R113; a port that has ceased to be an EARPIECE has no entries and 256 for both factors. -/
def State.earpieceNotice (s : State) (p : PortId) : List Field :=
  match s.ears[p] with
  | some e =>
      .u8 p.val :: (listFields TalkEntry.fields e.entries ++
        [.opt16 s.ports[p].dipDepth, .u16 e.dip.target, .u16 e.dip.factor])
  | none =>
      .u8 p.val :: (listFields TalkEntry.fields [] ++ [.opt16 none, .u16 Config.noDip, .u16 Config.noDip])

/-- R137 (widths: log 19, DESIGN CHOICE, unsafe). -/
def State.linkNotice (s : State) (c : ChanId) : List Field :=
  let r := s.rx.channels[c]
  [.u8 c.val, .u8 r.state.code, .opt8 ((s.fieldPort c).map Fin.val), .u16 r.quality, .u8 (flagCode r.degraded),
    .u8 (flagCode r.excess), .tagged16 (seqNat r.nextSeq), .u8 r.heldCount]

/-- R155: the record that a port's reports are read from; a port that is not governed has none. -/
def State.protectionOf (s : State) (p : PortId) : Protection :=
  if s.ports[p].kind.governed then s.gov.records[p] else Protection.reset

/-- R162 (widths: log 19, DESIGN CHOICE, unsafe). -/
def State.protectNotice (s : State) (p : PortId) : List Field :=
  let r := s.protectionOf p
  [.u8 p.val, .u16 r.level, .u16 (s.capOf p)] ++ lastFields r.last ++ listFields (fun n => [.u16 n]) r.history

/-- R153. -/
def CheckReport.fields (r : CheckReport) : List Field :=
  [.u8 r.channel.val, .u8 r.state.code, .opt8 (r.reason.map CheckReason.code), .u16 r.duration,
    countField r.startBlock, .u16 r.sent, .u16 r.matched, .u16 r.mismatched, .opt16 r.lastDelay, .opt16 r.maxDelay,
    countField r.endBlock]

/-- R174: the destination of a DESTINATION limit. -/
def SwapLimit.destination? : SwapLimit → Option Endpoint
  | .table => none
  | .destination d => some d

/-- R78, R113, R137, R162 (read from the subject's state) and R134, R174, R153, R12, R13 (fixed when queued). The creations of a
SWAP notice are at most 256, so they have no presence byte (log 48, DEDUCED, unsafe). -/
def State.noticeBody (s : State) : Notice → List Field
  | .key k => s.keyNotice k
  | .earpiece p => s.earpieceNotice p
  | .link c => s.linkNotice c
  | .protect p => s.protectNotice p
  | .cueIn c code b => [.u8 c.val, .u8 code.toNat, countField b]
  | .swap o b n creations limit =>
      [.u8 o.code, countField b, .u16 n, .opt16 creations, .opt8 (limit.map SwapLimit.code),
        .opt8 ((limit.bind SwapLimit.destination?).map Endpoint.code)]
  | .check r => r.fields
  | .clock present b => [.u8 (flagCode present), countField b]

/-- 11.8.2: a notice frame. -/
def State.noticeBytes (s : State) (n : Notice) : List Byte :=
  let body := bodyBytes (s.noticeBody n)
  bytes16 (2 + body.length) ++ [0x02, byteOf n.kindCode] ++ body

/-! ## Query replies: the block count, then the contents of each query's rule (R182) -/

/-- R182: QUERY_PORT. -/
def State.portBody (s : State) (p : PortId) : List Field :=
  let r := s.ports[p]
  [countField s.blockCount, .u8 r.kind.code, .opt8 (r.inSlot.map Slot.code), .opt8 (r.outSlot.map Slot.code),
    .opt8 (r.channel.map Fin.val), .opt16 r.trim, .opt16 r.dipDepth, .opt8 ((s.presenceOf p).map Presence.code)]

/-- R39: one path record; ROUTE is holder 256, after the key ids. -/
def Path.fields (p : Path) : List Field :=
  let holders := p.keys.map Fin.val ++ (if p.route then [256] else [])
  [.u8 p.ident.src.code, .u8 p.ident.cls.code, .u16 holders.length] ++ holders.map Field.u16 ++
    [.u16 p.target, .u16 p.level, .u8 p.index, .u8 (flagCode p.suspended), .u8 (flagCode p.closing)]

/-- R39: QUERY_PATHS. The records stand in order of position. The destination follows the block count (log 20, DESIGN CHOICE,
unsafe). -/
def State.pathsBody (s : State) (d : Endpoint) : List Field :=
  [countField s.blockCount, .u8 d.code] ++
    listFields Path.fields (s.paths.filter fun p : Path => decide (p.ident.dst = d))

/-- R79: QUERY_KEY. Whether the key is defined is a flag byte of its own, and an absent target is type 0 and number 255 (log 44,
DESIGN CHOICE, unsafe). -/
def State.keyBody (s : State) (k : KeyId) : List Field :=
  let r := s.keys[k]
  [countField s.blockCount, .u8 (flagCode r.defined), .opt8 (r.owner.map Fin.val),
    .u8 ((r.target.map Target.typeCode).getD 0), .opt8 (r.target.map Target.number), .u16 r.level, .u8 r.priority,
    .u8 r.mode.code, .u8 (flagCode (s.linkOwned k)), .u8 r.activation.code, .tagged32 (blockNat r.pressBlock),
    .u8 r.delivery.code] ++ listFields DestEntry.fields r.entries ++ [.tagged32 (blockNat r.deadline)]

/-- R97: QUERY_GROUP (log 35, log 39, DESIGN CHOICE, unsafe). -/
def State.groupBody (s : State) (g : GroupId) : List Field :=
  let r := s.groups[g]
  [countField s.blockCount, .u8 r.mode.code] ++ listFields (fun m : Member => [.u8 m.port.val]) r.members ++
    listFields (fun p : PortId => [.u8 p.val]) r.lru ++
    listFields (fun m : Member => [.opt16 (m.engagedBy.map Fin.val)]) r.members ++
    listFields (fun k : KeyId => [.u16 k.val, .u32 ((blockNat s.keys[k].deadline).getD 0)]) r.waiters ++
    [.u16 r.timeout]

/-- R114: QUERY_EARPIECE. -/
def State.earpieceBody (s : State) (p : PortId) (e : Ear) : List Field :=
  countField s.blockCount :: (listFields TalkEntry.fields e.entries ++
    [.u32 e.count.toNat, .opt16 s.ports[p].dipDepth, .u16 e.dip.target, .u16 e.dip.start, .u8 e.dip.count,
      .u16 e.dip.factor])

/-- R138: the offsets of the blocks held from the next expected sequence, ascending (log 35, DESIGN CHOICE, unsafe). -/
def Channel.offsets (c : Channel) : List Nat :=
  match c.nextSeq with
  | some e => (List.range 32).filter fun i : Nat => (c.holds (e + BitVec.ofNat 16 i)).isSome
  | none => []

/-- R153: the check record of a QUERY_CHANNEL reply. -/
def Check.fields (c : Check) : List Field :=
  [.u8 c.state.code, countField c.startBlock, .u16 c.duration, .u8 c.forward.code, .u16 c.sent, .u16 c.matched,
    .u16 c.mismatched, .opt16 c.lastDelay, .opt16 c.maxDelay, .opt8 (c.reason.map CheckReason.code)]

/-- R138, R153: QUERY_CHANNEL (widths: log 19, DESIGN CHOICE, unsafe); the check record stands last, after the unmatched count
(log 46, DESIGN CHOICE, unsafe). -/
def State.channelBody (s : State) (c : ChanId) : List Field :=
  let r := s.rx.channels[c]
  [countField s.blockCount, .u8 r.state.code, .opt8 ((s.fieldPort c).map Fin.val),
    .tagged16 (r.config.map fun g : ChannelConfig => g.linkId.toNat), .opt8 (r.config.map ChannelConfig.prime),
    .opt16 (r.config.map ChannelConfig.maxDelay), .opt16 ((s.callKeyOf c).map Fin.val),
    .tagged16 (seqNat r.nextSeq)] ++ listFields (fun i : Nat => [.u8 i]) r.offsets ++
    [.u16 r.conceal, .u16 r.quality, .u8 (flagCode r.degraded), .u8 (flagCode r.excess), .u16 r.run, .u16 r.idle,
      .tagged8 (r.lastCue.map BitVec.toNat), .u16 s.rx.unmatched] ++ s.checks[c].fields

/-- R56, R164: the clip count of the window in progress; 0 until a block of that window has been computed (log 27,
DEDUCED, unsafe). -/
def State.clipsInProgress (s : State) (p : PortId) : Nat := if beginsWindow s.blockCount then 0 else s.mix.clips[p]

/-- R164: QUERY_PROTECT (widths: log 19, DESIGN CHOICE, unsafe; absent figures: log 21, DEDUCED, safe). -/
def State.protectBody (s : State) (p : PortId) : List Field :=
  let governed := s.ports[p].kind.governed
  let r := s.protectionOf p
  let figure (n : Nat) : Option Nat := if governed then some n else none
  [countField s.blockCount, .u8 s.gov.config.mode.code, .u16 r.level, .u16 (s.capOf p),
    .opt32 (figure (windowOf s.blockCount)), .opt32 (figure r.peak), .tagged16 (figure r.openings),
    .u16 (s.clipsInProgress p)] ++ lastFields r.last ++ listFields (fun n => [.u16 n]) r.history

/-- R175: one route. -/
def Route.fields (r : Route) : List Field :=
  [.u8 r.ident.src.code, .u8 r.ident.dst.code, .u8 r.ident.cls.code, .u16 r.level]

/-- R175: QUERY_ROUTES; `active` names the set. -/
def State.routesBody (s : State) (active : Bool) (startIndex : Nat) : List Field :=
  let set := if active then s.routes.active else s.routes.standby
  [countField s.blockCount, .u8 (if active then 0 else 1), .u16 set.length, .u8 (flagCode s.routes.swapPending),
    .u16 startIndex] ++ listFields Route.fields ((set.drop startIndex).take Config.routesPerReply)

/-- R154, R179: the GOVERNOR reply. -/
def GovConfig.fields (c : GovConfig) : List Field :=
  [.u8 c.mode.code, .u32 c.tLow, .u32 c.tMid, .u16 c.cap1, .u16 c.cap2, .u16 c.limit]

/-- R179: the START and STOP replies. -/
def State.modeFields (s : State) : List Field := [.u8 s.mode.code, countField s.blockCount]

/-- R64, R179: the PRESS and RELEASE replies. -/
def State.keyStateFields (s : State) (k : KeyId) : List Field :=
  [.u8 s.keys[k].activation.code, .u8 s.keys[k].delivery.code]

end Sys2Proof.Machine
end

