-- ==== Sys2Proof/Machine/Requests.lean ====
section
/-! DEFINITION. Taking a request (R14, R18, R176 to R181) and taking any other event: the shape that every meaning shares. -/

namespace Sys2Proof.Machine

/-- What a meaning answers. -/
abbrev Result := Host.Outcome State Fault Refusal

/-- 11.3: the modes in which a request is executed. -/
inductive AllowedIn where
  | either | configOnly | runOnly
  deriving DecidableEq, Repr

/-- R14. -/
def AllowedIn.admits : AllowedIn → Mode → Bool
  | .either, _ => true
  | .configOnly, .config => true
  | .configOnly, .run => false
  | .runOnly, .config => false
  | .runOnly, .run => true

/-- What executing a request gives: the state, the status code and the reply body. -/
abbrev Answer := State × Status × List Field

/-- R179: a refusal changes no state and its body is empty. -/
def refuse (st : Status) (s : State) : Answer := (s, st, [])

/-- R179: an acceptance with an empty body. -/
def accept (s : State) : Answer := (s, .ok, [])

/-- R176, R177: the frame of a WRITE transaction is taken. Its status byte went out when CSN fell; where no beginning of the
transaction was commanded, CSN falls now (log 8, DESIGN CHOICE, unsafe). A READ that was never reported complete has ended
early, as transactions do not overlap (R186; log 6, DEDUCED, unsafe). -/
def State.openWrite (s : State) : State :=
  { s with link := { s.link with
    reading := none, writing := false, statusOut := if s.link.writing then s.link.statusOut else s.statusByte } }

/-- R18, R179: an executed request clears FRESH and its reply is queued. -/
def State.answer (kind tag : Byte) (a : Answer) : State :=
  let s := a.1
  ({ s with link := { s.link with fresh := false } }).queueReply ⟨kind, tag, a.2.1, a.2.2⟩

/-- R181: 16 replies wait. -/
def State.repliesFull (s : State) : Bool := decide (Config.maxReplies ≤ s.link.replies.length)

/-- R181: the frame is not executed. -/
def State.refuseWrite (s : State) : State := { s with link := { s.link with writeRefused := true } }

/-- R14, R17, R178, R179, R181: a request frame that has passed its form checks is taken. -/
def State.request (kind tag : Byte) (allowed : AllowedIn) (act : State → Answer) (s : State) : State :=
  if s.rstnLow then s
  else
    let s1 := s.settle.openWrite
    if s1.repliesFull then s1.refuseWrite
    else if allowed.admits s1.mode then State.answer kind tag (act s1)
    else State.answer kind tag (refuse .wrongMode s1)

/-- R17: any other event from outside; while RSTN is low it is disregarded (log 5, DEDUCED, unsafe). Due steps are taken first
(log 2, DESIGN CHOICE, unsafe). -/
def State.event (f : State → State) (s : State) : State := if s.rstnLow then s else f s.settle

/-- One of the device's own steps that falls due after a boundary or a link frame. -/
def State.ownStep (f : State → State) (s : State) : State := if s.rstnLow then s else f s

/-- A raw endpoint pair and class (R167 check 1). -/
def pathIdOf (source destination cls : Nat) : Option PathId :=
  match endpointOf source, endpointOf destination, classOf cls with
  | some a, some b, some c => some ⟨a, b, c⟩
  | _, _, _ => none

/-- R180: raw port numbers, all in range. -/
def portNumbers : List Nat → Option (List PortId)
  | [] => some []
  | n :: ns =>
      match objectNumber 48 n, portNumbers ns with
      | some p, some ps => some (p :: ps)
      | _, _ => none

end Sys2Proof.Machine
end

