-- ==== Sys2Proof/Machine/ConfigRequests.lean ====
section
/-! DEFINITION. The requests executed in CONFIG alone: PORT, CHANNEL, CHANNEL_CLOSE, FILTER, GOVERNOR (R3, R4, R119, R121, R154). -/

namespace Sys2Proof.Machine

/-! ## PORT -/

/-- R1, R3: the kinds that use an input slot, an output slot. -/
def PortKind.usesInput : PortKind → Bool
  | .panel => true | .earpiece => true | .source => true | .field => false | .unused => false
def PortKind.usesOutput : PortKind → Bool
  | .panel => true | .earpiece => true | .source => false | .field => false | .unused => false

/-- R3 check 6: a defined key, a group or a route names the port. -/
def State.portNamed (s : State) (p : PortId) : Bool :=
  (s.keys.toList.any fun r : KeyRecord =>
    r.defined && (decide (r.owner = some p) || decide (r.target = some (.port p))))
  || (s.groups.toList.any fun r : GroupRecord => r.members.any fun m : Member => decide (m.port = p))
  || ((s.routes.active ++ s.routes.standby).any fun r : Route =>
    decide (r.ident.src = .port p) || decide (r.ident.dst = .port p))

/-- R3 checks 3 and 4: another port has this property. -/
def State.anotherPort (s : State) (p : PortId) (f : PortRecord → Bool) : Bool :=
  (tableRows s.ports).any fun r : PortId × PortRecord => decide (r.1 ≠ p) && f r.2

/-- R3 check 5: the EARPIECE ports. -/
def State.earpieceCount (s : State) : Nat :=
  (s.ports.toList.filter fun r : PortRecord => decide (r.kind = .earpiece)).length

/-- R3: the record written. A port that becomes FIELD, SOURCE or UNUSED keeps its stored presence, which nothing reads (log 41,
DESIGN CHOICE, safe). -/
def PortRecord.configure (k : PortKind) (i o : Option Slot) (c : Option ChanId) (r : PortRecord) : PortRecord :=
  if k = r.kind then { r with inSlot := i, outSlot := o, channel := c }
  else
    { kind := k, inSlot := i, outSlot := o, channel := c
      trim := if k.hasOutput then some Config.unity else none
      dipDepth := if k = .earpiece then some Config.defaultDipDepth else none
      presence := if k.governed then .available else r.presence }

/-- R4, R121: a channel becomes CLOSED and its configuration is discarded; a CLOSED channel is left as it is (log 28, DEDUCED,
unsafe). -/
def State.closeChannel (c : ChanId) (s : State) : State :=
  if s.rx.channels[c].state = .closed then s else s.putChannel c Channel.reset

/-- R3, R4, R99, R155: an accepted PORT request. -/
def State.writePort (p : PortId) (k : PortKind) (i o : Option Slot) (c : Option ChanId) (s : State) : State :=
  let r := s.ports[p]
  let s1 := s.setPort p (r.configure k i o c)
  let s2 :=
    if k = r.kind then s1
    else (s1.setEar p (if k = .earpiece then some Ear.empty else none)).setProtection p Protection.reset
  match r.channel with
  | some old => if c = some old then s2 else s2.closeChannel old
  | none => s2

/-- R3: the checks, in order. -/
def State.portRequest (number kind : Nat) (inSlot outSlot chan : Option Nat) (s : State) : Answer :=
  match objectNumber 48 number, portKindOf kind with
  | some p, some k =>
      let used (b : Bool) (raw : Option Nat) : Option Nat := if b then raw else none
      match optionally slotOf (used k.usesInput inSlot), optionally slotOf (used k.usesOutput outSlot),
        optionally (objectNumber 8) (used (decide (k = .field)) chan) with
      | some i, some o, some c =>
          if k = .field ∧ c = none then refuse .badArg s
          else if o.isSome && s.anotherPort p (fun r : PortRecord => decide (r.outSlot = o)) then refuse .badArg s
          else if decide (k = .field) && s.anotherPort p
              (fun r : PortRecord => decide (r.kind = .field) && decide (r.channel = c)) then refuse .badArg s
          else if k = .earpiece ∧ s.ports[p].kind ≠ .earpiece ∧ Config.earpiecePool ≤ s.earpieceCount then
            refuse .noSpace s
          else if decide (k ≠ s.ports[p].kind) && s.portNamed p then refuse .busy s
          else accept (s.writePort p k i o c)
      | _, _, _ => refuse .badArg s
  | _, _ => refuse .badArg s

def execPort (tag : Byte) (number kind : Nat) (inSlot outSlot chan : Option Nat) (s : State) : Result :=
  .next (s.request 0x10 tag .configOnly (State.portRequest number kind inSlot outSlot chan))

/-! ## CHANNEL -/

/-- R121: CLOSE. -/
def State.closeRequest (chan : Nat) (s : State) : Answer :=
  match objectNumber 8 chan with
  | some c => accept (s.closeChannel c)
  | none => refuse .badArg s

/-- R121: a configuration, its fields clamped or at their defaults. -/
def channelConfig (linkId : LinkId) (prime maxDelay : Option Nat) (callKey : Option KeyId) : ChannelConfig :=
  ⟨linkId, clampTo 2 24 (prime.getD Config.defaultPrime), clampTo 1 500 (maxDelay.getD Config.defaultMaxDelay), callKey⟩

/-- R121. Operation 0 is CLOSE's request (log 29, DEDUCED, safe). -/
def State.channelRequest (chan operation : Nat) (linkId : LinkId) (prime maxDelay callKey : Option Nat) (s : State) :
    Answer :=
  match operation with
  | 0 => s.closeRequest chan
  | 1 =>
      match objectNumber 8 chan, optionally (objectNumber 256) callKey with
      | some c, some k =>
          if (s.fieldPort c).isNone then refuse .notFound s
          else accept (s.putChannel c
            { s.rx.channels[c].restart with config := some (channelConfig linkId prime maxDelay k) })
      | _, _ => refuse .badArg s
  | _ => refuse .badArg s

def execChannel (tag : Byte) (chan operation : Nat) (linkId : LinkId) (prime maxDelay callKey : Option Nat) (s : State) :
    Result :=
  .next (s.request 0x11 tag .configOnly (State.channelRequest chan operation linkId prime maxDelay callKey))

def execChannelClose (tag : Byte) (chan : Nat) (s : State) : Result :=
  .next (s.request 0x11 tag .configOnly (State.closeRequest chan))

/-! ## FILTER -/

/-- R119. -/
def State.filterRequest (number enabled : Nat) (value mask : LinkId) (chan : Nat) (s : State) : Answer :=
  match objectNumber 16 number, flagOf enabled, objectNumber 8 chan with
  | some f, some e, some c =>
      accept { s with rx := { s.rx with filters := tableSet s.rx.filters f ⟨e, value, mask, c⟩ } }
  | _, _, _ => refuse .badArg s

def execFilter (tag : Byte) (number enabled : Nat) (value mask : LinkId) (chan : Nat) (s : State) : Result :=
  .next (s.request 0x12 tag .configOnly (State.filterRequest number enabled value mask chan))

/-! ## GOVERNOR -/

/-- R154: clamps, defaults, then the two adjustments. -/
def govConfig (m : GovMode) (tLow tMid cap1 cap2 limit : Option Nat) : GovConfig :=
  let low := clampTo 0 Config.maxThreshold (tLow.getD GovConfig.reset.tLow)
  let mid := clampTo 0 Config.maxThreshold (tMid.getD GovConfig.reset.tMid)
  let c1 := clampTo 0 Config.unity (cap1.getD GovConfig.reset.cap1)
  let c2 := clampTo 0 Config.unity (cap2.getD GovConfig.reset.cap2)
  ⟨m, low, max mid low, c1, min c2 c1, clampTo 1 255 (limit.getD GovConfig.reset.limit)⟩

/-- R154, R179. -/
def State.governorRequest (mode : Nat) (tLow tMid cap1 cap2 limit : Option Nat) (s : State) : Answer :=
  match govModeOf mode with
  | some m =>
      let c := govConfig m tLow tMid cap1 cap2 limit
      ({ s with gov := { s.gov with config := c } }, .ok, c.fields)
  | none => refuse .badArg s

def execGovernor (tag : Byte) (mode : Nat) (tLow tMid cap1 cap2 limit : Option Nat) (s : State) : Result :=
  .next (s.request 0x13 tag .configOnly (State.governorRequest mode tLow tMid cap1 cap2 limit))

end Sys2Proof.Machine
end

