-- ==== Sys2Proof/Machine/DefinitionRequests.lean ====
section
/-! DEFINITION. The requests that define and edit in either mode: TRIM, KEY, KEY_REMOVE, GROUP, PRESENCE, ROUTE_ADD, ROUTE_DROP,
ROUTE_COPY, SWAP, NOTIFY, RESYNC (R5, R61, R62, R82, R94, R111, R167 to R169, R184, R185). -/

namespace Sys2Proof.Machine

/-! ## TRIM -/

/-- R5, R54, R111: the values written, and the gain and the dip retargeted where their targets change. -/
def State.writeTrim (p : PortId) (trim : Nat) (dip : Option Nat) (s : State) : State :=
  let r := s.ports[p]
  let depth := match dip with
    | some d => some (clampTo 0 Config.noDip d)
    | none => r.dipDepth
  let s1 := (s.setPort p { r with trim := some (clampTo 0 Config.unity trim), dipDepth := depth }).retargetGain p
  if dip.isSome then s1.retargetDip p else s1

/-- R5. -/
def State.trimRequest (number trim : Nat) (dip : Option Nat) (s : State) : Answer :=
  match objectNumber 48 number with
  | some p =>
      if s.ports[p].kind.hasOutput && (decide (s.ports[p].kind = .earpiece) || dip.isNone) then
        accept (s.writeTrim p trim dip)
      else refuse .badArg s
  | none => refuse .badArg s

def execTrim (tag : Byte) (number trim : Nat) (dipDepth : Option Nat) (s : State) : Result :=
  .next (s.request 0x20 tag .either (State.trimRequest number trim dipDepth))

/-! ## KEY -/

/-- R61 check 2, R62: RUN, and the key is not IDLE. -/
def State.keyBusy (s : State) (k : KeyId) : Bool :=
  decide (s.mode = .run) && decide (s.keys[k].activation ≠ .idle)

/-- R61 check 4. -/
def State.targetRefused (s : State) (owner : PortId) : Target → Bool
  | .port n => decide (n = owner) || !s.ports[n].kind.hasOutput
  | .bus _ => false
  | .group _ => false

/-- R62. A key that is undefined and link-owned is refused BUSY (log 43, DEDUCED, unsafe). -/
def State.removeRequest (number : Nat) (s : State) : Answer :=
  match objectNumber 256 number with
  | some k =>
      if s.keyBusy k then refuse .busy s
      else if s.linkOwned k then refuse .busy s
      else accept (s.setKey k KeyRecord.reset)
  | none => refuse .badArg s

/-- R61: the record written. -/
def KeyRecord.define (owner : PortId) (t : Target) (level priority : Option Nat) (mode : Option KeyMode)
    (r : KeyRecord) : KeyRecord :=
  { r with
    owner := some owner
    target := some t
    level := clampTo 0 Config.maxLevel (level.getD Config.unity)
    priority := clampTo 0 7 (priority.getD 0)
    mode := mode.getD .momentary }

/-- R61: the checks, in order. A target type of none is R62's request (log 29, DEDUCED, safe). -/
def State.keyRequest (number owner targetType targetNumber : Nat) (level priority mode : Option Nat) (s : State) : Answer :=
  match targetType with
  | 0 => s.removeRequest number
  | type + 1 =>
      match objectNumber 256 number, objectNumber 48 owner, targetOf (type + 1) targetNumber, optionally keyModeOf mode with
      | some k, some o, some t, some m =>
          if s.keyBusy k then refuse .busy s
          else if !s.ports[o].kind.hasOutput then refuse .badArg s
          else if s.targetRefused o t then refuse .badArg s
          else accept (s.setKey k (s.keys[k].define o t level priority m))
      | _, _, _, _ => refuse .badArg s

def execKey (tag : Byte) (number owner targetType targetNumber : Nat) (level priority mode : Option Nat) (s : State) :
    Result :=
  .next (s.request 0x21 tag .either (State.keyRequest number owner targetType targetNumber level priority mode))

def execKeyRemove (tag : Byte) (number : Nat) (s : State) : Result :=
  .next (s.request 0x21 tag .either (State.removeRequest number))

/-! ## GROUP -/

/-- R82 check 2: RUN, and the group has an engagement or a waiter. -/
def State.groupBusy (s : State) (g : GroupId) : Bool :=
  decide (s.mode = .run)
    && ((s.groups[g].members.any fun m : Member => m.engagedBy.isSome) || !s.groups[g].waiters.isEmpty)

/-- R82: the record written; an empty member list gives the values of R81. The engagements and the queue are empty then
(R83). -/
def groupWritten (mode : GroupMode) (timeout : Option Nat) (ports : List PortId) : GroupRecord :=
  if ports.isEmpty then GroupRecord.reset
  else
    ⟨mode, ports.map fun p : PortId => ⟨p, none⟩, ports, [],
      clampTo Config.minTimeout Config.maxTimeout (timeout.getD Config.defaultTimeout)⟩

/-- R82: the checks, in order. -/
def State.groupRequest (number mode : Nat) (timeout : Option Nat) (members : List Nat) (s : State) : Answer :=
  match objectNumber 32 number, groupModeOf mode, portNumbers members with
  | some g, some m, some ports =>
      if Config.maxMembers < ports.length then refuse .badArg s
      else if s.groupBusy g then refuse .busy s
      else if ¬ ports.Nodup then refuse .badArg s
      else if !(ports.all fun p : PortId => s.ports[p].kind.hasOutput) then refuse .badArg s
      else accept (s.setGroup g (groupWritten m timeout ports))
  | _, _, _ => refuse .badArg s

def execGroup (tag : Byte) (number mode : Nat) (timeout : Option Nat) (members : List Nat) (s : State) : Result :=
  .next (s.request 0x22 tag .either (State.groupRequest number mode timeout members))

/-! ## PRESENCE -/

/-- R94: the value is stored, and a change to AVAILABLE triggers service passes. -/
def State.writePresence (p : PortId) (v : Presence) (s : State) : State :=
  let r := s.ports[p]
  let s1 := s.setPort p { r with presence := v }
  if r.presence ≠ .available ∧ v = .available then s1.runPasses ⟨none, [p]⟩ else s1

/-- R94. -/
def State.presenceRequest (number value : Nat) (s : State) : Answer :=
  match objectNumber 48 number, presenceValueOf value with
  | some p, some v =>
      if s.ports[p].kind.governed then accept (s.writePresence p v) else refuse .badArg s
  | _, _ => refuse .badArg s

def execPresence (tag : Byte) (number value : Nat) (s : State) : Result :=
  .next (s.request 0x27 tag .either (State.presenceRequest number value))

/-! ## Routes -/

/-- R167 check 3: a shape that the path table forbids, or an UNUSED source. -/
def State.shapeRefused (s : State) (id : PathId) : Bool :=
  decide (id.src = id.dst)
    || (match id.src, id.dst with
        | .bus _, .bus _ => true
        | .port a, .port b => !s.ports[b].kind.hasOutput || decide (s.ports[a].kind = .unused)
        | .bus _, .port b => !s.ports[b].kind.hasOutput
        | .port a, .bus _ => decide (s.ports[a].kind = .unused))

/-- R167: the route updated in its place or appended at the tail. -/
def setRoute (id : PathId) (level : Nat) (rs : List Route) : List Route :=
  if (findRoute id rs).isSome then rs.map fun r : Route => if r.ident = id then { r with level := level } else r
  else rs ++ [⟨id, level⟩]

/-- R167: the checks, in order. -/
def State.routeAddRequest (source destination cls : Nat) (level : Option Nat) (s : State) : Answer :=
  match pathIdOf source destination cls with
  | some id =>
      if s.routes.swapPending then refuse .busy s
      else if s.shapeRefused id then refuse .badArg s
      else if (findRoute id s.routes.standby).isNone
          && (decide (Config.maxRoutes ≤ s.routes.standby.length)
            || decide (Config.maxPathsPerDest ≤ routesInto id.dst s.routes.standby)) then refuse .noSpace s
      else accept { s with routes := { s.routes with
        standby := setRoute id (clampTo 0 Config.maxLevel (level.getD Config.unity)) s.routes.standby } }
  | none => refuse .badArg s

def execRouteAdd (tag : Byte) (source destination cls : Nat) (level : Option Nat) (s : State) : Result :=
  .next (s.request 0x23 tag .either (State.routeAddRequest source destination cls level))

/-- R168. -/
def State.routeDropRequest (source destination cls : Nat) (s : State) : Answer :=
  match pathIdOf source destination cls with
  | some id =>
      if s.routes.swapPending then refuse .busy s
      else if (findRoute id s.routes.standby).isNone then refuse .notFound s
      else accept { s with routes := { s.routes with
        standby := s.routes.standby.filter fun r : Route => decide (r.ident ≠ id) } }
  | none => refuse .badArg s

def execRouteDrop (tag : Byte) (source destination cls : Nat) (s : State) : Result :=
  .next (s.request 0x24 tag .either (State.routeDropRequest source destination cls))

/-- R168. -/
def State.routeCopyRequest (s : State) : Answer :=
  if s.routes.swapPending then refuse .busy s
  else accept { s with routes := { s.routes with standby := s.routes.active } }

def execRouteCopy (tag : Byte) (s : State) : Result := .next (s.request 0x25 tag .either State.routeCopyRequest)

/-- R169. -/
def State.swapRequest (s : State) : Answer :=
  match s.mode with
  | .config =>
      accept { s with routes := { s.routes with active := s.routes.standby, standby := s.routes.active } }
  | .run =>
      if s.routes.swapPending then refuse .busy s
      else accept { s with routes := { s.routes with swapPending := true } }

def execSwap (tag : Byte) (s : State) : Result := .next (s.request 0x26 tag .either State.swapRequest)

/-! ## Notices -/

/-- R184. -/
def execNotify (tag : Byte) (mask : Byte) (s : State) : Result :=
  .next <| s.request 0x28 tag .either fun s => accept { s with link := { s.link with mask := mask } }

/-- R185. -/
def execResync (tag : Byte) (s : State) : Result :=
  .next <| s.request 0x50 tag .either fun s =>
    accept { s with link := { s.link with notices := [], overflow := false } }

end Sys2Proof.Machine
end

