-- ==== Sys2Proof/Machine/Events.lean ====
section
/-! DEFINITION. The clock, the lanes, the link port and the device's own steps, as commands (R7 to R13, R30, R92, R116 to R136,
R144, R145, R151, R159, R170). -/

namespace Sys2Proof.Machine

/-! ## The device's own steps -/

/-- R10, R42: the boundary, with whatever fell due before it. -/
def execBlockBoundary (s : State) : Result := .next (s.ownStep fun s => s.settleSteps.takeBoundary)

/-- R129. -/
def execConcealLimit (ch : ChanId) (s : State) : Result := .next (s.ownStep (State.takeConcealLimit ch))

/-- R124. -/
def execChannelIdleLimit (ch : ChanId) (s : State) : Result := .next (s.ownStep (State.takeIdleLimit ch))

/-- R132. -/
def execChannelDrop (ch : ChanId) (s : State) : Result := .next (s.ownStep (State.takeDrop ch))

/-- R133. -/
def execChannelRecovery (ch : ChanId) (s : State) : Result := .next (s.ownStep (State.takeRecovery ch))

/-- R151. -/
def execCheckCompletion (ch : ChanId) (s : State) : Result := .next (s.ownStep (State.takeCompletion ch))

/-- R30. -/
def execPathRemoval (position : Fin 512) (s : State) : Result := .next (s.ownStep (State.takeRemoval position.val))

/-- R92. -/
def execWaitTimeout (number : KeyId) (s : State) : Result := .next (s.ownStep (State.takeTimeout number))

/-- R159. -/
def execWindowEnd (s : State) : Result := .next (s.ownStep State.endWindow)

/-- R170. -/
def execSwapJudgement (s : State) : Result := .next (s.ownStep State.takeJudgement)

/-- R13, R136: the declaration of presence, with whatever fell due before it. -/
def execClockPresent (s : State) : Result := .next (s.ownStep fun s => s.settleSteps.takeClockPresent)

/-! ## The clock and the lanes -/

/-- R12: the declaration of loss; a clock that is lost already is not lost again. -/
def State.declareLost (s : State) : State := if s.lanes.clockPresent then s.loseClock else s

def execClockLost (s : State) : Result := .next (s.event State.declareLost)

/-- R7: the samples of a frame are the first 24 bits of its slots. -/
def captureFrame (slots : SlotFrame) : TdmFrame := tableMap (fun w : SlotWord => w.extractLsb' 8 24) slots

/-- R7: a sample and eight zero bits. -/
def slotWord (x : Sample) : SlotWord := x ++ (0 : BitVec 8)

/-- R9: the port whose output slot stands at a place of the frame. -/
def State.portAtPlace (s : State) (place : Fin 48) : Option PortId :=
  ((tableRows s.ports).find? fun r : PortId × PortRecord => decide (r.2.outSlot.map Slot.place = some place)).map Prod.fst

/-- R9: frame `j` of the block being driven. -/
def State.outputFrame (j : Nat) (s : State) : SlotFrame :=
  tableOf fun place : Fin 48 =>
    match s.lanes.outBlock, s.portAtPlace place with
    | some out, some p => if h : j < 48 then slotWord (out[p][j]) else 0
    | _, _ => 0

/-- R7, R9: a frame while the clock is present, captured whole at its frame sync (log 49, DESIGN CHOICE, safe). -/
def State.captureAndDrive (slots : SlotFrame) (s : State) : State :=
  { s with lanes := { s.lanes with
    input := s.lanes.input ++ [captureFrame slots]
    tdmOut := some (s.outputFrame s.lanes.input.length) } }

/-- R13: a frame sync while the clock is lost; its frame is not captured and zero is driven. -/
def State.countSync (gap : Bool) (s : State) : State :=
  { s with lanes := { s.lanes with
    syncCount := if gap || decide (s.lanes.syncCount = 0) then 1 else s.lanes.syncCount + 1
    tdmOut := some (Vector.replicate 48 0) } }

/-- R10, R12, R13: a frame sync. One that comes more than 2 ms after the previous one while the clock is present comes after the
declaration of loss, any other after the boundary of a complete block. -/
def State.takeSync (gap : Bool) (slots : SlotFrame) (s : State) : State :=
  let s1 := if gap then s.declareLost else s.passBoundary
  if s1.lanes.clockPresent then s1.captureAndDrive slots else s1.countSync gap

def execFrameSync (gap : Bool) (slots : SlotFrame) (s : State) : Result := .next (s.event (State.takeSync gap slots))

/-! ## The link port -/

/-- R116, R117: an arrival. In CONFIG it is discarded; in RUN the filters choose its channel or it is counted. -/
def State.arrival (linkId : LinkId) (take : ChanId → State → State) (s : State) : State :=
  match s.mode with
  | .config => s
  | .run =>
      let s1 := { s with eventBlock := s.blockCount }
      match s1.takingChannel linkId with
      | none => s1.countUnmatched
      | some ch => take ch s1

/-- R122 to R126, R133. -/
def execAudioFrameArrival (linkId : LinkId) (seq : Seq) (payload : List Byte) (s : State) : Result :=
  .next <| s.event <| State.arrival linkId fun ch s => s.audioTo ch seq (audioBlock? payload)

/-- R134, R126: a CUE frame, whose sequence is disregarded; one whose payload is not one cue code is discarded without effect. -/
def State.cuePayload (payload : List Byte) (ch : ChanId) (s : State) : State :=
  match cueCode? payload with
  | some code => s.cueTo ch code
  | none => s

def execCueFrameArrival (linkId : LinkId) (_seq : Seq) (payload : List Byte) (s : State) : Result :=
  .next (s.event (State.arrival linkId (State.cuePayload payload)))

/-- R116: a frame without a whole header or of unknown kind; in RUN it is counted. -/
def State.malformed (s : State) : State :=
  match s.mode with
  | .config => s
  | .run => s.countUnmatched

def execMalformedLinkFrame (s : State) : Result := .next (s.event State.malformed)

/-- R144: the arbiter chooses each time the port is free and LKTXRDY is asserted. -/
def State.arbitrate (ready : Bool) (s : State) : State := if ready && s.tx.sending.isNone then s.beginFrame else s

def execLinkFrameBegin (ready : Bool) (s : State) : Result := .next (s.event (State.arbitrate ready))

/-- R144, R145. -/
def execLinkFrameSent (s : State) : Result := .next (s.event State.finishFrame)

end Sys2Proof.Machine
end

