-- ==== Sys2Proof/Machine/Lifecycle.lean ====
section
/-! DEFINITION. RESET_INPUT, START, STOP, RESTART (R15 to R17, R41, R53, R80, R98, R115, R139, R140, R142, R145, R165, R173). -/

namespace Sys2Proof.Machine

/-- R17: every block at its reset values; the queue of commands is not part of the part. -/
def State.resetAll (low : Bool) (s : State) : State := { State.reset with rstnLow := low, pending := s.pending }

/-- R17: RSTN falls, or is low (`true`); RSTN rises (`false`). A RSTN that stays high changes nothing. -/
def execResetInput (low : Bool) (s : State) : Result :=
  .next (if low || s.rstnLow then s.resetAll low else s)

/-- R15: START in CONFIG. -/
def State.startRun (s : State) : State :=
  let s1 := { s with
    mode := .run
    blockCount := 0
    lanes := { s.lanes with outBlock := none }
    mix := { gains := s.startGains, clips := Vector.replicate 48 0 }
    rx := { s.rx with unmatched := 0 }
    tx := { s.tx with outSeq := Vector.replicate 8 0 } }
  s1.openRoutes

def execStart (tag : Byte) (s : State) : Result :=
  .next <| s.request 0x01 tag .either fun s =>
    let s1 := match s.mode with
      | .config => s.startRun
      | .run => s
    (s1, .ok, s1.modeFields)

/-- R80: a key at STOP. -/
def KeyRecord.stop (r : KeyRecord) : KeyRecord :=
  { r with activation := .idle, pressBlock := none, delivered := false, entries := [], deadline := none }

/-- R80: the activation state or the delivery state is changed by STOP. -/
def KeyRecord.changedByStop (r : KeyRecord) : Bool := decide (r.activation ≠ .idle) || r.delivered

/-- R98: a group at STOP. -/
def GroupRecord.stop (r : GroupRecord) : GroupRecord :=
  { r with waiters := [], members := r.members.map fun m : Member => { m with engagedBy := none } }

/-- R80: the KEY notices, in ascending key order. -/
def State.stopKeys (s : State) : State :=
  ({ s with keys := tableMap KeyRecord.stop s.keys }).reportAll
    (((tableRows s.keys).filter fun r : KeyId × KeyRecord => r.2.changedByStop).map
      fun r : KeyId × KeyRecord => .key r.1)

/-- R115: an interrupt list holds an entry. -/
def earOccupied : Option Ear → Bool
  | some e => !e.entries.isEmpty
  | none => false

/-- R115: the EARPIECE notices, in ascending port order. -/
def State.stopEars (s : State) : State :=
  ({ s with ears := tableMap (Option.map fun _ => Ear.empty) s.ears }).reportAll
    (((tableRows s.ears).filter fun r : PortId × Option Ear => earOccupied r.2).map
      fun r : PortId × Option Ear => .earpiece r.1)

/-- R140: every configured channel, in ascending order (R137). -/
def State.stopChannels (s : State) : State :=
  (List.finRange 8).foldl
    (fun s ch => if s.rx.channels[ch].state = .closed then s else s.putChannel ch s.rx.channels[ch].restart) s

/-- R152: every running check, in ascending order. -/
def State.stopChecks (s : State) : State :=
  (List.finRange 8).foldl (fun s ch => s.abortCheck ch .stopped none s.blockCount) s

/-- R16: STOP in RUN. Notices in the order of R16's list: keys, earpieces, channels, checks, governor, swap (log 14, DEDUCED,
unsafe). -/
def State.stopRun (s : State) : State :=
  let s1 := { s with
    mode := .config
    paths := []
    groups := tableMap GroupRecord.stop s.groups
    lanes := { s.lanes with outBlock := none }
    mix := Mix.reset
    tx := s.tx.stop }
  s1.stopKeys.stopEars.stopChannels.stopChecks.stopGovernor.abandonSwap

def execStop (tag : Byte) (s : State) : Result :=
  .next <| s.request 0x02 tag .either fun s =>
    let s1 := match s.mode with
      | .run => s.stopRun
      | .config => s
    (s1, .ok, s1.modeFields)

/-- R17: RESTART's reset of every block. The status byte that its own transaction shifted out has gone out (R177). -/
def State.restartAll (s : State) : State :=
  let t := s.resetAll false
  { t with link := { t.link with statusOut := s.link.statusOut } }

/-- R17, R179: RESTART queues no reply; R181: with 16 replies waiting it is not executed. -/
def execRestart (_tag : Byte) (s : State) : Result :=
  .next <|
    if s.rstnLow then s
    else
      let s1 := s.settle.openWrite
      if s1.repliesFull then s1.refuseWrite else s1.restartAll

end Sys2Proof.Machine
end

