-- ==== Sys2Proof/Machine/LinkReads.lean ====
section
/-! DEFINITION. BAD_FRAME, READ_TRANSACTION, READ_TRANSACTION_END (R176 to R178, R181, R186). -/

namespace Sys2Proof.Machine

/-- R178, R18, R181: a frame refused BAD_FRAME is answered, its kind and tag 0 where they were not received, and leaves FRESH. -/
def State.badFrame (kind tag : Option Byte) (s : State) : State :=
  let s1 := s.openWrite
  if s1.repliesFull then s1.refuseWrite else s1.queueReply ⟨kind.getD 0, tag.getD 0, .badFrame, []⟩

def execBadFrame (kind tag : Option Byte) (s : State) : Result := .next (s.event (State.badFrame kind tag))

/-- R186: the frame chosen when a READ transaction begins. -/
def State.outboundFrame (s : State) : Reading :=
  match s.link.replies, s.link.notices with
  | r :: _, _ => ⟨.reply, r.bytes, false⟩
  | [], n :: _ => ⟨.notice, s.noticeBytes n, false⟩
  | [], [] => ⟨.empty, emptyFrame, false⟩

/-- R177, R186: a READ transaction begins: its status byte is shifted out, which clears WRITE_REFUSED, and its frame is chosen.
A READ never reported complete has ended early. -/
def State.beginRead (s : State) : State :=
  { s with link := { s.link with
    reading := some s.outboundFrame, writing := false, statusOut := s.statusByte, writeRefused := false } }

/-- R176, R177: a WRITE transaction, or one whose type byte is neither WRITE nor READ, begins: its status byte is shifted out and
changes no flag. A READ never reported complete has ended early. -/
def State.beginOther (type : Byte) (s : State) : State :=
  { s with link := { s.link with
    reading := none, writing := decide (type = writeType), statusOut := s.statusByte } }

/-- R176: the type byte decides the transaction. -/
def State.beginTransaction (type : Byte) (s : State) : State := if type = readType then s.beginRead else s.beginOther type

def execReadTransaction (s : State) : Result := .next (s.event State.beginRead)

/-- R176: a WRITE transaction, or one of no type that the table names. A type byte 0xC3 makes it the READ it then is. -/
def execOtherTransaction (type : Byte) (s : State) : Result := .next (s.event (State.beginTransaction type))

/-- R176, R186: byte `k` on SDO of the transaction in progress: the status byte, then a READ's frame, then zero bytes. -/
def ControlLink.sdo (l : ControlLink) : Nat → Byte
  | 0 => l.statusOut
  | n + 1 =>
      match l.reading with
      | some r => r.frame.getD n 0
      | none => 0

/-- R17, R176: SDO during byte `k` of the transaction in progress: high impedance (`none`) while RSTN is low. Outside a transaction,
CSN being high, it is high impedance too. -/
def State.sdo (s : State) (k : Nat) : Option Byte := if s.rstnLow then none else some (s.link.sdo k)

/-- R186: the notice sent leaves the head of its queue; a marked one joins the tail again. -/
def requeue (marked : Bool) : List Notice → List Notice
  | [] => []
  | n :: ns => if marked then ns ++ [n] else ns

/-- R186: the last byte of the frame has been clocked out, and its entry leaves its queue. -/
def ControlLink.sent (r : Reading) (l : ControlLink) : ControlLink :=
  match r.source with
  | .reply => { l with replies := l.replies.tail }
  | .notice => { l with notices := requeue r.marked l.notices }
  | .empty => l

/-- R176, R186: the transaction ends, a READ's frame sent whole or not. A WRITE that ends with no frame takes none. -/
def State.endRead (complete : Bool) (s : State) : State :=
  let l :=
    match s.link.reading with
    | some r => if complete then s.link.sent r else s.link
    | none => s.link
  { s with link := { l with reading := none, writing := false } }

def execReadTransactionEnd (complete : Bool) (s : State) : Result := .next (s.event (State.endRead complete))

end Sys2Proof.Machine
end

