-- ==== Sys2Proof/Machine/Queries.lean ====
section
/-! DEFINITION. The queries, taken in either mode and changing nothing (R39, R79, R97, R114, R138, R164, R175, R182). -/

namespace Sys2Proof.Machine

/-- R182: a query of an object whose number is in range; `f` gives the body, or the refusal of the query's own rule. -/
def State.query (object : Option α) (f : α → Except Status (List Field)) (s : State) : Answer :=
  match object with
  | none => refuse .badArg s
  | some x =>
      match f x with
      | .ok body => (s, .ok, body)
      | .error st => refuse st s

/-- R182. -/
def execQueryPort (tag : Byte) (number : Nat) (s : State) : Result :=
  .next <| s.request 0x40 tag .either fun s => s.query (objectNumber 48 number) fun p => .ok (s.portBody p)

/-- R39. -/
def execQueryPaths (tag : Byte) (destination : Nat) (s : State) : Result :=
  .next <| s.request 0x41 tag .either fun s => s.query (endpointOf destination) fun d => .ok (s.pathsBody d)

/-- R79. -/
def execQueryKey (tag : Byte) (number : Nat) (s : State) : Result :=
  .next <| s.request 0x42 tag .either fun s => s.query (objectNumber 256 number) fun k => .ok (s.keyBody k)

/-- R97. -/
def execQueryGroup (tag : Byte) (number : Nat) (s : State) : Result :=
  .next <| s.request 0x43 tag .either fun s => s.query (objectNumber 32 number) fun g => .ok (s.groupBody g)

/-- R114: a port that is no EARPIECE is refused NOT_FOUND. -/
def State.earpieceQuery (s : State) (p : PortId) : Except Status (List Field) :=
  if s.ports[p].kind = .earpiece then .ok (s.earpieceBody p ((s.ears[p]).getD Ear.empty)) else .error .notFound

def execQueryEarpiece (tag : Byte) (number : Nat) (s : State) : Result :=
  .next <| s.request 0x44 tag .either fun s => s.query (objectNumber 48 number) s.earpieceQuery

/-- R138, R153. -/
def execQueryChannel (tag : Byte) (chan : Nat) (s : State) : Result :=
  .next <| s.request 0x45 tag .either fun s => s.query (objectNumber 8 chan) fun c => .ok (s.channelBody c)

/-- R164. -/
def State.protectQuery (s : State) (p : PortId) : Except Status (List Field) :=
  if s.ports[p].kind.hasOutput then .ok (s.protectBody p) else .error .notFound

def execQueryProtect (tag : Byte) (number : Nat) (s : State) : Result :=
  .next <| s.request 0x46 tag .either fun s => s.query (objectNumber 48 number) s.protectQuery

/-- R175: a start index of 256 or more is refused. -/
def routeQueryOf (set startIndex : Nat) : Option (Bool × Nat) :=
  match activeSetOf set with
  | some a => if startIndex < Config.maxRoutes then some (a, startIndex) else none
  | none => none

def execQueryRoutes (tag : Byte) (set startIndex : Nat) (s : State) : Result :=
  .next <| s.request 0x47 tag .either fun s =>
    s.query (routeQueryOf set startIndex) fun r => .ok (s.routesBody r.1 r.2)

end Sys2Proof.Machine
end

