-- ==== Sys2Proof/Machine/RunRequests.lean ====
section
/-! DEFINITION. The requests executed in RUN alone: PRESS, RELEASE, CUE_SEND, CHECK_START, CHECK_STOP (R64 to R66, R143, R147,
R152). -/

namespace Sys2Proof.Machine

/-! ## PRESS and RELEASE -/

/-- R64: a transition of a defined key that is not link-owned; the reply carries the states it ends in. -/
def State.keyPressRequest (number : Nat) (transition : State → KeyId → Option (Activation × KeyAction)) (s : State) :
    Answer :=
  match objectNumber 256 number with
  | some k =>
      if !s.keys[k].defined || s.linkOwned k then refuse .badArg s
      else
        let s1 := s.keyTransition k (transition s k)
        (s1, .ok, s1.keyStateFields k)
  | none => refuse .badArg s

/-- R65, R66: what a PRESS does to a key. -/
def State.pressOf (s : State) (k : KeyId) : Option (Activation × KeyAction) :=
  pressTransition s.keys[k].mode s.keys[k].activation

/-- R65, R66: what a RELEASE does to a key. -/
def State.releaseOf (s : State) (k : KeyId) : Option (Activation × KeyAction) :=
  releaseTransition (s.pressedQuickly k) s.keys[k].mode s.keys[k].activation

def execPress (tag : Byte) (number : Nat) (s : State) : Result :=
  .next (s.request 0x30 tag .runOnly (State.keyPressRequest number State.pressOf))

def execRelease (tag : Byte) (number : Nat) (s : State) : Result :=
  .next (s.request 0x31 tag .runOnly (State.keyPressRequest number State.releaseOf))

/-! ## CUE_SEND -/

/-- R143: the checks, in order. -/
def State.cueSendRequest (chan code : Nat) (s : State) : Answer :=
  match objectNumber 8 chan with
  | some c =>
      if 256 ≤ code then refuse .badArg s
      else if s.rx.channels[c].state = .closed then refuse .notFound s
      else if Config.maxCues ≤ s.tx.cues.length then refuse .noSpace s
      else accept { s with tx := { s.tx with cues := s.tx.cues ++ [⟨c, byteOf code, false⟩] } }
  | none => refuse .badArg s

def execCueSend (tag : Byte) (chan code : Nat) (s : State) : Result :=
  .next (s.request 0x32 tag .runOnly (State.cueSendRequest chan code))

/-! ## CHECK_START and CHECK_STOP -/

/-- R147: the record set up. -/
def Check.setUp (block : BlockCount) (duration : Option Nat) (forward : Option ForwardOption) : Check :=
  { Check.reset with
    state := .running
    startBlock := block
    duration := clampTo 100 10000 (duration.getD Config.defaultDuration)
    forward := forward.getD .silent }

/-- R147 check 3. -/
def ChanState.isLive : ChanState → Bool
  | .priming => true | .running => true | .closed => false | .waiting => false | .dropped => false

/-- R147: the checks, in order. -/
def State.checkStartRequest (chan : Nat) (duration forward : Option Nat) (s : State) : Answer :=
  match objectNumber 8 chan, optionally forwardOf forward with
  | some c, some f =>
      if s.checks[c].state = .running then refuse .busy s
      else if s.rx.channels[c].state.isLive then accept (s.setCheck c (Check.setUp s.blockCount duration f))
      else refuse .wrongMode s
  | _, _ => refuse .badArg s

def execCheckStart (tag : Byte) (chan : Nat) (duration forward : Option Nat) (s : State) : Result :=
  .next (s.request 0x33 tag .runOnly (State.checkStartRequest chan duration forward))

/-- R152: CHECK_STOP; the reply carries the check state once it is executed. -/
def State.checkStopRequest (chan : Nat) (s : State) : Answer :=
  match objectNumber 8 chan with
  | some c =>
      let s1 := s.abortCheck c .stopped none s.blockCount
      (s1, .ok, [.u8 s1.checks[c].state.code])
  | none => refuse .badArg s

def execCheckStop (tag : Byte) (chan : Nat) (s : State) : Result :=
  .next (s.request 0x34 tag .runOnly (State.checkStopRequest chan))

end Sys2Proof.Machine
end

