-- ==== Sys2Proof/Machine/Dispatch.lean ====
section
/-! DEFINITION. One arm per command: its meaning. -/

namespace Sys2Proof.Machine

def exec (i : Instr) (s : State) : Host.Outcome State Fault Refusal :=
  match i with
  | .resetInput low => Sys2Proof.Machine.execResetInput low s
  | .start tag => Sys2Proof.Machine.execStart tag s
  | .stop tag => Sys2Proof.Machine.execStop tag s
  | .restart tag => Sys2Proof.Machine.execRestart tag s
  | .port tag number kind inSlot outSlot chan => Sys2Proof.Machine.execPort tag number kind inSlot outSlot chan s
  | .channel tag chan operation linkId prime maxDelay callKey => Sys2Proof.Machine.execChannel tag chan operation linkId prime maxDelay callKey s
  | .channelClose tag chan => Sys2Proof.Machine.execChannelClose tag chan s
  | .filter tag number enabled value mask chan => Sys2Proof.Machine.execFilter tag number enabled value mask chan s
  | .governor tag mode tLow tMid cap1 cap2 limit => Sys2Proof.Machine.execGovernor tag mode tLow tMid cap1 cap2 limit s
  | .trim tag number trim dipDepth => Sys2Proof.Machine.execTrim tag number trim dipDepth s
  | .key tag number owner targetType targetNumber level priority mode => Sys2Proof.Machine.execKey tag number owner targetType targetNumber level priority mode s
  | .keyRemove tag number => Sys2Proof.Machine.execKeyRemove tag number s
  | .group tag number mode timeout members => Sys2Proof.Machine.execGroup tag number mode timeout members s
  | .presence tag number value => Sys2Proof.Machine.execPresence tag number value s
  | .routeAdd tag source destination cls level => Sys2Proof.Machine.execRouteAdd tag source destination cls level s
  | .routeDrop tag source destination cls => Sys2Proof.Machine.execRouteDrop tag source destination cls s
  | .routeCopy tag => Sys2Proof.Machine.execRouteCopy tag s
  | .swap tag => Sys2Proof.Machine.execSwap tag s
  | .notify tag mask => Sys2Proof.Machine.execNotify tag mask s
  | .resync tag => Sys2Proof.Machine.execResync tag s
  | .press tag number => Sys2Proof.Machine.execPress tag number s
  | .release tag number => Sys2Proof.Machine.execRelease tag number s
  | .cueSend tag chan code => Sys2Proof.Machine.execCueSend tag chan code s
  | .checkStart tag chan duration forward => Sys2Proof.Machine.execCheckStart tag chan duration forward s
  | .checkStop tag chan => Sys2Proof.Machine.execCheckStop tag chan s
  | .queryPort tag number => Sys2Proof.Machine.execQueryPort tag number s
  | .queryPaths tag destination => Sys2Proof.Machine.execQueryPaths tag destination s
  | .queryKey tag number => Sys2Proof.Machine.execQueryKey tag number s
  | .queryGroup tag number => Sys2Proof.Machine.execQueryGroup tag number s
  | .queryEarpiece tag number => Sys2Proof.Machine.execQueryEarpiece tag number s
  | .queryChannel tag chan => Sys2Proof.Machine.execQueryChannel tag chan s
  | .queryProtect tag number => Sys2Proof.Machine.execQueryProtect tag number s
  | .queryRoutes tag set startIndex => Sys2Proof.Machine.execQueryRoutes tag set startIndex s
  | .badFrame kind tag => Sys2Proof.Machine.execBadFrame kind tag s
  | .readTransaction => Sys2Proof.Machine.execReadTransaction s
  | .otherTransaction type => Sys2Proof.Machine.execOtherTransaction type s
  | .blockBoundary => Sys2Proof.Machine.execBlockBoundary s
  | .concealLimit chan => Sys2Proof.Machine.execConcealLimit chan s
  | .channelIdleLimit chan => Sys2Proof.Machine.execChannelIdleLimit chan s
  | .channelDrop chan => Sys2Proof.Machine.execChannelDrop chan s
  | .channelRecovery chan => Sys2Proof.Machine.execChannelRecovery chan s
  | .checkCompletion chan => Sys2Proof.Machine.execCheckCompletion chan s
  | .pathRemoval position => Sys2Proof.Machine.execPathRemoval position s
  | .waitTimeout number => Sys2Proof.Machine.execWaitTimeout number s
  | .windowEnd => Sys2Proof.Machine.execWindowEnd s
  | .swapJudgement => Sys2Proof.Machine.execSwapJudgement s
  | .clockLost => Sys2Proof.Machine.execClockLost s
  | .clockPresent => Sys2Proof.Machine.execClockPresent s
  | .audioFrameArrival linkId seq payload => Sys2Proof.Machine.execAudioFrameArrival linkId seq payload s
  | .cueFrameArrival linkId seq payload => Sys2Proof.Machine.execCueFrameArrival linkId seq payload s
  | .malformedLinkFrame => Sys2Proof.Machine.execMalformedLinkFrame s
  | .linkFrameBegin ready => Sys2Proof.Machine.execLinkFrameBegin ready s
  | .linkFrameSent => Sys2Proof.Machine.execLinkFrameSent s
  | .frameSync gap slots => Sys2Proof.Machine.execFrameSync gap slots s
  | .readTransactionEnd complete => Sys2Proof.Machine.execReadTransactionEnd complete s

end Sys2Proof.Machine
end

