-- ==== Sys2Proof/Safety.lean ====
section
/-! DEFINITION. What the statements about the machine speak of: which commands are requests, when a request is taken, the answer it
leaves, and the conditions that every step keeps. -/

namespace Sys2Proof.Machine

/-! ## Requests -/

/-- What R14 and R179 read of a request: its kind, its tag and the modes it is executed in. -/
structure Header where
  kind : Byte
  tag : Byte
  allowed : AllowedIn
  deriving DecidableEq, Repr

/-- 11.3 and 11.8.3: the header of every command that is a request answered by a reply; RESTART is answered by none. -/
def requestHeader : Instr → Option Header
  | .start t => some ⟨0x01, t, .either⟩
  | .stop t => some ⟨0x02, t, .either⟩
  | .port t _ _ _ _ _ => some ⟨0x10, t, .configOnly⟩
  | .channel t _ _ _ _ _ _ => some ⟨0x11, t, .configOnly⟩
  | .channelClose t _ => some ⟨0x11, t, .configOnly⟩
  | .filter t _ _ _ _ _ => some ⟨0x12, t, .configOnly⟩
  | .governor t _ _ _ _ _ _ => some ⟨0x13, t, .configOnly⟩
  | .trim t _ _ _ => some ⟨0x20, t, .either⟩
  | .key t _ _ _ _ _ _ _ => some ⟨0x21, t, .either⟩
  | .keyRemove t _ => some ⟨0x21, t, .either⟩
  | .group t _ _ _ _ => some ⟨0x22, t, .either⟩
  | .presence t _ _ => some ⟨0x27, t, .either⟩
  | .routeAdd t _ _ _ _ => some ⟨0x23, t, .either⟩
  | .routeDrop t _ _ _ => some ⟨0x24, t, .either⟩
  | .routeCopy t => some ⟨0x25, t, .either⟩
  | .swap t => some ⟨0x26, t, .either⟩
  | .notify t _ => some ⟨0x28, t, .either⟩
  | .resync t => some ⟨0x50, t, .either⟩
  | .press t _ => some ⟨0x30, t, .runOnly⟩
  | .release t _ => some ⟨0x31, t, .runOnly⟩
  | .cueSend t _ _ => some ⟨0x32, t, .runOnly⟩
  | .checkStart t _ _ _ => some ⟨0x33, t, .runOnly⟩
  | .checkStop t _ => some ⟨0x34, t, .runOnly⟩
  | .queryPort t _ => some ⟨0x40, t, .either⟩
  | .queryPaths t _ => some ⟨0x41, t, .either⟩
  | .queryKey t _ => some ⟨0x42, t, .either⟩
  | .queryGroup t _ => some ⟨0x43, t, .either⟩
  | .queryEarpiece t _ => some ⟨0x44, t, .either⟩
  | .queryChannel t _ => some ⟨0x45, t, .either⟩
  | .queryProtect t _ => some ⟨0x46, t, .either⟩
  | .queryRoutes t _ _ => some ⟨0x47, t, .either⟩
  | .resetInput _ | .restart _ | .badFrame _ _ | .readTransaction | .otherTransaction _ | .blockBoundary | .concealLimit _
  | .channelIdleLimit _ | .channelDrop _ | .channelRecovery _ | .checkCompletion _ | .pathRemoval _ | .waitTimeout _
  | .windowEnd | .swapJudgement | .clockLost | .clockPresent | .audioFrameArrival _ _ _ | .cueFrameArrival _ _ _
  | .malformedLinkFrame | .linkFrameBegin _ | .linkFrameSent | .frameSync _ _ | .readTransactionEnd _ => none

/-! ## The device's own steps -/

/-- The state that commands leave, taken one after another. -/
def State.commanded (s : State) (cs : List Instr) : State :=
  cs.foldl (fun s c => match exec c s with
    | .next t => t
    | .fault _ => s
    | .refused _ => s) s

/-- The default order of the own steps (log 2) up to the completions, as commands: the window end, the removals, the steps of each
channel, the completions in ascending channel order (log 50). -/
def stepsBeforeTimeouts : List Instr :=
  .windowEnd :: (List.finRange 512).map Instr.pathRemoval ++
    (List.finRange 8).flatMap (fun c : ChanId => [.channelDrop c, .channelIdleLimit c, .concealLimit c, .channelRecovery c]) ++
    (List.finRange 8).map Instr.checkCompletion

/-- The rest of that order: the timeouts of the waiters, by ascending group and oldest first (log 18), and the judgement. -/
def State.timeoutsAndJudgement (s : State) : List Instr :=
  ((List.finRange 32).flatMap fun g : GroupId => s.groups[g].waiters.map Instr.waitTimeout) ++ [.swapJudgement]

/-- The own steps that settling takes, as commands: all but BLOCK_BOUNDARY and CLOCK_PRESENT. -/
def ownSteps : List Instr := stepsBeforeTimeouts ++ (List.finRange 256).map Instr.waitTimeout ++ [.swapJudgement]

/-- The state in which a request frame is executed: every step due has been taken (log 2), a boundary
that waits for its frame's end excepted (log 49), and the WRITE transaction has shifted out
its status byte. In a state with no due step this is the state itself, but for the parts of `link` that tell of the
transaction. -/
def State.opened (s : State) : State := s.settle.openWrite

/-- R17, R181: a request frame is executed: RSTN is high and fewer than 16 replies wait. -/
def State.takesRequests (s : State) : Prop := s.rstnLow = false ∧ s.opened.link.replies.length < 16

/-- R18, R179: a state in which one more reply waits and FRESH is clear; nothing else differs. -/
def State.replied (kind tag : Byte) (st : Status) (body : List Field) (s : State) : State :=
  { s with link := { s.link with fresh := false, replies := s.link.replies ++ [⟨kind, tag, st, body⟩] } }

/-- R178, R179: a request refused with `st` leaves a state that differs from the one it was executed in by its reply and by
FRESH alone. -/
def RefusedWith (i : Instr) (st : Status) (s : State) : Prop :=
  ∃ h, requestHeader i = some h ∧ exec i s = .next (s.opened.replied h.kind h.tag st [])

/-- R179: a request that has been executed and answered OK with a body, leaving the state `t` beside the reply. -/
def AcceptedWith (i : Instr) (s t : State) (body : List Field) : Prop :=
  ∃ h, requestHeader i = some h ∧ exec i s = .next (t.replied h.kind h.tag .ok body)

/-! ## Reset -/

/-- R2, R13, R17, R41, R60, R81, R99, R118 to R120, R142, R143, R146, R154, R155, R166, R188: the condition that the RESET input and
RESTART leave every block in. -/
structure State.inResetCondition (t : State) : Prop where
  mode : t.mode = .config
  blockCount : t.blockCount = 0
  port : ∀ p : PortId, t.ports[p] = ⟨.unused, none, none, none, none, none, .available⟩
  clock : t.lanes.clockPresent = false ∧ t.lanes.syncCount = 0 ∧ t.lanes.input = [] ∧ t.lanes.outBlock = none
  paths : t.paths = []
  gain : ∀ p : PortId, t.mix.gains[p] = none
  key : ∀ k : KeyId, t.keys[k] = ⟨none, none, 4096, 0, .momentary, .idle, none, false, [], none⟩
  group : ∀ g : GroupId, t.groups[g] = ⟨.all, [], [], [], 10000⟩
  ear : ∀ p : PortId, t.ears[p] = none
  filter : ∀ f : FilterId, t.rx.filters[f] = ⟨false, 0, 0, 0⟩
  channel : ∀ c : ChanId, t.rx.channels[c].state = .closed ∧ t.rx.channels[c].config = none
  unmatched : t.rx.unmatched = 0
  transmitter : (∀ c : ChanId, t.tx.outSeq[c] = 0) ∧ t.tx.ready = [] ∧ t.tx.cues = [] ∧ t.tx.sending = none
  check : ∀ c : ChanId, t.checks[c] = ⟨.idle, 0, 2000, .silent, 0, 0, 0, none, none, none, []⟩
  governor : t.gov.config = ⟨.off, 2097152, 4194304, 2896, 2048, 12⟩
  protection : ∀ p : PortId, t.gov.records[p] = ⟨0, 0, 0, [], none⟩
  routes : t.routes.active = [] ∧ t.routes.standby = [] ∧ t.routes.swapPending = false
  queues : t.link.replies = [] ∧ t.link.notices = [] ∧ t.link.reading = none ∧ t.link.writing = false
  flags : t.link.mask = 0xFF ∧ t.link.fresh = true ∧ t.link.overflow = false ∧ t.link.writeRefused = false

/-! ## Operands of requests -/

/-- R3: the fields that a kind uses and no others, with a channel for a FIELD port: the form in which a PORT request passes check 2
once the fields it does not use are set aside. -/
def PortKind.fits (k : PortKind) (i o : Option Slot) (c : Option ChanId) : Prop :=
  match k with
  | .panel => c = none
  | .earpiece => c = none
  | .source => o = none ∧ c = none
  | .field => i = none ∧ o = none ∧ c.isSome
  | .unused => i = none ∧ o = none ∧ c = none

/-- R3: a PORT request of kind `k` whose fields, those that `k` does not use set aside, are `i`, `o` and `c`. A field that `k` does
not use may hold any value: it is disregarded. -/
structure PortKind.reads (k : PortKind) (rawIn rawOut rawChan : Option Nat) (i o : Option Slot) (c : Option ChanId) : Prop where
  fits : k.fits i o c
  input : k = .panel ∨ k = .earpiece ∨ k = .source → rawIn = i.map Slot.code
  output : k = .panel ∨ k = .earpiece → rawOut = o.map Slot.code
  channel : k = .field → rawChan = c.map Fin.val

/-- R3 checks 3 and 4: the output slot and the channel are another port's. -/
def State.slotTaken (u : State) (p : PortId) (o : Option Slot) : Prop :=
  o.isSome ∧ ∃ q : PortId, q ≠ p ∧ u.ports[q].outSlot = o
def State.channelTaken (u : State) (p : PortId) (k : PortKind) (c : Option ChanId) : Prop :=
  k = .field ∧ ∃ q : PortId, q ≠ p ∧ u.ports[q].kind = .field ∧ u.ports[q].channel = c

/-- R3 check 5: the pool of interrupt lists is used up. -/
def State.poolUsedUp (u : State) (p : PortId) (k : PortKind) : Prop :=
  k = .earpiece ∧ u.ports[p].kind ≠ .earpiece ∧ 16 ≤ (u.ports.toList.filter fun r : PortRecord => r.kind = .earpiece).length

/-- R3 check 6: a defined key, a group or a route names the port. -/
def State.named (u : State) (p : PortId) : Prop :=
  (∃ k : KeyId, u.keys[k].target.isSome ∧ (u.keys[k].owner = some p ∨ u.keys[k].target = some (.port p))) ∨
    (∃ g : GroupId, ∃ m ∈ u.groups[g].members, m.port = p) ∨
    ∃ r ∈ u.routes.active ++ u.routes.standby, r.ident.src = .port p ∨ r.ident.dst = .port p

/-- R3, R99, R155: the record that an accepted PORT request leaves, and the interrupt list and the protection record that a change of
kind renews. The presence of a port that becomes FIELD, SOURCE or UNUSED is the model's choice (log 41). -/
def State.portWritten (u : State) (p : PortId) (k : PortKind) (i o : Option Slot) (c : Option ChanId) : State :=
  let old := u.ports[p]
  if k = old.kind then { u with ports := u.ports.set p { old with inSlot := i, outSlot := o, channel := c } }
  else
    { u with
      ports := u.ports.set p
        { kind := k, inSlot := i, outSlot := o, channel := c,
          trim := (if k = .panel ∨ k = .earpiece ∨ k = .field then some 4096 else none),
          dipDepth := (if k = .earpiece then some 64 else none),
          presence := (if k = .panel ∨ k = .earpiece then .available else old.presence) },
      ears := u.ears.set p (if k = .earpiece then some ⟨[], 0, ⟨256, 256, 8⟩⟩ else none),
      gov := { u.gov with records := u.gov.records.set p ⟨0, 0, 0, [], none⟩ } }

/-- R4: a FIELD port is bound to the channel. -/
def State.bound (u : State) (c : ChanId) : Prop := ∃ p : PortId, u.ports[p].kind = .field ∧ u.ports[p].channel = some c

/-- R63: a channel names the key as its call key. -/
def State.callKeyNamed (u : State) (k : KeyId) : Prop :=
  ∃ (c : ChanId) (g : ChannelConfig), u.rx.channels[c].config = some g ∧ g.callKey = some k

/-- R20: the kinds that may be destinations, owners and members. -/
def PortKind.listens (k : PortKind) : Prop := k = .panel ∨ k = .earpiece ∨ k = .field

/-- R20, R167 check 3: the shape of a route is legal. -/
def State.legalShape (u : State) (id : PathId) : Prop :=
  id.src ≠ id.dst ∧ (∀ a b, ¬(id.src = .bus a ∧ id.dst = .bus b)) ∧ (∀ p, id.dst = .port p → u.ports[p].kind.listens) ∧
    ∀ p, id.src = .port p → u.ports[p].kind ≠ .unused

/-! ## Groups -/

/-- R85: a port is eligible in group `g` for key `k`: AVAILABLE, not engaged in the group, not the key's owner, and, if it is an
EARPIECE, with fewer than 4 entries in its interrupt list. -/
def State.canTake (u : State) (g : GroupId) (k : KeyId) (m : PortId) : Prop :=
  u.presenceOf m = some .available ∧ (∀ x ∈ u.groups[g].members, x.port = m → x.engagedBy = none) ∧
    u.keys[k].owner ≠ some m ∧ ∀ e, u.ports[m].kind = .earpiece → u.ears[m] = some e → e.entries.length < 4

/-- R89: group `g` runs a service pass when port `p` may have become eligible: it is a HUNT group with a waiter and `p` is a
member of it. -/
def State.servedBy (u : State) (p : PortId) (g : GroupId) : Prop :=
  u.groups[g].mode = .hunt ∧ u.groups[g].waiters ≠ [] ∧ ∃ x ∈ u.groups[g].members, x.port = p

/-- R89, R90: what the service passes of the groups that `runs` names leave: every other group as it was; in those groups no waiter with
an eligible member; and in the first of them the oldest waiter that some member can take has been delivered to the first such member
in LRU order. -/
def State.servedIn (v t : State) (runs : GroupId → Prop) : Prop :=
  (∀ g : GroupId, ¬ runs g → t.groups[g] = v.groups[g]) ∧
    (∀ g : GroupId, runs g → ∀ k ∈ t.groups[g].waiters, ∀ m ∈ t.groups[g].lru, ¬ t.canTake g k m) ∧
    ∀ (g : GroupId) (k : KeyId) (m : PortId) (older younger : List KeyId) (before later : List PortId),
      runs g → (∀ h : GroupId, h < g → ¬ runs h) →
      v.groups[g].waiters = older ++ k :: younger → k ∉ older → k ∉ younger →
      (∀ j ∈ older, ∀ x ∈ v.groups[g].lru, ¬ v.canTake g j x) →
      v.groups[g].lru = before ++ m :: later → (∀ x ∈ before, ¬ v.canTake g k x) → v.canTake g k m → v.keys[k].owner.isSome →
      k ∉ t.groups[g].waiters ∧ t.keys[k].deadline = none ∧
        (∀ x ∈ t.groups[g].members, x.port = m → x.engagedBy = some k) ∧
        ∃ st, ⟨some (.port m), st⟩ ∈ t.keys[k].entries

/-- R89: the passes that port `p` triggers. -/
def State.served (v t : State) (p : PortId) : Prop := v.servedIn t (v.servedBy p)

/-! ## Frames on the control link -/

/-- R189: a number in `width` bytes, the most significant first. -/
def octets (width n : Nat) : List Byte := (List.range width).reverse.map fun i : Nat => BitVec.ofNat 8 (n / 256 ^ i)

/-- R189: a field by its type: all ones where it is absent, behind a presence byte where its range takes in all ones. -/
def Field.sent : Field → List Byte
  | .u8 n => octets 1 n
  | .u16 n => octets 2 n
  | .u32 n => octets 4 n
  | .opt8 n => octets 1 (n.getD 0xFF)
  | .opt16 n => octets 2 (n.getD 0xFFFF)
  | .opt32 n => octets 4 (n.getD 0xFFFFFFFF)
  | .tagged8 n => (if n.isSome then 1 else 0) :: octets 1 (n.getD 0xFF)
  | .tagged16 n => (if n.isSome then 1 else 0) :: octets 2 (n.getD 0xFFFF)
  | .tagged32 n => (if n.isSome then 1 else 0) :: octets 4 (n.getD 0xFFFFFFFF)

/-- 11.8.2: a frame: its length, which counts the bytes that follow, its class and its header, and its body. -/
def outbound (cls : Nat) (header : List Nat) (body : List Field) : List Byte :=
  let bytes := octets 1 cls ++ header.flatMap (octets 1) ++ body.flatMap Field.sent
  octets 2 bytes.length ++ bytes

/-- R12, R13, R78, R113, R134, R137, R153, R162, R174 and 11.8.2: the value of a notice's kind, and what its body holds. The widths of
LINK and PROTECT (log 19), the fields that carry absence (log 21) and the SWAP and clip counts without a presence byte (log 48) are
the model's choices. -/
def State.tells (v : State) : Notice → Nat × List Field
  | .key k =>
      let r := v.keys[k]
      (0, [.u16 k.val, .u8 r.activation.code, .u8 r.delivery.code, .u8 r.entries.length] ++ r.entries.flatMap fun e : DestEntry =>
        [.opt8 (e.dest.map Endpoint.code), .u8 e.status.code, .opt8 e.status.reasonCode])
  | .earpiece p =>
      (1, match v.ears[p] with
        | some e => [.u8 p.val, .u8 e.entries.length] ++
            (e.entries.flatMap fun x : TalkEntry => [.u16 x.key.val, .u8 x.priority, .u32 x.number.toNat]) ++
            [.opt16 v.ports[p].dipDepth, .u16 e.dip.target, .u16 e.dip.factor]
        | none => [.u8 p.val, .u8 0, .opt16 none, .u16 256, .u16 256])
  | .link c =>
      let r := v.rx.channels[c]
      let port := (List.finRange 48).find? fun p : PortId => decide (v.ports[p].kind = .field ∧ v.ports[p].channel = some c)
      (2, [.u8 c.val, .u8 r.state.code, .opt8 (port.map Fin.val), .u16 r.quality, .u8 (if r.degraded then 1 else 0),
        .u8 (if r.excess then 1 else 0), .tagged16 (r.nextSeq.map BitVec.toNat), .u8 (r.ring.toList.filter Option.isSome).length])
  | .protect p =>
      let r : Protection := if v.ports[p].kind = .panel ∨ v.ports[p].kind = .earpiece then v.gov.records[p] else ⟨0, 0, 0, [], none⟩
      let cap := if r.level = 0 then 4096 else if r.level = 1 then v.gov.config.cap1 else v.gov.config.cap2
      (3, [.u8 p.val, .u16 r.level, .u16 cap, .opt32 (r.last.map LastWindow.peak), .tagged16 (r.last.map LastWindow.openings),
        .opt16 (r.last.map LastWindow.clips), .u8 r.history.length] ++ r.history.map Field.u16)
  | .cueIn c code b => (4, [.u8 c.val, .u8 code.toNat, .u32 b.toNat])
  | .swap outcome b routes creations limit =>
      (5, [.u8 outcome.code, .u32 b.toNat, .u16 routes, .opt16 creations] ++ match limit with
        | none => [.opt8 none, .opt8 none]
        | some .table => [.opt8 (some 0), .opt8 none]
        | some (.destination d) => [.opt8 (some 1), .opt8 (some d.code)])
  | .check r =>
      (6, [.u8 r.channel.val, .u8 r.state.code, .opt8 (r.reason.map CheckReason.code), .u16 r.duration, .u32 r.startBlock.toNat,
        .u16 r.sent, .u16 r.matched, .u16 r.mismatched, .opt16 r.lastDelay, .opt16 r.maxDelay, .u32 r.endBlock.toNat])
  | .clock present b => (7, [.u8 (if present then 1 else 0), .u32 b.toNat])

/-! ## Link frames -/

/-- R126, 11.8.5: what the payload of an AUDIO frame carries: 48 samples of 3 bytes, sample 0 first and the most significant byte of
each first, or none where it is not 144 bytes long. -/
def carries (payload : List Byte) : Option Block → Prop
  | some x => payload.length = 144 ∧ ∀ j : Fin 48, x[j] = ((payload.getD (3 * j.val) 0 ++ payload.getD (3 * j.val + 1) 0 ++
      payload.getD (3 * j.val + 2) 0 : BitVec 24) : Sample)
  | none => payload.length ≠ 144

/-- R189, 11.8.5: the bytes of a link frame: its link id, its kind, its sequence, each high byte first, and its payload. -/
def linkFrame (id : LinkId) (kind : Byte) (seq : Seq) (payload : List Byte) : List Byte :=
  octets 2 id.toNat ++ [kind] ++ octets 2 seq.toNat ++ payload

/-! ## Deliveries -/

/-- R24, R26: a path of this identity has a record, or may be given one in a table that holds `records` of them. -/
abbrev State.hasRoom (u : State) (id : PathId) (records : Nat) : Prop :=
  (∃ q ∈ u.paths, q.ident = id) ∨
    (records < 512 ∧ (u.paths.filter fun q : Path => decide (q.ident.dst = id.dst)).length < 32)

/-- R102: the interrupt list of port `p` is full, and its last entry's priority is that of key `k` or higher. -/
abbrev State.turnsAway (u : State) (p : PortId) (k : KeyId) : Prop :=
  ∀ e ∈ u.ears[p], 4 ≤ e.entries.length ∧ ∃ x ∈ e.entries.getLast?, u.keys[k].priority ≤ x.priority

/-- R101, R102: key `k` takes the head of the interrupt list of port `p`: it is empty, or its head's priority is lower. -/
abbrev State.takesHead (u : State) (p : PortId) (k : KeyId) : Prop :=
  ∀ e ∈ u.ears[p], ∀ h ∈ e.entries.head?, h.priority < u.keys[k].priority

/-- R70, R71, R101, R102: what port `p` answers to key `k` of owner `o`, the path table holding `records` records. -/
def State.portAnswer (u : State) (k : KeyId) (o p : PortId) (records : Nat) : EntryStatus :=
  if ¬ u.hasRoom ⟨.port o, .port p, .talk⟩ records then .denied .noSpace
  else if u.ports[p].kind ≠ .earpiece then .live
  else if u.turnsAway p k then .denied .listFull
  else if u.takesHead p k then .live
  else .heldBack

/-- R24, R70, R71: a delivery of key `k` of owner `o` to port `p` puts one more record into a table that has room for it. -/
abbrev State.opensNew (u : State) (k : KeyId) (o p : PortId) : Prop :=
  (∀ q ∈ u.paths, q.ident ≠ ⟨.port o, .port p, .talk⟩) ∧
    (u.paths.filter fun q : Path => decide (q.ident.dst = .port p)).length < 32 ∧
    ¬(u.ports[p].kind = .earpiece ∧ u.turnsAway p k)

/-- R21: the largest of the levels of a path's holders. -/
def State.loudest (u : State) (id : PathId) (keys : List KeyId) (route : Bool) : Nat :=
  max ((keys.map fun j : KeyId => u.keys[j].level).foldl max 0)
    (if route then ((u.routes.active.find? fun x : Route => decide (x.ident = id)).map Route.level).getD 0 else 0)

/-- R22: a path with another target level: a change restarts its ramp from the present level. -/
def Path.retargeted (p : Path) (target : Nat) : Path :=
  if target = p.target then p else { p with target := target, start := p.level, index := 0 }

/-- R21: the target level that the holders and the flags of a path give. -/
def State.targetOf (u : State) (q : Path) : Nat :=
  if q.suspended = true ∨ q.closing = true then 0 else u.loudest q.ident q.keys q.route

/-- R21: every path's target level is the one that its holders and its flags give. -/
def State.aimed (u : State) : Prop := ∀ q ∈ u.paths, q.target = u.targetOf q

/-- R35, R158: the protection record of port `p` in RUN after `n` more openings into it. -/
def State.withOpenings (u : State) (p : PortId) (n : Nat) : Protection :=
  if (u.ports[p].kind = .panel ∨ u.ports[p].kind = .earpiece) ∧ u.gov.config.mode ≠ .off ∧ 0 < n then
    { u.gov.records[p] with openings := min 65535 (u.gov.records[p].openings + n) }
  else u.gov.records[p]

/-- R35, R158: the governor after a path into `d` has gone from the target level `before` to `after`: an opening if it rose from 0. -/
def State.counted (u : State) (d : Endpoint) (before after : Nat) : Governor :=
  match d with
  | .port p => { u.gov with records := u.gov.records.set p (u.withOpenings p (if before = 0 ∧ 0 < after then 1 else 0)) }
  | .bus _ => u.gov

/-- R102: the admission of key `k` of owner `o` evicts key `j` from the full list of port `p` and so from the same path. -/
abbrev State.evicts (u : State) (k : KeyId) (o p : PortId) (j : KeyId) : Prop :=
  u.ports[p].kind = .earpiece ∧ u.keys[j].owner = some o ∧
    ∃ e ∈ u.ears[p], 4 ≤ e.entries.length ∧ ∃ x ∈ e.entries.getLast?, x.key = j ∧ x.priority < u.keys[k].priority

/-- R27, R28, R102: the target level of the path of key `k` of owner `o` into port `p` once an eviction has been carried out. -/
def State.targetLeft (u : State) (k : KeyId) (o p : PortId) (q : Path) : Nat :=
  let left := q.keys.filter fun j : KeyId => decide (¬ u.evicts k o p j)
  if q.suspended = true ∨ q.closing = true ∨ (left = [] ∧ q.route = false) then 0 else u.loudest q.ident left q.route

/-- R31, R74, R103, R102, R27, R28: what the admission of key `k` of owner `o` to the interrupt list of port `p` has done to the keys that
were there. The head before it, where `k` takes the head, is HELD_BACK, and its path suspended unless a route holds it or it is `k`'s
own; an evicted key is DENIED (LIST_FULL) and has left its path, which closes or follows its other holders. -/
def State.displaces (u t : State) (k : KeyId) (o p : PortId) : Prop :=
  let told (x : TalkEntry) (st : EntryStatus) := ∀ y ∈ t.keys[x.key].entries, y.dest = some (.port p) → y.status = st
  -- the one record of an entry's path, if it is another than `k`'s, which the entry's key holds
  let path (x : TalkEntry) (q : Path) := ∃ ox : PortId, u.keys[x.key].owner = some ox ∧ ox ≠ o ∧ q ∈ u.paths ∧
    q.ident = ⟨.port ox, .port p, .talk⟩ ∧ (∀ y ∈ u.paths, y.ident = q.ident → y = q) ∧ x.key ∈ q.keys
  let still (q q' : Path) := q' ∈ t.paths ∧ q'.ident = q.ident ∧ q'.pos = q.pos ∧ q'.level = q.level ∧ q'.route = q.route
  ∀ e ∈ u.ears[p],
    (∀ h ∈ e.entries.head?, u.takesHead p k →
      told h .heldBack ∧
      ∀ q, path h q → q.closing = false → (4 ≤ e.entries.length → ∀ x ∈ e.entries.getLast?, x.key ≠ h.key) →
        ∃ q', still q q' ∧ h.key ∈ q'.keys ∧ q'.closing = false ∧
          (q.route = false → q'.suspended = true ∧ q'.target = 0) ∧ (q.route = true → q'.suspended = q.suspended)) ∧
    (4 ≤ e.entries.length → ∀ x ∈ e.entries.getLast?, (∀ h ∈ e.entries.head?, h.key ≠ x.key) →
      told x (.denied .listFull) ∧
      ∀ q, path x q → ∃ q', still q q' ∧ q'.keys = q.keys.filter (fun j : KeyId => decide (j ≠ x.key)) ∧
        (q'.keys = [] → q.route = false → q'.closing = true ∧ q'.suspended = false ∧ q'.target = 0) ∧
        (q'.keys ≠ [] ∨ q.route = true → q'.closing = q.closing ∧
          q'.target = if q'.suspended = true ∨ q'.closing = true then 0 else u.loudest q.ident q'.keys q.route))

/-- R21 to R26, R33, R102 to R104: from `u` to `t` key `k` of owner `o` has become a holder of its path into port `p`, which answered
`st`: the path has a new record, a closing record is opened again for `k` alone (one that an eviction has just closed too), or
`k` joins the holders. -/
def State.joins (u t : State) (k : KeyId) (o p : PortId) (st : EntryStatus) : Prop :=
  let id : PathId := ⟨.port o, .port p, .talk⟩
  ∃ q ∈ t.paths, q.ident = id ∧ q.closing = false ∧
    q.target = (if q.suspended then 0 else u.loudest id q.keys q.route) ∧
    ((∀ x ∈ u.paths, x.ident ≠ id) →
      q.keys = [k] ∧ q.route = false ∧ q.suspended = decide (st = .heldBack) ∧ q.level = 0) ∧
    ∀ q0 ∈ u.paths, q0.ident = id → (∀ x ∈ u.paths, x.ident = id → x = q0) →
      let again := q0.closing = true ∨ (q0.keys ≠ [] ∧ (∀ j ∈ q0.keys, u.evicts k o p j) ∧ q0.route = false)
      q.pos = q0.pos ∧ q.level = q0.level ∧
      (again → q.keys = [k] ∧ q.route = false ∧ q.suspended = decide (st = .heldBack)) ∧
      (¬ again → (∀ j : KeyId, j ∈ q.keys ↔ j = k ∨ (j ∈ q0.keys ∧ ¬ u.evicts k o p j)) ∧ q.route = q0.route ∧
        q.suspended = if st = .live ∧ u.ports[p].kind = .earpiece then false else q0.suspended)

/-- R100 to R102: the entries of a list that has taken key `k` in, behind every entry of equal or higher priority, its last entry
evicted first if it was full. The entry number past 4,294,967,295 is 0 (log 45, DESIGN CHOICE, unsafe). -/
def Ear.entriesWith (e : Ear) (k : KeyId) (priority : Nat) : List TalkEntry :=
  let kept := if e.entries.length = 4 then e.entries.take 3 else e.entries
  let ahead := fun x : TalkEntry => decide (priority ≤ x.priority)
  kept.filter ahead ++ ⟨k, priority, e.count + 1⟩ :: kept.filter fun x : TalkEntry => !ahead x

/-- R100: at most 4 entries, none behind one of lower priority. -/
def Ear.wf (e : Ear) : Prop :=
  e.entries.length ≤ 4 ∧ e.entries.Pairwise fun a b : TalkEntry => b.priority ≤ a.priority

/-- R70, R71, R113: what the answer `st` of port `p` to key `k` of owner `o` leaves at that port: the path, the list entry, the keys that
it displaces and the EARPIECE notice, or, where the key was denied, the paths and the list that were there. -/
def State.portAnswered (u t : State) (k : KeyId) (o p : PortId) (st : EntryStatus) : Prop :=
  (st = .live ∨ st = .heldBack → u.joins t k o p st ∧
    (u.ports[p].kind ≠ .earpiece → t.ears[p] = u.ears[p]) ∧
    (u.ports[p].kind = .earpiece → ∀ e ∈ u.ears[p], e.wf →
      t.ears[p].map Ear.entries = some (e.entriesWith k u.keys[k].priority) ∧ u.displaces t k o p ∧
        (u.link.mask.getLsbD 1 = true → .earpiece p ∈ t.link.notices ∨ t.link.overflow = true))) ∧
  ∀ why, st = .denied why → t.ears[p] = u.ears[p] ∧
    (t.paths.filter fun q : Path => decide (q.ident.dst = .port p)) = u.paths.filter fun q => decide (q.ident.dst = .port p)

/-- What no delivery touches beside the path table, the interrupt lists, the keys, the groups, the openings counts and the control
link. -/
structure State.sameRest (u t : State) : Prop where
  ports : t.ports = u.ports
  mode : t.mode = u.mode
  blockCount : t.blockCount = u.blockCount
  rx : t.rx = u.rx
  tx : t.tx = u.tx
  checks : t.checks = u.checks
  routes : t.routes = u.routes
  mix : t.mix = u.mix
  lanes : t.lanes = u.lanes

/-- Nothing has changed at destinations other than these ports: neither a path nor an interrupt list. -/
def State.onlyAt (u t : State) (ps : List PortId) : Prop :=
  (∀ p : PortId, p ∉ ps → t.ears[p] = u.ears[p]) ∧
    ∀ d : Endpoint, (∀ p ∈ ps, d ≠ .port p) →
      (t.paths.filter fun q : Path => decide (q.ident.dst = d)) = u.paths.filter fun q => decide (q.ident.dst = d)

/-! ## Frames -/

/-- The parts of a control link that reports leave alone. -/
structure ControlLink.sameAnswers (l l' : ControlLink) : Prop where
  replies : l'.replies = l.replies
  mask : l'.mask = l.mask
  writeRefused : l'.writeRefused = l.writeRefused
  fresh : l'.fresh = l.fresh
  statusOut : l'.statusOut = l.statusOut
  writing : l'.writing = l.writing
  reading : l'.reading.isSome = l.reading.isSome

/-- The definition and the activation of a key are those of another record. -/
structure KeyRecord.sameKey (r r' : KeyRecord) : Prop where
  owner : r'.owner = r.owner
  target : r'.target = r.target
  level : r'.level = r.level
  priority : r'.priority = r.priority
  mode : r'.mode = r.mode
  activation : r'.activation = r.activation
  pressBlock : r'.pressBlock = r.pressBlock

/-- What delivering, withdrawing and serving keys leave alone. -/
structure State.sameRun (s t : State) : Prop where
  rstnLow : t.rstnLow = s.rstnLow
  mode : t.mode = s.mode
  blockCount : t.blockCount = s.blockCount
  ports : t.ports = s.ports
  lanes : t.lanes = s.lanes
  mix : t.mix = s.mix
  rx : t.rx = s.rx
  tx : t.tx = s.tx
  checks : t.checks = s.checks
  routes : t.routes = s.routes
  eventBlock : t.eventBlock = s.eventBlock
  pending : t.pending = s.pending
  govConfig : t.gov.config = s.gov.config
  windowDue : t.gov.windowDue = s.gov.windowDue
  link : s.link.sameAnswers t.link
  key : ∀ k : KeyId, s.keys[k].sameKey t.keys[k]

/-! ## Withdrawals -/

/-- R76: key `k` is delivered to `d`, LIVE or HELD_BACK: it holds its path there. -/
abbrev State.delivers (u : State) (k : KeyId) (d : Endpoint) : Prop :=
  ∃ e ∈ u.keys[k].entries, e.dest = some d ∧ (e.status = .live ∨ e.status = .heldBack)

/-- The entries of a list that are not key `k`'s. -/
def Ear.without (e : Ear) (k : KeyId) : List TalkEntry := e.entries.filter fun x : TalkEntry => decide (x.key ≠ k)

/-- R105: key `k` is delivered to the EARPIECE port `p` and is the head of its interrupt list. -/
abbrev State.leads (u : State) (k : KeyId) (p : PortId) : Prop :=
  u.delivers k (.port p) ∧ u.ports[p].kind = .earpiece ∧
    ((u.ears[p]).bind fun e : Ear => e.entries.head?).map TalkEntry.key = some k

/-- R105: the entry that becomes the head of the list of port `p` when its head, key `k`, is withdrawn. -/
def State.nextHead (u : State) (k : KeyId) (p : PortId) : Option TalkEntry :=
  if u.leads k p then (u.ears[p]).bind fun e : Ear => (e.without k).head? else none

/-- R105, R31, R32: the path `q` of key `k` of owner `o` when the key leaves the list of the earpiece that the path runs into. The path of a
departing head is suspended unless ROUTE holds it; one that is the new head's too is resumed. -/
def State.afterDeparture (u : State) (k : KeyId) (o : PortId) (q : Path) : Path :=
  match q.ident.dst with
  | .bus _ => q
  | .port p =>
      if u.leads k p then
        let q' := { q with suspended :=
          if ((u.nextHead k p).bind fun h : TalkEntry => u.keys[h.key].owner) = some o then false
          else q.suspended || (!q.closing && !q.route) }
        q'.retargeted (u.targetOf q')
      else q

/-- R27, R28, R76: the path `q` of key `k` of owner `o` once the key has left its list and then the path, which closes where no other
holder is left and else follows the others. -/
def State.afterWithdrawal (u : State) (k : KeyId) (o : PortId) (q : Path) : Path :=
  let others := q.keys.filter fun j : KeyId => decide (j ≠ k)
  let q1 := u.afterDeparture k o q
  let q2 := if others = [] ∧ q.route = false then { q1 with keys := [], closing := true, suspended := false }
    else { q1 with keys := others }
  q2.retargeted (u.targetOf q2)

/-- R32, R35: the withdrawal of key `k` resumes the new head's path into port `p` to a level above 0. -/
def State.opensBehind (u : State) (k : KeyId) (p : PortId) : Prop :=
  ∃ h o, u.nextHead k p = some h ∧ u.keys[h.key].owner = some o ∧ ∃ q ∈ u.paths, q.ident = ⟨.port o, .port p, .talk⟩ ∧
    q.suspended = true ∧ q.closing = false ∧ 0 < u.loudest q.ident q.keys q.route

/-- R105, R113, R74: the notices that key `k` brings about by leaving one destination: EARPIECE where it had an entry, and then KEY of
the new head (in this order: log 15, DEDUCED, unsafe). -/
def State.departureNotices (u : State) (k : KeyId) (x : DestEntry) : List Notice :=
  match x.dest with
  | some (.port p) =>
      if u.delivers k (.port p) ∧ u.ports[p].kind = .earpiece ∧ ∃ e ∈ u.ears[p], ∃ y ∈ e.entries, y.key = k then
        .earpiece p :: (u.nextHead k p).toList.map fun h : TalkEntry => .key h.key
      else []
  | _ => []

/-- R76, R91: key `k`, whose record was that of `v`, is delivered nowhere in `t`: an empty list, no queue, no engagement in its group,
no path. -/
structure State.withdrawn (v t : State) (k : KeyId) : Prop where
  delivered : t.keys[k].delivered = false
  entries : t.keys[k].entries = []
  deadline : t.keys[k].deadline = none
  queues : ∀ g : GroupId, k ∉ t.groups[g].waiters
  engagement : ∀ g : GroupId, v.keys[k].target = some (.group g) → ∀ x ∈ t.groups[g].members, x.engagedBy ≠ some k
  holdings : ∀ o d, v.keys[k].owner = some o → v.delivers k d → ∀ q ∈ t.paths, q.ident = ⟨.port o, d, .talk⟩ → k ∉ q.keys

/-- R27, R28, R31, R32, R35, R74, R76, R91, R105, R113, R158: what the withdrawal of key `k` has made of `v`, before any service pass:
the groups, the other keys, the paths, the interrupt lists, the openings and the notices. -/
structure State.takesBack (v w : State) (k : KeyId) : Prop where
  groups : ∀ g : GroupId, w.groups[g] = if v.keys[k].target = some (.group g) then { v.groups[g] with
      waiters := v.groups[g].waiters.filter fun x : KeyId => decide (x ≠ k)
      members := v.groups[g].members.map fun x : Member => if x.engagedBy = some k then { x with engagedBy := none } else x }
    else v.groups[g]
  /-- A new head is LIVE there; nothing else changes in the record of any other key. -/
  keys : ∀ j : KeyId, j ≠ k → w.keys[j] = { v.keys[j] with entries := v.keys[j].entries.map fun x : DestEntry =>
    match x.dest with
    | some (.port p) => if (v.nextHead k p).map TalkEntry.key = some j then { x with status := .live } else x
    | _ => x }
  definition : w.keys[k].owner = v.keys[k].owner ∧ w.keys[k].target = v.keys[k].target ∧ w.keys[k].level = v.keys[k].level ∧
    w.keys[k].priority = v.keys[k].priority ∧ w.keys[k].mode = v.keys[k].mode
  ears : ∀ p : PortId, ¬(v.delivers k (.port p) ∧ v.ports[p].kind = .earpiece) → w.ears[p] = v.ears[p]
  lists : ∀ (p : PortId) (e : Ear), v.delivers k (.port p) → v.ports[p].kind = .earpiece → v.ears[p] = some e →
    ((∀ x ∈ e.entries, x.key ≠ k) → w.ears[p] = some e) ∧
    ((∃ x ∈ e.entries, x.key = k) →
      w.ears[p] = some (if e.without k = [] then ⟨[], 0, e.dip.aim 256⟩ else { e with entries := e.without k }))
  idents : w.paths.map Path.ident = v.paths.map Path.ident
  /-- Every path but the key's own and those of new heads. -/
  otherPaths : ∀ x ∈ v.paths, (∀ o d, v.keys[k].owner = some o → v.delivers k d → x.ident ≠ ⟨.port o, d, .talk⟩) →
    (∀ p h o, v.nextHead k p = some h → v.keys[h.key].owner = some o → x.ident ≠ ⟨.port o, .port p, .talk⟩) → x ∈ w.paths
  ownPath : ∀ o d, v.keys[k].owner = some o → v.delivers k d → ∀ q ∈ v.paths, q.ident = ⟨.port o, d, .talk⟩ →
    (∀ x ∈ v.paths, x.ident = q.ident → x = q) → k ∈ q.keys → v.afterWithdrawal k o q ∈ w.paths
  /-- R28: a path that the key alone held closes from its present level. -/
  closingPath : ∀ o d, v.keys[k].owner = some o → v.delivers k d → ∀ q ∈ v.paths, q.ident = ⟨.port o, d, .talk⟩ →
    (∀ x ∈ v.paths, x.ident = q.ident → x = q) → q.keys = [k] → q.route = false →
    ∃ q' ∈ w.paths, q'.ident = q.ident ∧ q'.pos = q.pos ∧ q'.keys = [] ∧ q'.route = false ∧ q'.closing = true ∧
      q'.suspended = false ∧ q'.target = 0 ∧ q'.level = q.level
  /-- R32: the path of a new head, where it is not the key's own too, goes from its present level to its holders' largest. -/
  headPath : ∀ p h o, v.nextHead k p = some h → v.keys[h.key].owner = some o → v.keys[k].owner ≠ some o →
    ∀ q ∈ v.paths, q.ident = ⟨.port o, .port p, .talk⟩ → (∀ x ∈ v.paths, x.ident = q.ident → x = q) →
      Path.retargeted { q with suspended := false } (v.targetOf { q with suspended := false }) ∈ w.paths
  headHeard : ∀ p h o, v.nextHead k p = some h → v.keys[h.key].owner = some o →
    ∀ q ∈ w.paths, q.ident = ⟨.port o, .port p, .talk⟩ → q.suspended = false
  governor : w.gov.config = v.gov.config ∧ w.gov.windowDue = v.gov.windowDue
  openings : v.mode = .run → v.aimed → v.paths.Pairwise (fun a b => a.ident ≠ b.ident) → ∀ p : PortId,
    (v.opensBehind k p → w.gov.records[p] = v.withOpenings p 1) ∧ (¬ v.opensBehind k p → w.gov.records[p] = v.gov.records[p])
  notices : (v.keys[k].entries.map DestEntry.dest).Nodup →
    w.link = (v.keys[k].entries.flatMap (v.departureNotices k)).foldl (fun l n => l.report n) v.link

/-- R89, R91: group `g` runs a service pass once the withdrawal of key `k` has made `w` of `v`: it has waiters, and the key engaged one of
its members or has left a list of 4 entries at one. -/
def State.freedIn (v w : State) (k : KeyId) (g : GroupId) : Prop :=
  w.groups[g].mode = .hunt ∧ w.groups[g].waiters ≠ [] ∧
    ((v.keys[k].target = some (.group g) ∧ ∃ x ∈ v.groups[g].members, x.engagedBy = some k) ∨
      ∃ x ∈ w.groups[g].members, v.delivers k (.port x.port) ∧ v.ports[x.port].kind = .earpiece ∧
        ∃ e, v.ears[x.port] = some e ∧ e.entries.length = 4 ∧ (e.without k).length = 3)

/-- R76, R90: key `k` is withdrawn from `v`; what else belongs to the event follows (`after`), then the service passes, which leave `t`. -/
def State.withdrawnThen (v t : State) (k : KeyId) (after : State → State) : Prop :=
  v.withdrawn t k ∧ ∃ w : State, v.withdrawn w k ∧ v.takesBack w k ∧ (after w).sameRun t ∧
    (after w).servedIn t (v.freedIn w k) ∧ ((∀ g, ¬ v.freedIn w k g) → t = after w)

/-! ## Conditions that every step keeps -/

/-- R19, R40: positions rise and lie below 512, no identity stands twice, at most 32 records have one destination. -/
def pathTableWf (ps : List Path) : Prop :=
  ps.Pairwise (fun a b => a.pos < b.pos) ∧ (∀ p ∈ ps, p.pos < 512) ∧ ps.Pairwise (fun a b => a.ident ≠ b.ident) ∧
    ∀ d : Endpoint, (ps.filter fun p : Path => decide (p.ident.dst = d)).length ≤ 32

/-- R28, R30, R31, R34, R39: a path's holders are distinct, in ascending order, and there are none exactly while it is closing; a suspended
path has a key holder and no ROUTE; only a closing path is to be removed. -/
structure Path.wf (q : Path) : Prop where
  holders : q.keys.Pairwise (· < ·)
  unheld : (q.keys = [] ∧ q.route = false) ↔ q.closing = true
  suspended : q.suspended = true → q.keys ≠ [] ∧ q.route = false
  spent : q.spent = true → q.closing = true

/-- R41, R64 to R66, R69, R74, R76, R88, R91, R98, R169, R173: paths, queues and delivery lists agree. -/
structure State.deliveriesWf (s : State) : Prop where
  /-- R41, R98, R173: CONFIG has no path, no waiter and no swap pending. -/
  config : s.mode = .config → s.paths = [] ∧ (∀ g : GroupId, s.groups[g].waiters = []) ∧ s.routes.swapPending = false
  /-- R169: a judgement falls due for a pending swap alone. -/
  judged : s.routes.judgementDue = true → s.routes.swapPending = true
  /-- R69, R76: a key that holds a path is HELD or LATCHED and delivered to it, from its owner, and LIVE or HELD_BACK there. -/
  holders : ∀ q ∈ s.paths, ∀ k ∈ q.keys, (s.keys[k].activation = .held ∨ s.keys[k].activation = .latched) ∧
    (∃ o, s.keys[k].owner = some o ∧ q.ident = ⟨.port o, q.ident.dst, .talk⟩) ∧ s.delivers k q.ident.dst
  /-- R72, R88: a waiter is HELD or LATCHED, aims at the group, has a deadline and has been given no destination. -/
  waiters : ∀ g : GroupId, ∀ k ∈ s.groups[g].waiters,
    (s.keys[k].activation = .held ∨ s.keys[k].activation = .latched) ∧ s.keys[k].target = some (.group g) ∧
      s.keys[k].deadline.isSome = true ∧ s.keys[k].entries = []
  /-- R69, R84, R99: the destinations of one delivery are distinct. -/
  destinations : ∀ k : KeyId, (s.keys[k].entries.map DestEntry.dest).Nodup

/-- R181, R183: at most 16 replies and 64 notices, and at most one state-kind entry per kind and subject. -/
def ControlLink.wf (l : ControlLink) : Prop :=
  l.replies.length ≤ 16 ∧ l.notices.length ≤ 64 ∧ (l.notices.filter Notice.isStateKind).Nodup

/-- R82, R88, R100, R143, R144: every interrupt list is in order; the members of a group are distinct; at most 4 keys wait in a
group and at most 8 cues wait to be sent; the AUDIO frames not yet begun stand in channel order, at most one for a channel. -/
def State.listsWf (s : State) : Prop :=
  (∀ (p : PortId) (e : Ear), s.ears[p] = some e → e.wf) ∧ (∀ g : GroupId, s.groups[g].waiters.length ≤ 4) ∧
    (∀ g : GroupId, (s.groups[g].members.map Member.port).Nodup) ∧
    s.tx.cues.length ≤ 8 ∧ s.tx.ready.Pairwise fun a b : AudioFrame => a.channel < b.channel

/-- R155, R159: a protection record. -/
def Protection.wf (r : Protection) : Prop := r.level ≤ 2 ∧ r.history.length ≤ 8 ∧ r.openings ≤ 65535

/-- R118, R130, R155, R159: protection levels, window histories, openings counts, quality counts and the unmatched count lie
within their ranges. -/
def State.rangesWf (s : State) : Prop :=
  (∀ p : PortId, s.gov.records[p].wf) ∧ (∀ c : ChanId, s.rx.channels[c].quality ≤ 255) ∧ s.rx.unmatched ≤ 65535

end Sys2Proof.Machine
end

