-- ==== Sys2Proof/WellFormed.lean ====
section
/-! DEFINITION. Which commands a request body of 11.8.3 can carry: each field fits its width, and a field that may be omitted
is not the marker for an omitted value (R189). The machine's meanings do not depend on it; the byte encodings do. -/

namespace Sys2Proof

/-- A one-byte field that must be present: any byte is a value of it. -/
def fits8 (n : Nat) : Bool := n < 256
/-- A two-byte field that must be present. -/
def fits16 (n : Nat) : Bool := n < 65536
/-- A field that may be omitted: the all-ones value stands for its absence. -/
def optFits (ones : Nat) : Option Nat → Bool
  | none => true
  | some n => n < ones

/-- The one-, two- and four-byte optional fields. -/
def opt8Fits (o : Option Nat) : Bool := optFits 255 o
def opt16Fits (o : Option Nat) : Bool := optFits 65535 o
def opt32Fits (o : Option Nat) : Bool := optFits 4294967295 o

/-- The request fields fit the body that carries them. Commands that are not requests carry nothing to check, but for
BAD_FRAME, whose tag cannot be received before its kind (R178). -/
def Instr.wellFormed : Instr → Bool
  | .resetInput _ => true
  | .start _ => true
  | .stop _ => true
  | .restart _ => true
  | .port _ p k i o c => fits8 p && fits8 k && opt8Fits i && opt8Fits o && opt8Fits c
  | .channel _ c op _ pr md ck =>
      fits8 c && fits8 op && op != 0 && opt8Fits pr && opt16Fits md && opt16Fits ck
  | .channelClose _ c => fits8 c
  | .filter _ f e _ _ c => fits8 f && fits8 e && fits8 c
  | .governor _ m tl tm c1 c2 a =>
      fits8 m && opt32Fits tl && opt32Fits tm && opt16Fits c1 && opt16Fits c2 && opt16Fits a
  | .trim _ p t d => fits8 p && fits16 t && opt16Fits d
  | .key _ k o tt tn l p m =>
      fits16 k && fits8 o && fits8 tt && tt != 0 && fits8 tn && opt16Fits l && opt8Fits p && opt8Fits m
  | .keyRemove _ k => fits16 k
  | .group _ g m t ms => fits8 g && fits8 m && opt16Fits t && decide (ms.length ≤ 248) && ms.all fits8
  | .presence _ p v => fits8 p && fits8 v
  | .routeAdd _ s d c l => fits8 s && fits8 d && fits8 c && opt16Fits l
  | .routeDrop _ s d c => fits8 s && fits8 d && fits8 c
  | .routeCopy _ => true
  | .swap _ => true
  | .notify _ _ => true
  | .resync _ => true
  | .press _ k => fits16 k
  | .release _ k => fits16 k
  | .cueSend _ c q => fits8 c && fits16 q
  | .checkStart _ c d f => fits8 c && opt16Fits d && opt8Fits f
  | .checkStop _ c => fits8 c
  | .queryPort _ p => fits8 p
  | .queryPaths _ d => fits8 d
  | .queryKey _ k => fits16 k
  | .queryGroup _ g => fits8 g
  | .queryEarpiece _ p => fits8 p
  | .queryChannel _ c => fits8 c
  | .queryProtect _ p => fits8 p
  | .queryRoutes _ s i => fits8 s && fits16 i
  | .badFrame k t => k.isSome || t.isNone
  | .readTransaction => true
  | .otherTransaction type => decide (type ≠ 0xC3)
  | .blockBoundary => true
  | .concealLimit _ => true
  | .channelIdleLimit _ => true
  | .channelDrop _ => true
  | .channelRecovery _ => true
  | .checkCompletion _ => true
  | .pathRemoval _ => true
  | .waitTimeout _ => true
  | .windowEnd => true
  | .swapJudgement => true
  | .clockLost => true
  | .clockPresent => true
  | .audioFrameArrival _ _ _ => true
  | .cueFrameArrival _ _ _ => true
  | .malformedLinkFrame => true
  | .linkFrameBegin _ => true
  | .linkFrameSent => true
  | .frameSync _ _ => true
  | .readTransactionEnd _ => true

end Sys2Proof
end

