-- ==== Sys2Proof/Certificates/Slice0/Obligations.lean ====
section
/-! DEFINITION. The statements for the provers. `s.opened` is the state in which a request is executed (Safety.lean): the state the
request is sent to, with every due step taken, a boundary that waits for the end of its frame excepted (log 49); `s.settle` is the same
for every other event. A state in which nothing is due settles to itself (QuietStateSettlesToItself). A conclusion that gives the next
state as a record update gives the frame too: nothing but the fields named has changed. -/

section

open Sys2Proof Sys2Proof.Machine

/-! ## The machine -/

/-- The queue of commands is the model's (log 1, log 3): a step takes the front command; on an empty queue it idles; every command
answers a next state. -/
def Obligations.StepTakesFrontCommand : Prop :=
  (∀ (c : Instr) (rest : List Instr) (s : State),
    step { s with pending := c :: rest } = exec c { s with pending := rest }) ∧
  (∀ s : State, s.pending = [] → step s = .next s) ∧
  ∀ (c : Instr) (s : State), ∃ t, exec c s = .next t

/-- No command touches the queue of waiting commands (log 3). -/
def Obligations.CommandsLeaveTheQueue : Prop :=
  ∀ (c : Instr) (s t : State), exec c s = .next t → t.pending = s.pending

/-- R17, with the values of R2, R13, R41, R60, R81, R99, R118 to R120, R142, R143, R146, R154, R155, R166, R188: RSTN low or rising,
and RESTART, leave the reset condition; RESTART queues no reply. That an RSTN that stays high changes nothing is the model's reading
(log 5, DEDUCED). -/
def Obligations.ResetLeavesTheResetCondition : Prop :=
  (State.reset.inResetCondition ∧ State.reset.rstnLow = false) ∧
  (∀ s : State, ∃ t, exec (.resetInput true) s = .next t ∧ t.inResetCondition ∧ t.rstnLow = true) ∧
  (∀ s : State, s.rstnLow = true →
    ∃ t, exec (.resetInput false) s = .next t ∧ t.inResetCondition ∧ t.rstnLow = false) ∧
  (∀ s : State, s.rstnLow = false → exec (.resetInput false) s = .next s) ∧
  ∀ (tag : Byte) (s : State), s.takesRequests →
    ∃ t, exec (.restart tag) s = .next t ∧ t.inResetCondition ∧ t.rstnLow = false

/-- R17: while RSTN is held low, every command but the pin's own is disregarded, ATTN is deasserted and SDO is high impedance. -/
def Obligations.HeldInResetNothingIsTaken : Prop :=
  ∀ s : State, s.rstnLow = true →
    (∀ c : Instr, (∀ low, c ≠ .resetInput low) → exec c s = .next s) ∧ s.attn = false ∧ ∀ n, s.sdo n = none

/-- The device's own steps (log 2): where none is due, settling changes nothing, so a request is executed in the very state it is sent
to, but for what `link` tells of its transaction: the status byte is the one that its beginning shifted out, or the present one where no
beginning was commanded (log 8). Where steps are due, settling takes them as their commands would, in the default order of log 2 (DESIGN
CHOICE; log 18 for the timeouts, log 50 for the channels); where one step alone is due and leaves none due, that is the state that its
own command answers. A declaration of presence that is due is taken with its command, and BLOCK_BOUNDARY takes what is due before it; a
boundary itself is not taken by settling (log 49). -/
def Obligations.QuietStateSettlesToItself : Prop :=
  (∀ s : State, s.quiet = true →
    s.settle = s ∧ s.opened = { s with link := { s.link with
      reading := none
      writing := false
      statusOut := if s.link.writing then s.link.statusOut else s.statusByte } }) ∧
  ∀ s : State, s.rstnLow = false →
    ((∀ p ∈ s.paths, p.pos < 512) →
      let v := s.commanded stepsBeforeTimeouts
      s.settleSteps = v.commanded v.timeoutsAndJudgement ∧
      ∀ (c : Instr) (t : State), c ∈ ownSteps → (∀ d ∈ ownSteps, d ≠ c → exec d s = .next s) → exec c s = .next t →
        t.stepsQuiet = true → s.settleSteps = t) ∧
    (∃ t, exec .clockPresent s = .next t ∧ s.settle = t.settleSteps) ∧
    (∀ v : State, s.settleSteps = v → v.stepsQuiet = true → exec .blockBoundary s = exec .blockBoundary v)

/-! ## Requests in general -/

/-- R14: a request that its mode does not admit is answered WRONG_MODE and changes nothing else. -/
def Obligations.WrongModeIsRefused : Prop :=
  ∀ (c : Instr) (h : Header) (s : State), requestHeader c = some h → s.takesRequests →
    (h.allowed = .configOnly ∧ s.mode = .run ∨ h.allowed = .runOnly ∧ s.mode = .config) → RefusedWith c .wrongMode s

/-- R181: a request frame, RESTART and a bad frame included, that finds 16 replies waiting is not executed: WRITE_REFUSED is set
and no reply joins the queue. -/
def Obligations.FullReplyQueueRefusesFrames : Prop :=
  ∀ (c : Instr) (s : State), s.rstnLow = false → 16 ≤ s.link.replies.length →
    ((requestHeader c).isSome ∨ (∃ tag, c = .restart tag) ∨ ∃ k t, c = .badFrame k t) →
    exec c s = .next { s.opened with link := { s.opened.link with writeRefused := true } }

/-- R18, R179: an executed request, whatever its status, clears FRESH and queues exactly one reply, which echoes its kind and its
tag. -/
def Obligations.ExecutedRequestQueuesOneReply : Prop :=
  ∀ (c : Instr) (h : Header) (s : State), requestHeader c = some h → s.takesRequests →
    ∃ t st body, exec c s = .next t ∧ t.link.replies = s.link.replies ++ [⟨h.kind, h.tag, st, body⟩] ∧
      t.link.fresh = false ∧ t.rstnLow = false

/-- R178, R179: a frame refused BAD_FRAME, where a reply has room: it is answered with the kind and the tag that were received, 0 for
each that was not, and FRESH stays as it was (R18). -/
def Obligations.BadFrameIsAnswered : Prop :=
  ∀ (s : State) (kind tag : Option Byte), s.takesRequests →
    exec (.badFrame kind tag) s = .next { s.opened with link := { s.opened.link with
      replies := s.opened.link.replies ++ [⟨kind.getD 0, tag.getD 0, .badFrame, []⟩] } }

/-! ## The port table -/

/-- R3, R99, R155: a PORT request that passes every check and unbinds no channel (OK): the record, and the interrupt list and the
protection record that a change of kind renews. Fields that the kind does not use are disregarded. The presence that a port keeps
when it becomes FIELD, SOURCE or UNUSED is the model's choice (log 41). -/
def Obligations.PortWritesTheRecord : Prop :=
  ∀ (s : State) (tag : Byte) (p : PortId) (k : PortKind) (rawIn rawOut rawChan : Option Nat) (i o : Option Slot)
    (c : Option ChanId),
    ∀ u : State, s.opened = u →
    s.takesRequests → s.mode = .config → k.reads rawIn rawOut rawChan i o c → ¬ u.slotTaken p o → ¬ u.channelTaken p k c →
    ¬ u.poolUsedUp p k → (k = u.ports[p].kind ∨ ¬ u.named p) → (u.ports[p].channel = none ∨ u.ports[p].channel = c) →
    AcceptedWith (.port tag p.val k.code rawIn rawOut rawChan) s (u.portWritten p k i o c) []

/-- R3, R4: a PORT request that leaves a channel, by naming another or by a change of kind, writes the record as any other does
(PortWritesTheRecord), closes the channel and discards its configuration; nothing else has changed. A channel that was not CLOSED is
reported (R137). R4 names the state and the configuration alone: that the excess-delay flag, the last cue and every other field of its
record return to the values of R120, and that a CLOSED channel's record is left alone, is the model's choice (log 28). -/
def Obligations.PortUnbindsAChannel : Prop :=
  ∀ (s : State) (tag : Byte) (p : PortId) (k : PortKind) (rawIn rawOut rawChan : Option Nat) (i o : Option Slot)
    (c : Option ChanId) (ch : ChanId),
    ∀ u : State, s.opened = u →
    let closed : Machine.Channel :=
      ⟨.closed, none, none, Vector.replicate 32 none, Vector.replicate 48 0, 0, 0, false, false, 0, 0, none, none⟩
    s.takesRequests → s.mode = .config → k.reads rawIn rawOut rawChan i o c → ¬ u.slotTaken p o → ¬ u.channelTaken p k c →
    ¬ u.poolUsedUp p k → (k = u.ports[p].kind ∨ ¬ u.named p) → u.ports[p].channel = some ch → c ≠ some ch →
    let written := u.portWritten p k i o c
    (u.rx.channels[ch].state = .closed → AcceptedWith (.port tag p.val k.code rawIn rawOut rawChan) s written []) ∧
    (u.rx.channels[ch].state ≠ .closed → AcceptedWith (.port tag p.val k.code rawIn rawOut rawChan) s
      (State.report (.link ch) { written with rx := { u.rx with channels := u.rx.channels.set ch closed } }) [])

/-- R3: the refusals of PORT in CONFIG, in order. A field that the kind does not use brings about none of them. -/
def Obligations.PortRefusals : Prop :=
  ∀ (s : State) (tag : Byte), s.takesRequests → s.mode = .config →
    ∀ u : State, s.opened = u →
    (∀ n k i o c, 48 ≤ n → RefusedWith (.port tag n k i o c) .badArg s) ∧
    (∀ n k i o c, 5 ≤ k → RefusedWith (.port tag n k i o c) .badArg s) ∧
    (∀ n (k : PortKind) x o c, k ≠ .field → k ≠ .unused → (6 ≤ x / 16 ∨ 8 ≤ x % 16) →
      RefusedWith (.port tag n k.code (some x) o c) .badArg s) ∧
    (∀ n (k : PortKind) i x c, (k = .panel ∨ k = .earpiece) → (6 ≤ x / 16 ∨ 8 ≤ x % 16) →
      RefusedWith (.port tag n k.code i (some x) c) .badArg s) ∧
    (∀ n i o, RefusedWith (.port tag n 3 i o none) .badArg s) ∧
    (∀ n i o x, 8 ≤ x → RefusedWith (.port tag n 3 i o (some x)) .badArg s) ∧
    ∀ (p : PortId) (k : PortKind) (rawIn rawOut rawChan : Option Nat) (i o : Option Slot) (c : Option ChanId),
      k.reads rawIn rawOut rawChan i o c →
      let req : Instr := .port tag p.val k.code rawIn rawOut rawChan
      (u.slotTaken p o → RefusedWith req .badArg s) ∧
      (u.channelTaken p k c → RefusedWith req .badArg s) ∧
      (¬ u.slotTaken p o → ¬ u.channelTaken p k c → u.poolUsedUp p k → RefusedWith req .noSpace s) ∧
      (¬ u.slotTaken p o → ¬ u.channelTaken p k c → ¬ u.poolUsedUp p k → k ≠ u.ports[p].kind → u.named p →
        RefusedWith req .busy s)

/-- R5, R54, R111: TRIM writes the clamped trim and dip depth; an output gain whose target changes restarts from the present gain; a
non-empty interrupt list whose dip depth changes restarts its dip from the present factor and is reported. The refusals first. -/
def Obligations.TrimWritesAndRetargets : Prop :=
  (∀ (s : State) (tag : Byte), s.takesRequests →
    (∀ n trim dip, 48 ≤ n → RefusedWith (.trim tag n trim dip) .badArg s) ∧
    (∀ (p : PortId) trim dip, s.opened.ports[p].kind = .source ∨ s.opened.ports[p].kind = .unused →
      RefusedWith (.trim tag p.val trim dip) .badArg s) ∧
    ∀ (p : PortId) trim d, s.opened.ports[p].kind ≠ .earpiece → RefusedWith (.trim tag p.val trim (some d)) .badArg s) ∧
  ∀ (s : State) (tag : Byte) (p : PortId) (trim : Nat) (dip : Option Nat),
    ∀ u : State, s.opened = u →
    let r := u.ports[p]
    let depth := match dip with
      | some d => some (min d 256)
      | none => r.dipDepth
    s.takesRequests → r.kind.listens → (dip.isSome → r.kind = .earpiece) →
    ∃ t, AcceptedWith (.trim tag p.val trim dip) s t [] ∧
      t.ports = u.ports.set p { r with trim := some (min trim 4096), dipDepth := depth } ∧
      (∀ q : PortId, q ≠ p → t.mix.gains[q] = u.mix.gains[q]) ∧ t.mix.clips = u.mix.clips ∧
      (u.mix.gains[p] = none → t.mix.gains[p] = none) ∧
      (∀ g, u.mix.gains[p] = some g →
        let target := min (min trim 4096) (u.capOf p)
        t.mix.gains[p] = some (if target = g.target then g else ⟨target, g.level, 0⟩)) ∧
      (∀ q : PortId, q ≠ p → t.ears[q] = u.ears[q]) ∧ (dip = none → t.ears = u.ears ∧ t.link = u.link) ∧
      (∀ d e, dip = some d → u.ears[p] = some e →
        let retargeted := e.entries ≠ [] ∧ e.dip.target ≠ min d 256
        (retargeted → t.ears[p] = some { e with dip := ⟨min d 256, e.dip.factor, 0⟩ } ∧
          t.link = u.link.report (.earpiece p)) ∧
        (¬ retargeted → t.ears[p] = some e ∧ t.link = u.link)) ∧
      t.mode = u.mode ∧ t.blockCount = u.blockCount ∧ t.lanes = u.lanes ∧ t.paths = u.paths ∧ t.keys = u.keys ∧
      t.groups = u.groups ∧ t.rx = u.rx ∧ t.tx = u.tx ∧ t.checks = u.checks ∧ t.gov = u.gov ∧ t.routes = u.routes

/-- R94, R6: PRESENCE stores the value. Written AVAILABLE over another value it triggers a service pass in each HUNT group that has
the port as a member and has waiters (R89, R90): the oldest waiter with an eligible member takes the first eligible one in LRU
order, and at the end no waiter of such a group has an eligible member. The refusals. -/
def Obligations.PresenceStoresTheValue : Prop :=
  ∀ (s : State) (tag : Byte), s.takesRequests →
    ∀ u : State, s.opened = u →
    (∀ (p : PortId) (v : Presence), (u.ports[p].kind = .panel ∨ u.ports[p].kind = .earpiece) →
      let stored := { u with ports := u.ports.set p { u.ports[p] with presence := v } }
      (v ≠ .available ∨ u.ports[p].presence = .available ∨
          (∀ g : GroupId, u.servedBy p g → ∀ k ∈ u.groups[g].waiters, ∀ m ∈ u.groups[g].lru, ¬ stored.canTake g k m) →
        AcceptedWith (.presence tag p.val v.code) s stored []) ∧
      ∃ t, AcceptedWith (.presence tag p.val v.code) s t [] ∧ stored.sameRun t ∧
        (∀ g : GroupId, ¬ u.servedBy p g → t.groups[g] = u.groups[g]) ∧
        (v = .available → u.ports[p].presence ≠ .available → stored.served t p)) ∧
    (∀ n v, 48 ≤ n ∨ 3 ≤ v → RefusedWith (.presence tag n v) .badArg s) ∧
    ∀ (p : PortId) v, u.ports[p].kind ≠ .panel → u.ports[p].kind ≠ .earpiece → RefusedWith (.presence tag p.val v) .badArg s

/-! ## Channels, filters, governor -/

/-- R121, R137: CHANNEL with a configuration and with CLOSE. The channel takes the starting values of R120 and is reported if its
state or a flag changed. The refusals. -/
def Obligations.ChannelConfiguresAndCloses : Prop :=
  ∀ (s : State) (tag : Byte) (c : ChanId), s.takesRequests → s.mode = .config →
    ∀ u : State, s.opened = u →
    let closed : Machine.Channel :=
      ⟨.closed, none, none, Vector.replicate 32 none, Vector.replicate 48 0, 0, 0, false, false, 0, 0, none, none⟩
    let old := u.rx.channels[c]
    (∀ (linkId : LinkId) (prime maxDelay : Option Nat) (k : Option KeyId), u.bound c →
      let r : Machine.Channel :=
        { state := .waiting,
          config := some ⟨linkId, max 2 (min 24 (prime.getD 6)), max 1 (min 500 (maxDelay.getD 250)), k⟩,
          nextSeq := none, ring := Vector.replicate 32 none, prevYield := Vector.replicate 48 0, conceal := 0, quality := 0,
          degraded := false, excess := false, run := 0, idle := 0, lastCue := none, held := none }
      let t := { u with rx := { u.rx with channels := u.rx.channels.set c r } }
      AcceptedWith (.channel tag c.val 1 linkId prime maxDelay (k.map Fin.val)) s
        (if old.state = .waiting ∧ old.degraded = false ∧ old.excess = false then t else t.report (.link c)) []) ∧
    AcceptedWith (.channelClose tag c.val) s
      (if old.state = .closed then u else
        State.report (.link c) { u with rx := { u.rx with channels := u.rx.channels.set c closed } }) [] ∧
    (∀ linkId prime maxDelay k, exec (.channel tag c.val 0 linkId prime maxDelay k) s = exec (.channelClose tag c.val) s) ∧
    (∀ n, 8 ≤ n → RefusedWith (.channelClose tag n) .badArg s) ∧
    (∀ n linkId prime maxDelay k, 8 ≤ n → RefusedWith (.channel tag n 1 linkId prime maxDelay k) .badArg s) ∧
    (∀ n op linkId prime maxDelay k, 2 ≤ op → RefusedWith (.channel tag n op linkId prime maxDelay k) .badArg s) ∧
    (∀ n linkId prime maxDelay k, 256 ≤ k → RefusedWith (.channel tag n 1 linkId prime maxDelay (some k)) .badArg s) ∧
    ∀ linkId prime maxDelay (k : Option KeyId), ¬ u.bound c →
      RefusedWith (.channel tag c.val 1 linkId prime maxDelay (k.map Fin.val)) .notFound s

/-- R119: FILTER writes all four fields of one filter; its refusals. -/
def Obligations.FilterWritesOneFilter : Prop :=
  ∀ (s : State) (tag : Byte) (value mask : LinkId), s.takesRequests → s.mode = .config →
    ∀ u : State, s.opened = u →
    (∀ (f : FilterId) (e : Bool) (c : ChanId),
      AcceptedWith (.filter tag f.val (if e then 1 else 0) value mask c.val) s
        { u with rx := { u.rx with filters := u.rx.filters.set f ⟨e, value, mask, c⟩ } } []) ∧
    ∀ f e c, 16 ≤ f ∨ 2 ≤ e ∨ 8 ≤ c → RefusedWith (.filter tag f e value mask c) .badArg s

/-- R154, R179: GOVERNOR clamps, takes defaults, orders the thresholds and the caps, writes the whole configuration and replies with
it; its refusal. -/
def Obligations.GovernorWritesTheConfiguration : Prop :=
  ∀ (s : State) (tag : Byte) (tLow tMid cap1 cap2 limit : Option Nat), s.takesRequests → s.mode = .config →
    ∀ u : State, s.opened = u →
    (∀ m : GovMode,
      let low := min 1073741824 (tLow.getD 2097152)
      let mid := max low (min 1073741824 (tMid.getD 4194304))
      let c1 := min 4096 (cap1.getD 2896)
      let c2 := min c1 (min 4096 (cap2.getD 2048))
      let a := max 1 (min 255 (limit.getD 12))
      AcceptedWith (.governor tag m.code tLow tMid cap1 cap2 limit) s
        { u with gov := { u.gov with config := ⟨m, low, mid, c1, c2, a⟩ } }
        [.u8 m.code, .u32 low, .u32 mid, .u16 c1, .u16 c2, .u16 a]) ∧
    ∀ m, 3 ≤ m → RefusedWith (.governor tag m tLow tMid cap1 cap2 limit) .badArg s

/-! ## Keys and groups -/

/-- R61: KEY with a target writes the definition and leaves the rest of the record and of the state. -/
def Obligations.KeyDefinesAKey : Prop :=
  ∀ (s : State) (tag : Byte) (k : KeyId) (o : PortId) (target : Target) (level priority : Option Nat) (m : Option KeyMode),
    ∀ u : State, s.opened = u →
    s.takesRequests → (s.mode = .config ∨ u.keys[k].activation = .idle) → u.ports[o].kind.listens →
    (∀ p, target = .port p → p ≠ o ∧ u.ports[p].kind.listens) →
    AcceptedWith (.key tag k.val o.val target.typeCode target.number level priority (m.map KeyMode.code)) s
      { u with keys := u.keys.set k { u.keys[k] with
        owner := some o, target := some target, level := min 8192 (level.getD 4096), priority := min 7 (priority.getD 0)
        mode := m.getD .momentary } } []

/-- R61: the refusals of KEY with a target, in order. R61's first check names no target type: that a type of 4 or more is refused
BAD_ARG with that check, ahead of BUSY, is the model's reading (log 30). -/
def Obligations.KeyRefusals : Prop :=
  ∀ (s : State) (tag : Byte) (level priority : Option Nat), s.takesRequests →
    ∀ u : State, s.opened = u →
    (∀ n o ty tn m, 0 < ty → 256 ≤ n ∨ 48 ≤ o ∨ 4 ≤ ty ∨ (ty = 1 ∧ 48 ≤ tn) ∨ (ty = 2 ∧ 8 ≤ tn) ∨ (ty = 3 ∧ 32 ≤ tn) ∨
        (∃ x, m = some x ∧ 3 ≤ x) →
      RefusedWith (.key tag n o ty tn level priority m) .badArg s) ∧
    ∀ (k : KeyId) (o : PortId) (target : Target) (m : Option KeyMode),
      let req : Instr := .key tag k.val o.val target.typeCode target.number level priority (m.map KeyMode.code)
      let busy := s.mode = .run ∧ u.keys[k].activation ≠ .idle
      (busy → RefusedWith req .busy s) ∧
      (¬ busy → ¬ u.ports[o].kind.listens → RefusedWith req .badArg s) ∧
      ∀ p, target = .port p → ¬ busy → p = o ∨ ¬ u.ports[p].kind.listens → RefusedWith req .badArg s

/-- R62: KEY without a target returns the record to the values of R60; its refusals, in order. A KEY body whose target type is none is
the same request. A key that is undefined and that a channel names is refused BUSY: R62 says both BUSY and OK of it, and BUSY is
the model's reading (log 43). -/
def Obligations.KeyRemoveUndefinesAKey : Prop :=
  ∀ (s : State) (tag : Byte), s.takesRequests →
    ∀ u : State, s.opened = u →
    (∀ n, 256 ≤ n → RefusedWith (.keyRemove tag n) .badArg s) ∧
    (∀ k : KeyId, s.mode = .run ∧ u.keys[k].activation ≠ .idle ∨ u.callKeyNamed k →
      RefusedWith (.keyRemove tag k.val) .busy s) ∧
    (∀ k : KeyId, ¬(s.mode = .run ∧ u.keys[k].activation ≠ .idle) → ¬ u.callKeyNamed k →
      AcceptedWith (.keyRemove tag k.val) s
        { u with keys := u.keys.set k ⟨none, none, 4096, 0, .momentary, .idle, none, false, [], none⟩ } []) ∧
    ∀ n o tn level priority m, exec (.key tag n o 0 tn level priority m) s = exec (.keyRemove tag n) s

/-- R82, R81: GROUP writes the record, its LRU order the member order, or empties it; its refusals, in order. -/
def Obligations.GroupWritesTheRecord : Prop :=
  ∀ (s : State) (tag : Byte) (timeout : Option Nat), s.takesRequests →
    ∀ u : State, s.opened = u →
    let busy (g : GroupId) := s.mode = .run ∧
      ((∃ m ∈ u.groups[g].members, m.engagedBy.isSome) ∨ u.groups[g].waiters ≠ [])
    (∀ (g : GroupId) (m : GroupMode) (ps : List PortId), ps.length ≤ 8 → ¬ busy g → ps.Nodup →
      (∀ p ∈ ps, u.ports[p].kind.listens) →
      AcceptedWith (.group tag g.val m.code timeout (ps.map Fin.val)) s
        { u with groups := u.groups.set g (if ps = [] then ⟨.all, [], [], [], 10000⟩ else
          ⟨m, ps.map (fun p => ⟨p, none⟩), ps, [], max 100 (min 60000 (timeout.getD 10000))⟩) } []) ∧
    (∀ n m ms, 32 ≤ n ∨ 2 ≤ m ∨ 8 < ms.length ∨ (∃ p ∈ ms, 48 ≤ p) → RefusedWith (.group tag n m timeout ms) .badArg s) ∧
    ∀ (g : GroupId) (m : GroupMode) (ps : List PortId), ps.length ≤ 8 →
      let req : Instr := .group tag g.val m.code timeout (ps.map Fin.val)
      (busy g → RefusedWith req .busy s) ∧
      (¬ busy g → ¬ ps.Nodup ∨ (∃ p ∈ ps, ¬ u.ports[p].kind.listens) → RefusedWith req .badArg s)

/-- R64 to R66: PRESS and RELEASE of a defined key that is not link-owned, in RUN. The activation state moves by the table of the key's
mode, every other key keeps its own, and the reply gives the states that the key ends in, its KEY notice first (R67); without a
transition nothing changes. A transition that withdraws the key takes it back from everything its delivery touched (R76,
State.withdrawnThen): its delivery list is empty, it stands in no queue and engages no member of its group (R91), and it holds none of
its paths. In the state that the withdrawal leaves (State.takesBack) a path it alone held closes from its present level (R28) and another
is retargeted to its other holders (R27); the path of a departing head is suspended where held-back entries still hold it, ROUTE leaves
it open, and one shared with the new head stays (R105, R31). Its interrupt list entry is gone and reported (R113); the new head is LIVE
and reported, and its path is resumed to its holders' largest level from its present one (R32), an opening where it was silent (R35,
R158). That EARPIECE goes ahead of the new head's KEY notice is the model's reading (log 15). Every path but the key's own and the new
heads' is as it was. From that state the groups run their service passes that have a member freed by it and waiters (R89 to R91). The
refusals first. -/
def Obligations.PressAndReleaseFollowTheMode : Prop :=
  (∀ (s : State) (tag : Byte), s.takesRequests → s.mode = .run →
    (∀ n, 256 ≤ n → RefusedWith (.press tag n) .badArg s ∧ RefusedWith (.release tag n) .badArg s) ∧
    ∀ k : KeyId, s.opened.keys[k].target = none ∨ s.opened.callKeyNamed k →
      RefusedWith (.press tag k.val) .badArg s ∧ RefusedWith (.release tag k.val) .badArg s) ∧
  ∀ (s : State) (tag : Byte) (k : KeyId) (press : Bool),
    ∀ u : State, s.opened = u →
    let r := u.keys[k]
    let req : Instr := if press then .press tag k.val else .release tag k.val
    let quick := ∃ b, r.pressBlock = some b ∧ (u.blockCount - b).toNat < 300
    let moves (t : State) (a : Activation) := AcceptedWith req s t [.u8 a.code, .u8 t.keys[k].delivery.code] ∧
      t.keys[k].activation = a ∧
      (∀ j : KeyId, j ≠ k → t.keys[j].activation = u.keys[j].activation ∧ t.keys[j].pressBlock = u.keys[j].pressBlock) ∧
      t.keys[k].pressBlock = (if r.mode = .smart ∧ a = .held then some u.blockCount else none) ∧
      (∃ later, t.link.notices = (u.link.report (.key k)).notices ++ later) ∧
      t.ports = u.ports ∧ t.mode = u.mode ∧ t.blockCount = u.blockCount ∧ t.rx = u.rx ∧ t.tx = u.tx ∧
      t.checks = u.checks ∧ t.routes = u.routes ∧ t.mix = u.mix ∧ t.lanes = u.lanes
    -- a transition that delivers, and one that leaves the delivery alone
    let goes (a : Activation) := ∃ t, moves t a
    let turns (a : Activation) := AcceptedWith req s
      (State.report (.key k) { u with keys := u.keys.set k { r with activation := a, pressBlock := none } })
      [.u8 a.code, .u8 r.delivery.code]
    -- a transition that withdraws, where the key waits in no group but the one it aims at
    let ownQueue := ∀ g : GroupId, k ∈ u.groups[g].waiters → r.target = some (.group g) ∧ r.deadline.isSome
    let leaves (a : Activation) := ∃ t, moves t a ∧ (ownQueue → (State.report (.key k) u).withdrawnThen t k (fun w => w))
    s.takesRequests → s.mode = .run → r.target.isSome → ¬ u.callKeyNamed k →
    match press, r.mode, r.activation with
    | true, .momentary, .idle => goes .held
    | true, .latch, .idle => goes .latched
    | true, .latch, .latched => leaves .idle
    | true, .smart, .idle => goes .held
    | true, .smart, .latched => leaves .unlatching
    | false, .momentary, .held => leaves .idle
    | false, .smart, .held => (quick → turns .latched) ∧ (¬ quick → leaves .idle)
    | false, .smart, .unlatching => turns .idle
    | _, _, a => AcceptedWith req s u [.u8 a.code, .u8 r.delivery.code]

/-- R24 to R26, R35, R69, R70, R73, R78: pressing an idle key of any mode aimed at a PANEL or FIELD port or a bus. Its path is created
in the lowest empty position with e0 = 0 and i = 0; a closing record opens again for the key alone, from its present level; any
other record takes the key among its holders. The delivery is LIVE, and an opening into a PANEL port is counted by a governor that is
not OFF. With neither a record nor room it is DENIED (NO_SPACE) and no path changes. A KEY notice is queued. -/
def Obligations.PressOpensAPath : Prop :=
  ∀ (s : State) (tag : Byte) (k : KeyId) (o : PortId) (d : Endpoint),
    ∀ u : State, s.opened = u →
    let r := u.keys[k]
    let id : PathId := ⟨.port o, d, .talk⟩
    let a : Activation := if r.mode = .latch then .latched else .held
    let pressed (st : EntryStatus) := u.keys.set k { r with
      activation := a, pressBlock := if r.mode = .smart then some u.blockCount else none, delivered := true,
      entries := [⟨some d, st⟩] }
    -- the delivery is LIVE: the paths and the governor that it leaves, and nothing else
    let live (ps : List Path) (g : Governor) := AcceptedWith (.press tag k.val) s
      { u with keys := pressed .live, paths := ps, gov := g, link := u.link.report (.key k) } [.u8 a.code, .u8 1]
    s.takesRequests → s.mode = .run → ¬ u.callKeyNamed k → r.activation = .idle → r.owner = some o → r.deadline = none →
    (r.target = some (match d with | .port p => .port p | .bus b => .bus b)) →
    (∀ p, d = .port p → u.ports[p].kind ≠ .earpiece) →
    ((∀ q ∈ u.paths, q.ident ≠ id) →
      (u.paths.length < 512 → (u.paths.filter fun q => q.ident.dst = d).length < 32 →
        ∃ ps q, live ps (u.counted d 0 r.level) ∧
          q ∈ ps ∧ q.ident = id ∧ q.keys = [k] ∧ q.route = false ∧ q.target = r.level ∧ q.start = 0 ∧ q.index = 0 ∧
          q.suspended = false ∧ q.closing = false ∧ (ps.filter fun x => x.ident ≠ id) = u.paths ∧
          (u.paths.Pairwise (fun a b => a.pos < b.pos) →
            (∀ x ∈ u.paths, x.pos ≠ q.pos) ∧ ∀ n, n < q.pos → ∃ x ∈ u.paths, x.pos = n)) ∧
      (512 ≤ u.paths.length ∨ 32 ≤ (u.paths.filter fun q => q.ident.dst = d).length →
        AcceptedWith (.press tag k.val) s (State.report (.key k) { u with keys := pressed (.denied .noSpace) })
          [.u8 a.code, .u8 5])) ∧
    ∀ q ∈ u.paths, q.ident = id → (∀ x ∈ u.paths, x.ident = id → x = q) →
      let with' (q' : Path) := u.paths.map fun x : Path => if x.ident = id then q' else x
      (q.closing = true →
        live (with' (Path.retargeted { q with keys := [k], route := false, closing := false, suspended := false, spent := false }
          r.level)) (u.counted d q.target r.level)) ∧
      (q.closing = false →
        let level := if q.suspended then 0 else max r.level (u.loudest id q.keys q.route)
        ∃ ks : List KeyId, (∀ j : KeyId, j ∈ ks ↔ j = k ∨ j ∈ q.keys) ∧
          live (with' (Path.retargeted { q with keys := ks } level)) (u.counted d q.target level))

/-- R73: the delivery state. -/
def Obligations.DeliveryStateIsDerived : Prop :=
  ∀ r : KeyRecord,
    (r.delivered = false → r.delivery = .none) ∧
    (r.delivered = true → r.deadline.isSome → r.delivery = .waiting) ∧
    (r.delivered = true → r.deadline = none →
      (r.entries = [] → r.delivery = .denied) ∧
      (r.entries ≠ [] → (∀ e ∈ r.entries, e.status = .live) → r.delivery = .live) ∧
      (r.entries ≠ [] → (∀ e ∈ r.entries, e.status = .heldBack) → r.delivery = .heldBack) ∧
      (r.entries ≠ [] → (∀ e ∈ r.entries, ∃ why, e.status = .denied why) → r.delivery = .denied) ∧
      (∀ e ∈ r.entries, ∀ f ∈ r.entries, e.status.code ≠ f.status.code → r.delivery = .partly))

/-! ## Routes -/

/-- R167: ROUTE_ADD, its checks in order; a route of the same identity is updated in its place, another joins the tail. -/
def Obligations.RouteAddEditsTheStandbySet : Prop :=
  ∀ (s : State) (tag : Byte) (level : Option Nat), s.takesRequests →
    ∀ u : State, s.opened = u →
    let old := u.routes.standby
    let n := min 8192 (level.getD 4096)
    (∀ a d c, (48 ≤ a ∧ a < 128 ∨ 136 ≤ a) ∨ (48 ≤ d ∧ d < 128 ∨ 136 ≤ d) ∨ 2 ≤ c →
      RefusedWith (.routeAdd tag a d c level) .badArg s) ∧
    ∀ id : PathId,
      let req : Instr := .routeAdd tag id.src.code id.dst.code id.cls.code level
      let present := ∃ r ∈ old, r.ident = id
      let full := 256 ≤ old.length ∨ 32 ≤ (old.filter fun r : Route => decide (r.ident.dst = id.dst)).length
      (u.routes.swapPending = true → RefusedWith req .busy s) ∧
      (u.routes.swapPending = false → ¬ u.legalShape id → RefusedWith req .badArg s) ∧
      (u.routes.swapPending = false → u.legalShape id → ¬ present → full → RefusedWith req .noSpace s) ∧
      (u.routes.swapPending = false → u.legalShape id → ¬ present → ¬ full →
        AcceptedWith req s { u with routes := { u.routes with standby := old ++ [⟨id, n⟩] } } []) ∧
      (u.routes.swapPending = false → u.legalShape id → present →
        AcceptedWith req s { u with routes := { u.routes with
          standby := old.map fun r : Route => if r.ident = id then { r with level := n } else r } } [])

/-- R168: ROUTE_DROP and ROUTE_COPY, their checks in order. -/
def Obligations.RouteDropAndRouteCopyEditTheStandbySet : Prop :=
  ∀ (s : State) (tag : Byte), s.takesRequests →
    ∀ u : State, s.opened = u →
    let old := u.routes.standby
    (∀ a d c, (48 ≤ a ∧ a < 128 ∨ 136 ≤ a) ∨ (48 ≤ d ∧ d < 128 ∨ 136 ≤ d) ∨ 2 ≤ c →
      RefusedWith (.routeDrop tag a d c) .badArg s) ∧
    (∀ id : PathId,
      let req : Instr := .routeDrop tag id.src.code id.dst.code id.cls.code
      (u.routes.swapPending = true → RefusedWith req .busy s) ∧
      (u.routes.swapPending = false → (∀ r ∈ old, r.ident ≠ id) → RefusedWith req .notFound s) ∧
      (u.routes.swapPending = false → (∃ r ∈ old, r.ident = id) →
        AcceptedWith req s { u with routes := { u.routes with
          standby := old.filter fun r : Route => decide (r.ident ≠ id) } } [])) ∧
    (u.routes.swapPending = true → RefusedWith (.routeCopy tag) .busy s) ∧
    (u.routes.swapPending = false →
      AcceptedWith (.routeCopy tag) s { u with routes := { u.routes with standby := u.routes.active } } [])

/-- R169: SWAP exchanges the sets at once in CONFIG; in RUN it waits for its judgement. -/
def Obligations.SwapExchangesOrWaits : Prop :=
  ∀ (s : State) (tag : Byte), s.takesRequests →
    ∀ u : State, s.opened = u →
    (s.mode = .config → AcceptedWith (.swap tag) s
      { u with routes := { u.routes with active := u.routes.standby, standby := u.routes.active } } []) ∧
    (s.mode = .run → u.routes.swapPending = false → AcceptedWith (.swap tag) s
      { u with routes := { u.routes with swapPending := true } } []) ∧
    (s.mode = .run → u.routes.swapPending = true → RefusedWith (.swap tag) .busy s)

/-- R27 to R29, R107, R170, R171, R174: a judgement that is due. A limit exceeded leaves both sets and every path and is reported
FAILED, TABLE before the first DESTINATION; otherwise the sets exchange roles, each incoming route's path is held by ROUTE, no path of a
route that has left the active set is, and DONE is reported last. A route of both sets gives its path its new level (R29); one that
enters the active set creates its path, opens a closing one again for ROUTE alone or joins its holders, with the target that its level
gives (R24 to R26, R34). A path that loses ROUTE closes without another holder (R28), falls to the level of the others (R27), or is
suspended where it is a TALK path into an earpiece and none of its keys is the head there (R107). A path that is in neither set stands
as it was. Each target that rises from 0 is an opening into its port (R35, R158). A window end due at the same boundary is taken first
(log 13). -/
def Obligations.SwapIsJudged : Prop :=
  (∀ s : State, s.rstnLow = false → s.routes.judgementDue = true → s.gov.windowDue = true →
    ∃ w, exec .windowEnd s = .next w ∧ w.rstnLow = false ∧ w.gov.windowDue = false ∧ w.routes = s.routes ∧ w.paths = s.paths ∧
      exec .swapJudgement s = exec .swapJudgement w) ∧
  ∀ s : State, s.rstnLow = false → s.routes.judgementDue = true → s.gov.windowDue = false →
    let incoming := s.routes.standby
    let outgoing := s.routes.active
    let creations := incoming.filter fun r : Route => decide (∀ p ∈ s.paths, p.ident ≠ r.ident)
    let tableFull := 512 < creations.length + s.paths.length
    let full (d : Endpoint) := 32 < (creations.filter fun r : Route => decide (r.ident.dst = d)).length +
      (s.paths.filter fun p : Path => decide (p.ident.dst = d)).length
    let cleared := { s with routes := { s.routes with swapPending := false, judgementDue := false } }
    let failed (l : SwapLimit) := cleared.report (.swap .failed s.blockCount incoming.length (some creations.length) (some l))
    (tableFull → exec .swapJudgement s = .next (failed .table)) ∧
    (¬ tableFull → ∀ d : Endpoint, full d → (∀ e : Endpoint, e.code < d.code → ¬ full e) →
      exec .swapJudgement s = .next (failed (.destination d))) ∧
    (¬ tableFull → (∀ d, ¬ full d) → ∃ t, exec .swapJudgement s = .next t ∧
      t.routes = ⟨incoming, outgoing, false, false⟩ ∧
      (∀ r ∈ incoming, (∀ o ∈ outgoing, o.ident ≠ r.ident) → ∃ p ∈ t.paths, p.ident = r.ident ∧ p.route = true ∧
        p.closing = false ∧ p.suspended = false) ∧
      ((incoming.map Route.ident).Nodup → ∀ r ∈ incoming, (∀ o ∈ outgoing, o.ident ≠ r.ident) →
        ((∀ p ∈ s.paths, p.ident ≠ r.ident) → ∃ p ∈ t.paths, p.ident = r.ident ∧ p.keys = [] ∧ p.route = true ∧
          p.target = r.level ∧ p.start = 0 ∧ p.index = 0 ∧ p.level = 0 ∧ p.suspended = false ∧ p.closing = false) ∧
        ∀ p ∈ s.paths, p.ident = r.ident → (∀ x ∈ s.paths, x.ident = r.ident → x = p) →
          let ks := if p.closing = true then [] else p.keys
          let held := { p with keys := ks, route := true, suspended := false, closing := false,
                               spent := if p.closing = true then false else p.spent }
          held.retargeted (max (s.loudest r.ident ks false) r.level) ∈ t.paths) ∧
      (∀ p ∈ s.paths, (∀ r ∈ incoming ++ outgoing, r.ident ≠ p.ident) → p ∈ t.paths) ∧
      ((incoming.map Route.ident).Nodup → (outgoing.map Route.ident).Nodup →
        ∀ r ∈ incoming, ∀ o ∈ outgoing, o.ident = r.ident → ∀ p ∈ s.paths, p.ident = r.ident →
          (∀ x ∈ s.paths, x.ident = r.ident → x = p) → p.route = true →
          (if o.level = r.level then p else p.retargeted (if p.suspended = true ∨ p.closing = true then 0 else
            max (s.loudest r.ident p.keys false) r.level)) ∈ t.paths) ∧
      (∀ o ∈ outgoing, (∀ r ∈ incoming, r.ident ≠ o.ident) → ∀ p ∈ s.paths, p.ident = o.ident →
        (∀ x ∈ s.paths, x.ident = o.ident → x = p) → p.route = true →
        let behind := ∃ (d : PortId) (e : Ear), o.ident.dst = .port d ∧ s.ears[d] = some e ∧
          ∀ h, e.entries.head? = some h → h.key ∉ p.keys
        ∃ p' ∈ t.paths, p'.ident = p.ident ∧ p'.pos = p.pos ∧ p'.keys = p.keys ∧ p'.route = false ∧ p'.level = p.level ∧
          (p.keys = [] → p'.closing = true ∧ p'.suspended = false ∧ p'.target = 0) ∧
          (p.keys ≠ [] → p.closing = false → o.ident.cls = .talk → p'.closing = false ∧
            (behind → p'.suspended = true ∧ p'.target = 0) ∧
            (¬ behind → p'.suspended = p.suspended ∧
              p'.target = if p.suspended then 0 else s.loudest o.ident p.keys false))) ∧
      (∀ o ∈ outgoing, (∀ r ∈ incoming, r.ident ≠ o.ident) → ∀ p ∈ t.paths, p.ident = o.ident → p.route = false) ∧
      (s.mode = .run → s.aimed → s.paths.Pairwise (fun a b => a.ident ≠ b.ident) →
        (incoming.map Route.ident).Nodup → (outgoing.map Route.ident).Nodup →
        t.gov.config = s.gov.config ∧ t.gov.windowDue = false ∧ ∀ p : PortId, t.gov.records[p] = s.withOpenings p
          (incoming.filter fun r : Route => decide (r.ident.dst = .port p ∧ (∀ q ∈ s.paths, q.ident = r.ident → q.target = 0) ∧
            ∃ q ∈ t.paths, q.ident = r.ident ∧ 0 < q.target)).length) ∧
      t.link = s.link.report (.swap .done s.blockCount incoming.length (some creations.length) none) ∧
      t.mode = s.mode ∧ t.blockCount = s.blockCount ∧ t.ports = s.ports ∧ t.rx = s.rx ∧ t.tx = s.tx ∧ t.groups = s.groups ∧
      t.checks = s.checks ∧ t.mix = s.mix ∧ t.lanes = s.lanes ∧ t.keys = s.keys ∧ t.ears = s.ears)

/-! ## Notices -/

/-- R184, R185: NOTIFY writes the mask; RESYNC empties the notice queue and clears OVERFLOW. -/
def Obligations.NotifyAndResync : Prop :=
  ∀ (s : State) (tag mask : Byte), s.takesRequests →
    ∀ u : State, s.opened = u →
    AcceptedWith (.notify tag mask) s { u with link := { u.link with mask := mask } } [] ∧
    AcceptedWith (.resync tag) s { u with link := { u.link with notices := [], overflow := false } } []

/-- R183 to R186: a change or an event reported to the notice queue. -/
def Obligations.ReportsJoinTheNoticeQueue : Prop :=
  ∀ (l : ControlLink) (n : Notice),
    let sending := ∃ r, l.reading = some r ∧ r.source = .notice ∧ l.notices.head? = some n
    (l.mask.getLsbD n.kindCode = false → l.report n = l) ∧
    (l.mask.getLsbD n.kindCode = true →
      (n.isStateKind = true → n ∈ l.notices → ¬ sending → l.report n = l) ∧
      (n.isStateKind = true → sending →
        l.report n = { l with reading := l.reading.map fun r => { r with marked := true } }) ∧
      (n.isStateKind = false ∨ n ∉ l.notices →
        l.report n = if l.notices.length < 64 then { l with notices := l.notices ++ [n] } else { l with overflow := true }))

/-- R177 and 11.8.1: the status byte. -/
def Obligations.StatusByteCarriesTheFlags : Prop :=
  ∀ s : State,
    s.statusByte.getLsbD 7 = s.link.fresh ∧ s.statusByte.getLsbD 6 = s.routes.swapPending ∧
    s.statusByte.getLsbD 5 = s.lanes.clockPresent ∧ (s.statusByte.getLsbD 4 = true ↔ s.mode = .run) ∧
    s.statusByte.getLsbD 3 = s.link.writeRefused ∧ s.statusByte.getLsbD 2 = s.link.overflow ∧
    (s.statusByte.getLsbD 1 = true ↔ s.link.notices ≠ []) ∧ (s.statusByte.getLsbD 0 = true ↔ s.link.replies ≠ []) ∧
    (s.attn = true ↔ s.rstnLow = false ∧ (s.statusByte.getLsbD 0 = true ∨ s.statusByte.getLsbD 1 = true))

/-- R176, R177, R186, R189, R78, R113, R134, R137, R153, R162, R174: a READ transaction takes the oldest reply, else the oldest notice,
with what its body holds (State.tells; the choices of log 19, log 21 and log 48), else an empty frame, sends it after the status byte
and then zero bytes, and clears WRITE_REFUSED; a WRITE, and a transaction of any other type, sends zero bytes after its status byte. At
its end a frame sent whole leaves its queue, and a marked notice joins the tail again. The model's choices: that a transaction of
another type begins by a form of this command of its own (log 40), that a READ still in progress has ended early when a transaction
begins (log 6), that its end says whether the frame went out whole (log 7), and when the status byte is taken (log 8). -/
def Obligations.ReadTransactionSendsOneEntry : Prop :=
  ∀ s : State, s.rstnLow = false →
    ∀ v : State, s.settle = v →
    let chosen : Reading :=
      match v.link.replies, v.link.notices with
      | r :: _, _ => ⟨.reply, outbound 1 [r.kind.toNat, r.tag.toNat, r.status.code] r.body, false⟩
      | [], n :: _ => ⟨.notice, outbound 2 [(v.tells n).1] (v.tells n).2, false⟩
      | [], [] => ⟨.empty, [0, 0], false⟩
    (∃ t, exec .readTransaction s = .next t ∧
      t = { v with link := { v.link with
        reading := some chosen, writing := false, statusOut := v.statusByte, writeRefused := false } } ∧
      t.sdo 0 = some v.statusByte ∧ ∀ n, t.sdo (n + 1) = some (chosen.frame.getD n 0)) ∧
    (∀ type, type ≠ 0xC3 → ∃ t, exec (.otherTransaction type) s = .next t ∧
      t = { v with link := { v.link with
        reading := none, writing := decide (type = 0x3C), statusOut := v.statusByte } } ∧
      t.sdo 0 = some v.statusByte ∧ ∀ n, t.sdo (n + 1) = some 0) ∧
    exec (.otherTransaction 0xC3) s = exec .readTransaction s ∧
    (∀ complete, v.link.reading = none → exec (.readTransactionEnd complete) s =
      .next { v with link := { v.link with writing := false } }) ∧
    ∀ r, v.link.reading = some r →
      let ended := { v.link with reading := none, writing := false }
      exec (.readTransactionEnd false) s = .next { v with link := ended } ∧
      exec (.readTransactionEnd true) s = .next { v with link :=
        match r.source with
        | .reply => { ended with replies := v.link.replies.tail }
        | .notice => { ended with
            notices := v.link.notices.tail ++ if r.marked then v.link.notices.head?.toList else [] }
        | .empty => ended }

/-! ## Cues and checks -/

/-- R143: CUE_SEND, its checks in order. -/
def Obligations.CueSendJoinsTheQueue : Prop :=
  ∀ (s : State) (tag : Byte), s.takesRequests → s.mode = .run →
    ∀ u : State, s.opened = u →
    (∀ n code, 8 ≤ n ∨ 256 ≤ code → RefusedWith (.cueSend tag n code) .badArg s) ∧
    ∀ (c : ChanId) (code : Byte),
      let req : Instr := .cueSend tag c.val code.toNat
      (u.rx.channels[c].state = .closed → RefusedWith req .notFound s) ∧
      (u.rx.channels[c].state ≠ .closed → 8 ≤ u.tx.cues.length → RefusedWith req .noSpace s) ∧
      (u.rx.channels[c].state ≠ .closed → u.tx.cues.length < 8 →
        AcceptedWith req s { u with tx := { u.tx with cues := u.tx.cues ++ [⟨c, code, false⟩] } } [])

/-- R147: CHECK_START, its checks in order, and the record that it sets up. -/
def Obligations.CheckStartSetsUpTheRecord : Prop :=
  ∀ (s : State) (tag : Byte) (duration : Option Nat), s.takesRequests → s.mode = .run →
    ∀ u : State, s.opened = u →
    (∀ n f, 8 ≤ n ∨ (∃ x, f = some x ∧ 2 ≤ x) → RefusedWith (.checkStart tag n duration f) .badArg s) ∧
    ∀ (c : ChanId) (f : Option ForwardOption),
      let req : Instr := .checkStart tag c.val duration (f.map ForwardOption.code)
      let setUp : Check :=
        ⟨.running, u.blockCount, max 100 (min 10000 (duration.getD 2000)), f.getD .silent, 0, 0, 0, none, none, none, []⟩
      let live := u.rx.channels[c].state = .priming ∨ u.rx.channels[c].state = .running
      (u.checks[c].state = .running → RefusedWith req .busy s) ∧
      (u.checks[c].state ≠ .running → ¬ live → RefusedWith req .wrongMode s) ∧
      (u.checks[c].state ≠ .running → live →
        AcceptedWith req s { u with checks := u.checks.set c setUp } [])

/-- R152, R153: CHECK_STOP ends a running check STOPPED, with its CHECK notice; the reply carries the check state. -/
def Obligations.CheckStopEndsTheCheck : Prop :=
  ∀ (s : State) (tag : Byte), s.takesRequests → s.mode = .run →
    ∀ u : State, s.opened = u →
    (∀ n, 8 ≤ n → RefusedWith (.checkStop tag n) .badArg s) ∧
    ∀ c : ChanId,
      let k := u.checks[c]
      (k.state ≠ .running → AcceptedWith (.checkStop tag c.val) s u [.u8 k.state.code]) ∧
      (k.state = .running → AcceptedWith (.checkStop tag c.val) s
        (State.report (.check ⟨c, .stopped, none, k.duration, k.startBlock, k.sent, k.matched, k.mismatched, k.lastDelay,
            k.maxDelay, u.blockCount⟩)
          { u with checks := u.checks.set c { k with state := .stopped, reason := none } })
        [.u8 4])

/-- R151, R153: a check whose last pattern block has been recorded completes; its verdict, its CHECK notice and the channel's
excess-delay flag. The model's choices: CHECK goes ahead of the LINK notice, which R153 does not say (log 16); the end block is the
count of the event that made the completion due (log 12); where it is not due the command has no effect (log 38). -/
def Obligations.CheckCompletes : Prop :=
  ∀ (s : State) (c : ChanId) (g : ChannelConfig), s.rstnLow = false →
    let k := s.checks[c]
    let r := s.rx.channels[c]
    let excess := match k.maxDelay with
      | some d => decide (g.maxDelay < d)
      | none => false
    let reason : Option CheckReason :=
      if k.matched = 0 then some .noReturn
      else if k.sent < k.mismatched * 64 then some .errors
      else if excess then some .delay
      else none
    let ended : Check := { k with state := if reason.isNone then .passed else .failed, reason := reason }
    r.config = some g →
    (k.state ≠ .running ∨ k.sent < k.duration → exec (.checkCompletion c) s = .next s) ∧
    (k.state = .running → k.duration ≤ k.sent →
      let told := s.link.report (.check ⟨c, ended.state, reason, k.duration, k.startBlock, k.sent, k.matched, k.mismatched,
        k.lastDelay, k.maxDelay, s.eventBlock⟩)
      exec (.checkCompletion c) s = .next { s with
        checks := s.checks.set c ended
        rx := { s.rx with channels := s.rx.channels.set c { r with excess := excess } }
        link := if excess = r.excess then told else told.report (.link c) })

/-! ## Queries -/

/-- R182, R39, R79, R97, R114, R138, R153, R164, R175: every query of an object in range is answered with the block count and what its
rule lists, field by field, and nothing else has changed; the refusals. The model's choices: the widths (log 19), the destination
in QUERY_PATHS (log 20), the fields that carry absence (log 21), the clip count before the window's first block (log 27), the
layout of QUERY_GROUP (log 35, log 39) and of QUERY_KEY (log 44), the offsets in ascending order (log 35), the check record at the
end of QUERY_CHANNEL (log 46), no presence byte for the last-window clip count (log 48). -/
def Obligations.QueriesReportAndChangeNothing : Prop :=
  ∀ (s : State) (tag : Byte), s.takesRequests →
    ∀ u : State, s.opened = u →
    let now : Field := .u32 u.blockCount.toNat
    let list {α : Type} (f : α → List Field) (xs : List α) : List Field := .u8 xs.length :: xs.flatMap f
    let talkers (e : Ear) := list (fun x : TalkEntry => [.u16 x.key.val, .u8 x.priority, .u32 x.number.toNat]) e.entries
    let entries (r : KeyRecord) := list (fun e : DestEntry =>
      [.opt8 (e.dest.map Endpoint.code), .u8 e.status.code, .opt8 e.status.reasonCode]) r.entries
    (∀ p : PortId,
      let r := u.ports[p]
      AcceptedWith (.queryPort tag p.val) s u
        [now, .u8 r.kind.code, .opt8 (r.inSlot.map Slot.code), .opt8 (r.outSlot.map Slot.code), .opt8 (r.channel.map Fin.val),
          .opt16 r.trim, .opt16 r.dipDepth, .opt8 ((u.presenceOf p).map Presence.code)]) ∧
    (∀ d : Endpoint, AcceptedWith (.queryPaths tag d.code) s u
      ([now, .u8 d.code] ++ list (fun q : Path =>
        let holders := q.keys.map Fin.val ++ if q.route then [256] else []
        [.u8 q.ident.src.code, .u8 q.ident.cls.code, .u16 holders.length] ++ holders.map Field.u16 ++
          [.u16 q.target, .u16 q.level, .u8 q.index, .u8 (flagCode q.suspended), .u8 (flagCode q.closing)])
        (u.paths.filter fun q : Path => decide (q.ident.dst = d)))) ∧
    (∀ k : KeyId, ∃ owned : Bool, (owned = true ↔ u.callKeyNamed k) ∧
      let r := u.keys[k]
      AcceptedWith (.queryKey tag k.val) s u
        ([now, .u8 (flagCode r.target.isSome), .opt8 (r.owner.map Fin.val), .u8 ((r.target.map Target.typeCode).getD 0),
          .opt8 (r.target.map Target.number), .u16 r.level, .u8 r.priority, .u8 r.mode.code, .u8 (flagCode owned),
          .u8 r.activation.code, .tagged32 (r.pressBlock.map BitVec.toNat), .u8 r.delivery.code] ++ entries r ++
          [.tagged32 (r.deadline.map BitVec.toNat)])) ∧
    (∀ g : GroupId,
      let r := u.groups[g]
      AcceptedWith (.queryGroup tag g.val) s u
        ([now, .u8 r.mode.code] ++ list (fun m : Member => [.u8 m.port.val]) r.members ++
          list (fun p : PortId => [.u8 p.val]) r.lru ++
          list (fun m : Member => [.opt16 (m.engagedBy.map Fin.val)]) r.members ++
          list (fun k : KeyId => [.u16 k.val, .u32 ((u.keys[k].deadline.map BitVec.toNat).getD 0)]) r.waiters ++
          [.u16 r.timeout])) ∧
    (∀ (p : PortId) (e : Ear), u.ports[p].kind = .earpiece → u.ears[p] = some e →
      AcceptedWith (.queryEarpiece tag p.val) s u
        ([now] ++ talkers e ++ [.u32 e.count.toNat, .opt16 u.ports[p].dipDepth, .u16 e.dip.target, .u16 e.dip.start,
          .u8 e.dip.count, .u16 e.dip.factor])) ∧
    (∀ c : ChanId, ∃ port : Option PortId,
      (∀ p, port = some p → u.ports[p].kind = .field ∧ u.ports[p].channel = some c ∧
        ∀ q, q < p → u.ports[q].kind = .field → u.ports[q].channel ≠ some c) ∧
      (port = none → ¬ u.bound c) ∧
      let r := u.rx.channels[c]
      let k := u.checks[c]
      let offsets : List Nat :=
        match r.nextSeq with
        | some e => (List.range 32).filter fun i : Nat =>
            decide ((r.ring[ringPlace (e + BitVec.ofNat 16 i)]).map RingBlock.seq = some (e + BitVec.ofNat 16 i))
        | none => []
      AcceptedWith (.queryChannel tag c.val) s u
        ([now, .u8 r.state.code, .opt8 (port.map Fin.val), .tagged16 (r.config.map fun g => g.linkId.toNat),
          .opt8 (r.config.map fun g => g.prime), .opt16 (r.config.map fun g => g.maxDelay),
          .opt16 ((r.config.bind fun g => g.callKey).map Fin.val), .tagged16 (r.nextSeq.map BitVec.toNat)] ++
          list (fun i : Nat => [.u8 i]) offsets ++
          [.u16 r.conceal, .u16 r.quality, .u8 (flagCode r.degraded), .u8 (flagCode r.excess), .u16 r.run, .u16 r.idle,
            .tagged8 (r.lastCue.map BitVec.toNat), .u16 u.rx.unmatched] ++
          [.u8 k.state.code, .u32 k.startBlock.toNat, .u16 k.duration, .u8 k.forward.code, .u16 k.sent, .u16 k.matched,
            .u16 k.mismatched, .opt16 k.lastDelay, .opt16 k.maxDelay, .opt8 (k.reason.map CheckReason.code)])) ∧
    (∀ p : PortId,
      let mode : Field := .u8 u.gov.config.mode.code
      let clips : Field := .u16 (if u.blockCount.toNat % 100 = 0 then 0 else u.mix.clips[p])
      let r := u.gov.records[p]
      let cap := if r.level = 0 then 4096 else if r.level = 1 then u.gov.config.cap1 else u.gov.config.cap2
      (u.ports[p].kind = .panel ∨ u.ports[p].kind = .earpiece → AcceptedWith (.queryProtect tag p.val) s u
        ([now, mode, .u16 r.level, .u16 cap, .opt32 (some (u.blockCount.toNat / 100)), .opt32 (some r.peak),
          .tagged16 (some r.openings), clips, .opt32 (r.last.map fun w => w.peak), .tagged16 (r.last.map fun w => w.openings),
          .opt16 (r.last.map fun w => w.clips)] ++ list (fun n : Nat => [.u16 n]) r.history)) ∧
      (u.ports[p].kind = .field → AcceptedWith (.queryProtect tag p.val) s u
        [now, mode, .u16 0, .u16 4096, .opt32 none, .opt32 none, .tagged16 none, clips, .opt32 none, .tagged16 none,
          .opt16 none, .u8 0])) ∧
    (∀ (a : Bool) (i : Fin 256),
      let set := if a then u.routes.active else u.routes.standby
      AcceptedWith (.queryRoutes tag (if a then 0 else 1) i.val) s u
        ([now, .u8 (if a then 0 else 1), .u16 set.length, .u8 (flagCode u.routes.swapPending), .u16 i.val] ++
          list (fun r : Route => [.u8 r.ident.src.code, .u8 r.ident.dst.code, .u8 r.ident.cls.code, .u16 r.level])
            ((set.drop i.val).take 16))) ∧
    (∀ n, 48 ≤ n → RefusedWith (.queryPort tag n) .badArg s ∧ RefusedWith (.queryEarpiece tag n) .badArg s ∧
      RefusedWith (.queryProtect tag n) .badArg s) ∧
    (∀ n, 48 ≤ n ∧ n < 128 ∨ 136 ≤ n → RefusedWith (.queryPaths tag n) .badArg s) ∧
    (∀ n, 256 ≤ n → RefusedWith (.queryKey tag n) .badArg s) ∧ (∀ n, 32 ≤ n → RefusedWith (.queryGroup tag n) .badArg s) ∧
    (∀ n, 8 ≤ n → RefusedWith (.queryChannel tag n) .badArg s) ∧
    (∀ a i, 2 ≤ a ∨ 256 ≤ i → RefusedWith (.queryRoutes tag a i) .badArg s) ∧
    ∀ p : PortId, (u.ports[p].kind ≠ .earpiece → RefusedWith (.queryEarpiece tag p.val) .notFound s) ∧
      (¬ u.ports[p].kind.listens → RefusedWith (.queryProtect tag p.val) .notFound s)

/-! ## Deliveries to earpieces and groups -/

/-- R71, R100 to R104, R109, R110, R33: pressing an idle key of any mode aimed at an EARPIECE port. Where its path has neither a record
nor room for one it is DENIED (NO_SPACE). Else a list with room takes the key behind every entry of equal or higher priority; a full
list evicts its last entry for a key of higher priority and refuses any other. The insertion count rises with each entry, and the first
entry of a list starts the dip to the dip depth from its present factor. The key holds its path, open if it is the head; the head before
it is HELD_BACK, its path suspended (R31), and an evicted key DENIED (LIST_FULL), its path left to the others or closing (R27, R28). The
openings of the path (R35, R158) and the notices (R78, R113): that the EARPIECE notice comes first, then the KEY notice of the evicted
key and then that of the head before, is the model's reading (log 15, DEDUCED, unsafe). The entry number past 4,294,967,295 is 0 by the
model's choice (log 45). -/
def Obligations.PressJoinsTheInterruptList : Prop :=
  ∀ (s : State) (tag : Byte) (k : KeyId) (o p : PortId) (e : Ear),
    ∀ u : State, s.opened = u →
    let r := u.keys[k]
    let id : PathId := ⟨.port o, .port p, .talk⟩
    let a : Activation := if r.mode = .latch then .latched else .held
    let ahead := fun x : TalkEntry => decide (r.priority ≤ x.priority)
    let placed (es : List TalkEntry) : List TalkEntry :=
      es.filter ahead ++ ⟨k, r.priority, e.count + 1⟩ :: es.filter fun x : TalkEntry => !ahead x
    let goes (t : State) (e' : Ear) := t.ears[p] = some e' ∧
      t.keys[k].activation = a ∧ t.keys[k].pressBlock = (if r.mode = .smart then some u.blockCount else none) ∧
      u.onlyAt t [p] ∧ t.groups = u.groups ∧ u.sameRest t
    let opens (t : State) (q : Path) := u.aimed →
      ((∀ x ∈ u.paths, x.ident ≠ id) → t.gov = u.counted (.port p) 0 q.target) ∧
      ∀ x ∈ u.paths, x.ident = id → (∀ y ∈ u.paths, y.ident = id → y = x) →
        t.gov = u.counted (.port p) (u.targetLeft k o p x) q.target
    s.takesRequests → s.mode = .run → ¬ u.callKeyNamed k → r.activation = .idle → r.owner = some o →
    r.deadline = none → r.target = some (.port p) → u.ports[p].kind = .earpiece → u.ears[p] = some e → e.wf →
    (∀ x ∈ e.entries, x.key ≠ k) →
    let room := (∃ q ∈ u.paths, q.ident = id) ∨
      (u.paths.length < 512 ∧ (u.paths.filter fun q => q.ident.dst = .port p).length < 32)
    let depth := (u.ports[p].dipDepth).getD 256
    -- the list with the key in it, its count raised, its dip aimed at the dip depth if it was empty
    let taken (es : List TalkEntry) : Ear := ⟨placed es, e.count + 1,
      if e.entries = [] ∧ depth ≠ e.dip.target then ⟨depth, e.dip.factor, 0⟩ else e.dip⟩
    let leads := ∀ x ∈ e.entries, x.priority < r.priority
    let kept := if e.entries.length = 4 then e.entries.take 3 else e.entries
    let refused := e.entries.length = 4 ∧ ∃ x, e.entries.getLast? = some x ∧ r.priority ≤ x.priority
    let evicted : List Notice := if e.entries.length = 4 then e.entries.getLast?.toList.map fun x => .key x.key else []
    let demoted : List Notice := e.entries.head?.toList.map fun h => .key h.key
    let reports (t : State) (ns : List Notice) := t.link = ns.foldl (fun l n => l.report n) u.link
    (¬ room → AcceptedWith (.press tag k.val) s
      (State.report (.key k) { u with keys := u.keys.set k { r with
        activation := a, pressBlock := if r.mode = .smart then some u.blockCount else none, delivered := true,
        entries := [⟨some (.port p), .denied .noSpace⟩] } }) [.u8 a.code, .u8 5]) ∧
    (room → refused → ∃ t, AcceptedWith (.press tag k.val) s t [.u8 a.code, .u8 5] ∧ goes t e ∧ t.paths = u.paths ∧
      t.gov = u.gov ∧ reports t [.key k] ∧
      t.keys[k].entries = [⟨some (.port p), .denied .listFull⟩]) ∧
    (room → ¬ refused → leads → ∃ t q, AcceptedWith (.press tag k.val) s t [.u8 a.code, .u8 1] ∧ goes t (taken kept) ∧
      t.keys[k].entries = [⟨some (.port p), .live⟩] ∧ q ∈ t.paths ∧ q.ident = id ∧ k ∈ q.keys ∧ q.suspended = false ∧
      q.closing = false ∧ u.joins t k o p .live ∧ u.displaces t k o p ∧ opens t q ∧
      reports t ([.key k, .earpiece p] ++ evicted ++ demoted)) ∧
    (room → ¬ refused → ¬ leads → ∃ t q, AcceptedWith (.press tag k.val) s t [.u8 a.code, .u8 2] ∧ goes t (taken kept) ∧
      t.keys[k].entries = [⟨some (.port p), .heldBack⟩] ∧ q ∈ t.paths ∧ q.ident = id ∧ k ∈ q.keys ∧ q.closing = false ∧
      u.joins t k o p .heldBack ∧ u.displaces t k o p ∧ opens t q ∧ reports t ([.key k, .earpiece p] ++ evicted))

/-- R69 to R72, R84, R85, R86, R88: pressing an idle key of any mode aimed at a group. An ALL group gives every member but the owner,
in member order, each answered on its own, a path opened for one taking up room for the next, and keeps no record of it. Of a HUNT
group the first eligible member in LRU order is engaged, goes to the end of the order and is the one destination, whatever it
answers; without one the key waits, or is DENIED (LIST_FULL) behind four waiters. A group with no members gives none. An entry
number past 4,294,967,295 is 0 by the model's choice (log 45). -/
def Obligations.PressHuntsForAMember : Prop :=
  ∀ (s : State) (tag : Byte) (k : KeyId) (o : PortId) (g : GroupId),
    ∀ u : State, s.opened = u →
    let r := u.keys[k]
    let grp := u.groups[g]
    let a : Activation := if r.mode = .latch then .latched else .held
    let eligible (m : PortId) := u.canTake g k m
    let frame (t : State) := (∀ h : GroupId, h ≠ g → t.groups[h] = u.groups[h]) ∧ u.sameRest t ∧
      t.keys[k].pressBlock = (if r.mode = .smart then some u.blockCount else none) ∧
      (∃ later, t.link.notices = (u.link.report (.key k)).notices ++ later) ∧
      ∀ j : KeyId, t.keys[j].activation = if j = k then a else u.keys[j].activation
    s.takesRequests → s.mode = .run → ¬ u.callKeyNamed k → r.activation = .idle → r.owner = some o →
    r.deadline = none → r.target = some (.group g) → (∀ (p : PortId) (e : Ear), u.ears[p] = some e → ∀ x ∈ e.entries, x.key ≠ k) →
    (grp.members = [] → ∃ t, AcceptedWith (.press tag k.val) s t [.u8 a.code, .u8 5] ∧ t.keys[k].entries = [] ∧
      t.groups = u.groups ∧ t.paths = u.paths ∧ t.ears = u.ears ∧ frame t) ∧
    (grp.mode = .all → (grp.members.map Member.port).Nodup →
      let ps := (grp.members.map Member.port).filter fun m : PortId => decide (m ≠ o)
      ∃ t, AcceptedWith (.press tag k.val) s t [.u8 a.code, .u8 t.keys[k].delivery.code] ∧
        t.keys[k].delivered = true ∧ t.keys[k].deadline = none ∧ t.groups = u.groups ∧ u.onlyAt t ps ∧ frame t ∧
        t.keys[k].entries.map DestEntry.dest = ps.map (fun m : PortId => some (.port m)) ∧
        ∀ (pre post : List PortId) (m : PortId), ps = pre ++ m :: post →
          let st := u.portAnswer k o m (u.paths.length + (pre.filter fun x : PortId => decide (u.opensNew k o x)).length)
          (∀ y ∈ t.keys[k].entries, y.dest = some (.port m) → y.status = st) ∧ u.portAnswered t k o m st) ∧
    (grp.mode = .hunt → grp.members ≠ [] →
      (∀ (pre post : List PortId) (m : PortId), grp.lru = pre ++ m :: post → m ∉ pre → m ∉ post → eligible m →
        (∀ x ∈ pre, ¬ eligible x) →
        ∃ t, AcceptedWith (.press tag k.val) s t [.u8 a.code, .u8 (u.portAnswer k o m u.paths.length).code] ∧
          t.keys[k].entries = [⟨some (.port m), u.portAnswer k o m u.paths.length⟩] ∧
          u.portAnswered t k o m (u.portAnswer k o m u.paths.length) ∧ u.onlyAt t [m] ∧
          t.groups[g] = { grp with
            lru := pre ++ post ++ [m]
            members := grp.members.map fun x : Member => if x.port = m then { x with engagedBy := some k } else x } ∧ frame t) ∧
      ((∀ x ∈ grp.lru, ¬ eligible x) → grp.waiters.length < 4 →
        ∃ t, AcceptedWith (.press tag k.val) s t [.u8 a.code, .u8 4] ∧ t.keys[k].entries = [] ∧
          t.keys[k].deadline = some (u.blockCount + BitVec.ofNat 32 grp.timeout) ∧
          t.groups[g] = { grp with waiters := grp.waiters ++ [k] } ∧ t.paths = u.paths ∧ t.ears = u.ears ∧ frame t) ∧
      ((∀ x ∈ grp.lru, ¬ eligible x) → 4 ≤ grp.waiters.length →
        ∃ t, AcceptedWith (.press tag k.val) s t [.u8 a.code, .u8 5] ∧ t.keys[k].entries = [⟨none, .denied .listFull⟩] ∧
          t.groups[g] = grp ∧ t.paths = u.paths ∧ t.ears = u.ears ∧ frame t))

/-! ## The block -/

/-- R10, R11, R42 to R53, R55 to R57, R128, R130, R137, R141, R148, R149, R156, R157, R163: BLOCK_BOUNDARY once nothing else is due.
Where no input block is complete it has no effect (log 10); in CONFIG it discards the input block; in RUN it computes the block whose
number is the block count. A DEGRADED flag that a yield changes queues a LINK notice, those of several channels in ascending order by
the model's reading (log 47); protection records stand where the governor is OFF or the port is not governed. The model's choices: a
field port whose check runs SILENT is silent also in the block whose yield ends the check by a drop or the idle limit (log 26), and such
an end goes before completion in the check's last block too, so no pattern is made for it (log 51). -/
def Obligations.BoundaryComputesABlock : Prop :=
  ∀ s : State, s.rstnLow = false → s.stepsQuiet = true →
    let due := s.lanes.clockPresent = true ∧ 48 ≤ s.lanes.input.length
    let n := s.blockCount
    let pattern (number : Nat) (j : Fin 48) : Sample := BitVec.ofInt 24
      (if j.val = 0 then (number : Int) * 256
        else ((((number * 48 + j.val) * 40503 % 65536 : Nat) : Int) - 32768) * 128)
    (¬ due → exec .blockBoundary s = .next s) ∧
    (due → s.mode = .config → exec .blockBoundary s = .next { s with lanes := { s.lanes with input := [] } }) ∧
    (due → s.mode = .run → ∃ (t : State) (inp out : Vector Block 48), exec .blockBoundary s = .next t ∧
      t.mode = .run ∧ t.blockCount = n + 1 ∧ t.eventBlock = n ∧ t.lanes = { s.lanes with input := [], outBlock := some out } ∧
      -- every ramp advances by one block
      t.paths = s.paths.map (fun q => { q with
        index := min 8 (q.index + 1), spent := q.closing && decide (8 ≤ q.index + 1) }) ∧
      (∀ p : PortId, t.mix.gains[p] = s.mix.gains[p].map fun g => { g with index := min 8 (g.index + 1) }) ∧
      (∀ p : PortId, t.ears[p] = s.ears[p].map fun e => { e with dip := { e.dip with count := min 8 (e.dip.count + 1) } }) ∧
      -- channels yield
      (∀ c : ChanId, t.rx.channels[c] =
        if s.rx.channels[c].state = .closed then s.rx.channels[c] else s.rx.channels[c].yieldBlock.1) ∧
      -- source samples
      (∀ (p : PortId) (j : Fin 48), inp[p][j] =
        match s.ports[p].kind with
        | .unused => 0
        | .field =>
            match s.ports[p].channel with
            | some c =>
                if s.checks[c].state = .running ∧ s.checks[c].forward = .silent then 0
                else t.rx.channels[c].prevYield[j]
            | none => 0
        | _ =>
            match s.ports[p].inSlot, s.lanes.input[j.val]? with
            | some x, some f => f[x.place]
            | _, _ => 0) ∧
      -- outputs, clips and peaks
      (∀ p : PortId, s.ports[p].kind.listens →
        let d := match s.ports[p].kind, t.ears[p] with
          | .earpiece, some e => e.dip.factor
          | _, _ => 256
        let gain := match t.mix.gains[p] with
          | some g => g.level
          | none => 0
        -- R45, R46: the bus value that the port hears; R49: what a path into the port carries; R50 to R52: M
        let heard (b : BusId) (j : Fin 48) : Int := max (-8388608) (min 8388607 (roundDiv 4096
          ((t.paths.filter fun q : Path => decide (q.ident.dst = .bus b ∧ q.ident.src ≠ .port p)).map fun q : Path =>
            match q.ident.src with
            | .port a => (inp[a][j]).toInt * (q.level : Int)
            | .bus _ => 0).sum))
        let acc (c : PathClass) (j : Fin 48) : Int :=
          ((t.paths.filter fun q : Path => decide (q.ident.dst = .port p ∧ q.ident.cls = c)).map fun q : Path =>
            match q.ident.src with
            | .port a => (inp[a][j]).toInt * (q.level : Int)
            | .bus b => heard b j * (q.level : Int)).sum
        let m (j : Fin 48) : Int :=
          roundDiv 256 (roundDiv 4096 (acc .feed j) * (d : Int)) + roundDiv 4096 (acc .talk j)
        let y (j : Fin 48) := roundDiv 4096 (m j * (gain : Int))
        (∀ j : Fin 48, (out[p][j]).toInt = sat24 (y j)) ∧
        t.mix.clips[p] = (if n.toNat % 100 = 0 then 0 else s.mix.clips[p]) +
          ((List.finRange 48).filter fun j => decide (y j < -8388608 ∨ 8388607 < y j)).length ∧
        (s.ports[p].kind ≠ .field → s.gov.config.mode ≠ .off →
          t.gov.records[p] = { s.gov.records[p] with
            peak := max s.gov.records[p].peak (((List.finRange 48).map fun j => (m j).natAbs).foldl max 0) })) ∧
      -- the records of ports that are not governed, or of a governor that is OFF, and the clip counts of ports without an output
      (∀ p : PortId, s.gov.config.mode = .off ∨ (s.ports[p].kind ≠ .panel ∧ s.ports[p].kind ≠ .earpiece) →
        t.gov.records[p] = s.gov.records[p]) ∧
      (∀ p : PortId, ¬ s.ports[p].kind.listens → t.mix.clips[p] = if n.toNat % 100 = 0 then 0 else s.mix.clips[p]) ∧
      -- outbound AUDIO frames
      (∀ c : ChanId, s.rx.channels[c].config = none →
        t.tx.outSeq[c] = s.tx.outSeq[c] ∧ ∀ f ∈ t.tx.ready, f.channel ≠ c) ∧
      (∀ (c : ChanId) (g : ChannelConfig), s.rx.channels[c].config = some g → s.rx.channels[c].state ≠ .closed →
        t.tx.outSeq[c] = s.tx.outSeq[c] + 1 ∧
        ∃ samples, (t.tx.ready.filter fun f => decide (f.channel = c)) = [⟨c, g.linkId, s.tx.outSeq[c], samples⟩] ∧
          let sends := s.checks[c].state = .running ∧ ¬ t.rx.channels[c].dropDue ∧ ¬ t.rx.channels[c].idleDue
          let number := (n - s.checks[c].startBlock).toNat
          let history := s.checks[c].history ++ [(number, n)]
          (sends → t.checks[c].sent = s.checks[c].sent + 1 ∧ t.checks[c].history = history.drop (history.length - 256) ∧
            ∀ j : Fin 48, samples[j] = pattern number j) ∧
          (¬ sends → t.checks[c].sent = s.checks[c].sent ∧ t.checks[c].history = s.checks[c].history ∧
            ∀ p : PortId, s.ports[p].kind = .field → s.ports[p].channel = some c →
              (∀ q : PortId, q ≠ p → s.ports[q].channel ≠ some c) → samples = out[p])) ∧
      -- what a running check sees of the yield
      (∀ c : ChanId, s.checks[c].state = .running → s.rx.channels[c].state ≠ .closed →
        let r := s.rx.channels[c]
        let k := s.checks[c]
        let k' := t.checks[c]
        let x := t.rx.channels[c].prevYield
        let taken := r.state = .running ∧ ∃ e, r.nextSeq = some e ∧ (r.ring[ringPlace e]).map RingBlock.seq = some e
        let returned (q : Nat) (m : BlockCount) := taken ∧ (∃ j : Fin 48, x[j] ≠ 0) ∧ (x[(0 : Fin 48)]).toInt = (q : Int) * 256 ∧
          k.history.find? (fun e => decide (e.1 = q)) = some (q, m)
        (∀ q m, returned q m → (∀ j : Fin 48, x[j] = pattern q j) →
          let delay := (n - m).toNat
          k'.matched = k.matched + 1 ∧ k'.mismatched = k.mismatched ∧ k'.lastDelay = some delay ∧
            k'.maxDelay = some (max (k.maxDelay.getD 0) delay)) ∧
        (∀ q m, returned q m → (∃ j : Fin 48, x[j] ≠ pattern q j) →
          k'.matched = k.matched ∧ k'.mismatched = k.mismatched + 1 ∧ k'.lastDelay = k.lastDelay ∧ k'.maxDelay = k.maxDelay) ∧
        ((∀ q m, ¬ returned q m) →
          k'.matched = k.matched ∧ k'.mismatched = k.mismatched ∧ k'.lastDelay = k.lastDelay ∧ k'.maxDelay = k.maxDelay)) ∧
      -- what falls due, and what stays
      t.gov.windowDue = (decide (n.toNat % 100 = 99 ∨ n.toNat = 4294967295) && decide (s.gov.config.mode ≠ .off)) ∧
      t.routes = { s.routes with judgementDue := s.routes.swapPending } ∧
      (∀ c : ChanId, s.checks[c].state ≠ .running → t.checks[c] = s.checks[c]) ∧
      t.tx.sending = s.tx.sending ∧ t.tx.cues = s.tx.cues ∧ t.gov.config = s.gov.config ∧ t.keys = s.keys ∧
      t.groups = s.groups ∧ t.ports = s.ports ∧ t.rx.filters = s.rx.filters ∧ t.rx.unmatched = s.rx.unmatched ∧
      -- R130, R137: a LINK notice for each channel whose yield has changed its DEGRADED flag, and nothing else
      t.link = ((List.finRange 8).filter fun c : ChanId => decide (t.rx.channels[c].degraded ≠ s.rx.channels[c].degraded)).foldl
        (fun l c => l.report (.link c)) s.link)

/-- R128 to R130: what a channel yields, and the counts and the flag afterwards. -/
def Obligations.YieldFollowsTheRing : Prop :=
  ∀ c : Machine.Channel,
    let y := c.yieldBlock.1
    let mark := c.yieldBlock.2
    (∀ (e : Seq) (b : RingBlock), c.state = .running → c.nextSeq = some e → c.ring[ringPlace e] = some b → b.seq = e →
      mark = .taken ∧
      let fallen := c.quality - 1
      y = { c with
        ring := c.ring.set (ringPlace e) none, prevYield := b.samples, nextSeq := some (e + 1), conceal := 0, quality := fallen,
        degraded := if c.quality = 0 then c.degraded else c.degraded && decide (64 ≤ fallen) }) ∧
    (∀ e : Seq, c.state = .running → c.nextSeq = some e → (∀ b, c.ring[ringPlace e] = some b → b.seq ≠ e) →
      mark = .concealed ∧ (∀ j : Fin 48, (y.prevYield[j]).toInt = roundDiv 2 (c.prevYield[j]).toInt) ∧
      let risen := min 255 (c.quality + 8)
      y = { c with
        prevYield := y.prevYield, nextSeq := some (e + 1), conceal := c.conceal + 1, quality := risen,
        degraded := c.degraded || decide (96 ≤ risen) }) ∧
    (c.state ≠ .running → mark = .silence ∧
      y = { c with
        prevYield := Vector.replicate 48 0
        idle := if c.state = .priming then c.idle + 1 else c.idle })

/-- R46, R45: the bus value that a listener hears is formed from the other sources' exact products alone, and does not depend on the
listener's own samples. With at most 32 paths into the bus at levels of at most 8192 the sum lies within ±2^41. -/
def Obligations.ListenerNeverHearsItself : Prop :=
  ∀ (paths : List Path) (inp : Vector Block 48) (k : PortId) (b : BusId) (j : Fin 48),
    let others : Int :=
      ((paths.filter fun q : Path => decide (q.ident.dst = .bus b ∧ q.ident.src ≠ .port k)).map fun q : Path =>
        match q.ident.src with
        | .port p => (inp[p][j]).toInt * (q.level : Int)
        | .bus _ => 0).foldr (· + ·) 0
    busValue paths inp k b j = sat24 (roundDiv 4096 others) ∧
    (∀ x : Block, busValue paths (inp.set k x) k b j = busValue paths inp k b j) ∧
    ((paths.filter fun q : Path => decide (q.ident.dst = .bus b)).length ≤ 32 → (∀ q ∈ paths, q.level ≤ 8192) →
      others.natAbs ≤ 2199023255552)

/-- 0.4.1, 0.4.3, R51, R55: rounding is to nearest with halves toward +∞, an undipped term is exact, and an output sample is its value
after the gain, limited to the sample range; the samples outside it are counted. -/
def Obligations.OutputIsRoundedOnceAndSaturated : Prop :=
  (∀ (n : Nat) (x : Int), 0 < n → n % 2 = 0 →
    (n : Int) * roundDiv n x ≤ x + (n / 2 : Nat) ∧ x + (n / 2 : Nat) < (n : Int) * (roundDiv n x + 1)) ∧
  (∀ x : Int, roundDiv 256 (x * 256) = x) ∧
  (∀ x : Int, -8388608 ≤ sat24 x ∧ sat24 x ≤ 8388607 ∧ (-8388608 ≤ x → x ≤ 8388607 → sat24 x = x)) ∧
  ∀ (ms : List Int) (gain : Nat), ms.length = 48 →
    let y (j : Fin 48) := roundDiv 4096 (ms.getD j.val 0 * (gain : Int))
    (∀ j : Fin 48, ((outputBlock ms gain)[j]).toInt = max (-8388608) (min 8388607 (y j))) ∧
    clipCount ms gain = ((List.finRange 48).filter fun j => decide (y j < -8388608 ∨ 8388607 < y j)).length

/-- R22, R23, R110: a new target leaves the present level where it is; a block moves a ramp by one eighth and a dip by at most 32; a ramp
ends at its target after eight blocks and never leaves the range between its ends. -/
def Obligations.RampsAndDipsMoveByBlocks : Prop :=
  (∀ (p : Path) (n : Nat), (n = p.target → p.aim n = p) ∧
    (n ≠ p.target → p.aim n = { p with start := p.level, index := 0, target := n }) ∧ (p.aim n).level = p.level) ∧
  (∀ e g i : Nat, i ≤ 8 →
    (rampLevel e g i : Int) = (e : Int) + (((g : Int) - (e : Int)) * (i : Int)).tdiv 8 ∧
    min e g ≤ rampLevel e g i ∧ rampLevel e g i ≤ max e g ∧ rampLevel e g 0 = e ∧ rampLevel e g 8 = g) ∧
  (∀ p : Path, (Path.advance^[8] p).level = p.target) ∧
  (∀ (d : Dip) (n : Nat), (n = d.target → d.aim n = d) ∧ (n ≠ d.target → d.aim n = ⟨n, d.factor, 0⟩) ∧
    (d.aim n).factor = d.factor) ∧
  (∀ d : Dip, d.start ≤ 256 → d.target ≤ 256 → (Dip.advance^[8] d).factor = d.target) ∧
  ∀ d : Dip, d.count ≤ 8 →
    min d.start d.target ≤ d.factor ∧ d.factor ≤ max d.start d.target ∧
    d.advance.factor ≤ d.factor + 32 ∧ d.factor ≤ d.advance.factor + 32

/-- R159 to R162: WINDOW_END closes the window of every governed port, decides its level, retargets its gain and reports each change of
level in port order; where no window has ended it has no effect, which is the model's choice (log 38). -/
def Obligations.WindowEndDecidesTheLevel : Prop :=
  ∀ s : State, s.rstnLow = false →
    let c := s.gov.config
    let governed (p : PortId) := s.ports[p].kind = .panel ∨ s.ports[p].kind = .earpiece
    (s.gov.windowDue = false → exec .windowEnd s = .next s) ∧
    (s.gov.windowDue = true → ∃ t, exec .windowEnd s = .next t ∧ t.gov.windowDue = false ∧ t.gov.config = c ∧
      (∀ p : PortId, ¬ governed p → t.gov.records[p] = s.gov.records[p] ∧ t.mix.gains[p] = s.mix.gains[p]) ∧
      (∀ p : PortId, governed p →
        let r := s.gov.records[p]
        let counts := r.history ++ [r.openings]
        let history := counts.drop (counts.length - 8)
        let closed := if c.mode = .closed then (if c.tMid < r.peak then 2 else if c.tLow < r.peak then 1 else 0) else 0
        let opened := if ∃ n ∈ history, c.limit < n then 1 else 0
        let wanted := max closed opened
        let level := if r.level < wanted then wanted else if wanted < r.level then r.level - 1 else r.level
        let target := min ((s.ports[p].trim).getD 4096) (if level = 0 then 4096 else if level = 1 then c.cap1 else c.cap2)
        (c.mode ≠ .off → t.gov.records[p] = ⟨level, 0, 0, history, some ⟨r.peak, r.openings, s.mix.clips[p]⟩⟩ ∧
          t.mix.gains[p] = s.mix.gains[p].map fun g => if target = g.target then g else ⟨target, g.level, 0⟩)) ∧
      t.link = ((List.finRange 48).filter fun p => decide (t.gov.records[p].level ≠ s.gov.records[p].level)).foldl
        (fun l p => l.report (.protect p)) s.link ∧
      t.mix.clips = s.mix.clips ∧ t.mode = s.mode ∧ t.blockCount = s.blockCount ∧ t.ports = s.ports ∧ t.lanes = s.lanes ∧
      t.paths = s.paths ∧ t.keys = s.keys ∧ t.groups = s.groups ∧ t.ears = s.ears ∧ t.rx = s.rx ∧ t.tx = s.tx ∧
      t.checks = s.checks ∧ t.routes = s.routes)

/-! ## Channels -/

/-- R122 to R126, R130, R133: what a channel does with an AUDIO frame of 48 samples, and with one of another length. That the record
waits for its own steps is the model's choice (log 2): the 128th frame of a recovery run leaves it DROPPED with the frame held
until CHANNEL_RECOVERY, and a rise to 255 leaves it RUNNING until CHANNEL_DROP. -/
def Obligations.ChannelTakesAudioByItsState : Prop :=
  ∀ (c : Machine.Channel) (q : Seq) (b : Block),
    let single : Vector (Option RingBlock) 32 := (Vector.replicate 32 none).set (ringPlace q) (some ⟨q, b⟩)
    let stored := c.ring.set (ringPlace q) (some ⟨q, b⟩)
    let duplicate := ∃ x, c.ring[ringPlace q] = some x ∧ x.seq = q
    let risen := { c with quality := min 255 (c.quality + 8), degraded := c.degraded || decide (96 ≤ min 255 (c.quality + 8)) }
    -- a stored block may complete the priming
    let primed (r : Machine.Channel) : Machine.Channel :=
      match r.config with
      | some g =>
          if g.prime ≤ (r.ring.toList.filter Option.isSome).length then { r with state := .running, conceal := 0 } else r
      | none => r
    (c.state = .closed → c.takeAudio q (some b) = c ∧ c.takeAudio q none = c) ∧
    (c.state = .waiting → c.takeAudio q none = c ∧
      c.takeAudio q (some b) = { c with state := .priming, nextSeq := some q, ring := single, idle := 0 }) ∧
    (c.state = .priming → c.takeAudio q none = risen) ∧
    (c.state = .running → c.takeAudio q none = risen) ∧
    (c.state = .dropped → c.takeAudio q none = { c with run := 0, nextSeq := none, held := none } ∧
      let n := if c.nextSeq = some q then c.run + 1 else 1
      c.takeAudio q (some b) =
        { c with run := n, nextSeq := some (q + 1), held := if n = 128 then some ⟨q, b⟩ else none }) ∧
    ∀ e, c.nextSeq = some e →
      let d := (q - e).toNat
      (c.state = .priming →
        (d ≤ 31 → duplicate → c.takeAudio q (some b) = c) ∧
        (d ≤ 31 → ¬ duplicate → c.takeAudio q (some b) = primed { c with ring := stored, idle := 0 }) ∧
        (31 < d → d < 32768 → c.takeAudio q (some b) = primed { c with ring := single, nextSeq := some q, idle := 0 }) ∧
        (32768 ≤ d → c.takeAudio q (some b) = c)) ∧
      (c.state = .running →
        (d ≤ 31 → duplicate → c.takeAudio q (some b) = c) ∧
        (d ≤ 31 → ¬ duplicate → c.takeAudio q (some b) = { c with ring := stored }) ∧
        (31 < d → d < 32768 → risen.quality < 255 → c.takeAudio q (some b) =
          { risen with state := .priming, nextSeq := some q, ring := single, idle := 0, conceal := 0 }) ∧
        (31 < d → d < 32768 → risen.quality = 255 → c.takeAudio q (some b) = risen) ∧
        (32768 ≤ d → c.takeAudio q (some b) = risen))

/-- R116 to R118, R126, R135, 11.8.5: the bytes of a link frame make an arrival, or a frame that is malformed. An AUDIO frame goes to the
channel of the lowest-numbered enabled filter that accepts its id, a CLOSED channel excepted, which takes the 48 samples that its
payload carries, or none where it has not 144 bytes; other frames of RUN are counted, and frames of CONFIG are discarded. A channel that
enters RUNNING is reported, and then its field port, now AVAILABLE, triggers the service passes of the groups that it is a member of
(R89, R90, R95). -/
def Obligations.AudioFrameReachesItsChannel : Prop :=
  (∀ bytes : List Byte, bytes.length < 5 → takeLinkFrame bytes = .malformedLinkFrame) ∧
  (∀ (id : LinkId) (kind : Byte) (q : Seq) (payload : List Byte), takeLinkFrame (linkFrame id kind q payload) =
    if kind = 1 then .audioFrameArrival id q payload else if kind = 2 then .cueFrameArrival id q payload
    else .malformedLinkFrame) ∧
  ∀ (s : State) (id : LinkId) (q : Seq) (payload : List Byte) (x : Option Block), carries payload x → s.rstnLow = false →
    ∀ v : State, s.settle = v →
    let w := { v with eventBlock := v.blockCount }
    let counted (u : State) := { u with rx := { u.rx with unmatched := min 65535 (u.rx.unmatched + 1) } }
    let accepts (i : FilterId) := v.rx.filters[i].enabled = true ∧ (id ^^^ v.rx.filters[i].value) &&& ~~~v.rx.filters[i].mask = 0
    (s.mode = .config → exec (.audioFrameArrival id q payload) s = .next v ∧ exec .malformedLinkFrame s = .next v) ∧
    (s.mode = .run →
      exec .malformedLinkFrame s = .next (counted v) ∧
      ((∀ i, ¬ accepts i) → exec (.audioFrameArrival id q payload) s = .next (counted w)) ∧
      ∀ i, accepts i → (∀ j, j < i → ¬ accepts j) →
        let c := v.rx.filters[i].channel
        let old := v.rx.channels[c]
        let new := old.takeAudio q x
        let put := { w with rx := { w.rx with channels := w.rx.channels.set c new } }
        let unchanged := old.state = new.state ∧ old.degraded = new.degraded ∧ old.excess = new.excess
        (old.state = .closed → exec (.audioFrameArrival id q payload) s = .next (counted w)) ∧
        (old.state ≠ .closed → new.state ≠ .running ∨ old.state = .running →
          exec (.audioFrameArrival id q payload) s = .next (if unchanged then put else put.report (.link c))) ∧
        (old.state ≠ .closed → ∃ t, exec (.audioFrameArrival id q payload) s = .next t ∧ put.sameRun t) ∧
        (old.state ≠ .closed → old.state ≠ .running → new.state = .running →
          let told := put.report (.link c)
          let bound (p : PortId) := v.ports[p].kind = .field ∧ v.ports[p].channel = some c ∧
            ∀ r, r < p → v.ports[r].kind = .field → v.ports[r].channel ≠ some c
          ((∀ p, bound p → ∀ g : GroupId, told.servedBy p g → ∀ k ∈ told.groups[g].waiters, ∀ m ∈ told.groups[g].lru,
              ¬ told.canTake g k m) →
            exec (.audioFrameArrival id q payload) s = .next told) ∧
          ∃ t, exec (.audioFrameArrival id q payload) s = .next t ∧ told.sameRun t ∧
            (∃ later, t.link.notices = told.link.notices ++ later) ∧ ∀ p, bound p → told.served t p))

/-- R116 to R118, R134, R126, R68: a CUE frame taken by a channel is its last cue and is reported; CALL and CANCEL work the channel's
call key, its KEY notice behind the report of the cue; a CANCEL withdraws it as a RELEASE would (R76, R91,
State.withdrawnThen; log 15). A CUE frame that no filter accepts, or that
goes to a CLOSED channel, is counted; in CONFIG it is discarded. -/
def Obligations.CueFrameWorksTheCallKey : Prop :=
  ∀ (s : State) (id : LinkId) (q : Seq), s.rstnLow = false →
    ∀ v : State, s.settle = v →
    let w := { v with eventBlock := v.blockCount }
    let counted := { w with rx := { w.rx with unmatched := min 65535 (w.rx.unmatched + 1) } }
    let accepts (i : FilterId) := v.rx.filters[i].enabled = true ∧ (id ^^^ v.rx.filters[i].value) &&& ~~~v.rx.filters[i].mask = 0
    (s.mode = .config → ∀ payload, exec (.cueFrameArrival id q payload) s = .next v) ∧
    (s.mode = .run → (∀ i, ¬ accepts i) → ∀ payload, exec (.cueFrameArrival id q payload) s = .next counted) ∧
    ∀ i : FilterId, s.mode = .run → accepts i → (∀ j, j < i → ¬ accepts j) →
    let c := v.rx.filters[i].channel
    let r := v.rx.channels[c]
    let told (code : Byte) : State := State.report (.cueIn c code v.blockCount)
      { w with rx := { w.rx with channels := w.rx.channels.set c { r with lastCue := some code } } }
    let live := r.state = .priming ∨ r.state = .running
    let becomes (code : Byte) (k : KeyId) (a : Activation) (on : Bool) := ∃ t,
      exec (.cueFrameArrival id q [code]) s = .next t ∧ t.keys[k].activation = a ∧ t.keys[k].delivered = on ∧
        (∃ later, t.link.notices = ((told code).link.report (.key k)).notices ++ later) ∧
        (on = false →
          (∀ g : GroupId, k ∈ v.groups[g].waiters → v.keys[k].target = some (.group g) ∧ v.keys[k].deadline.isSome) →
          (State.report (.key k) (told code)).withdrawnThen t k (fun w => w)) ∧
        (∀ j : KeyId, j ≠ k → v.keys[j].sameKey t.keys[j]) ∧ t.rx = (told code).rx ∧ t.ports = v.ports ∧ t.mode = .run ∧
        t.tx = v.tx ∧ t.checks = v.checks ∧ t.routes = v.routes ∧ t.lanes = v.lanes ∧ t.mix = v.mix
    (r.state = .closed → ∀ payload, exec (.cueFrameArrival id q payload) s = .next counted) ∧
    (r.state ≠ .closed →
      (∀ payload, payload.length ≠ 1 → exec (.cueFrameArrival id q payload) s = .next w) ∧
      (∀ code : Byte, code ≠ 1 ∧ code ≠ 2 ∨ code = 1 ∧ ¬ live ∨ (∀ g k, r.config = some g → g.callKey ≠ some k) →
        exec (.cueFrameArrival id q [code]) s = .next (told code)) ∧
      ∀ (g : ChannelConfig) (k : KeyId), r.config = some g → g.callKey = some k →
        let key := v.keys[k]
        (live → key.target.isSome → key.activation = .idle → becomes 1 k .latched true) ∧
        (live → key.target = none ∨ key.activation ≠ .idle → exec (.cueFrameArrival id q [1]) s = .next (told 1)) ∧
        (key.activation = .latched → becomes 2 k .idle false) ∧
        (key.activation ≠ .latched → exec (.cueFrameArrival id q [2]) s = .next (told 2)))

/-- R129, R133, R135: CONCEAL_LIMIT and CHANNEL_RECOVERY, where they are due and where they are not (log 38). -/
def Obligations.ConcealLimitAndRecovery : Prop :=
  ∀ (s : State) (ch : ChanId), s.rstnLow = false →
    let c := s.rx.channels[ch]
    let put (r : Machine.Channel) : State :=
      State.report (.link ch) { s with rx := { s.rx with channels := s.rx.channels.set ch r } }
    let limit := c.state = .running ∧ 4 ≤ c.conceal ∧ c.quality ≠ 255
    (limit → exec (.concealLimit ch) s = .next (put { c with state := .priming, conceal := 0, idle := 0 })) ∧
    (¬ limit → exec (.concealLimit ch) s = .next s) ∧
    (∀ b, c.state = .dropped → c.run = 128 → c.held = some b →
      exec (.channelRecovery ch) s = .next (put { c with
        state := .priming, nextSeq := some b.seq, idle := 0, quality := 0, degraded := false, run := 0, held := none,
        ring := (Vector.replicate 32 none).set (ringPlace b.seq) (some b) })) ∧
    (c.state ≠ .dropped ∨ c.run ≠ 128 ∨ c.held = none → exec (.channelRecovery ch) s = .next s)

/-- R124, R132, R135, R152, R153, R68: CHANNEL_DROP and CHANNEL_IDLE_LIMIT. The channel's record, its LINK notice first; its call key
forced IDLE and withdrawn (State.withdrawnThen; log 15); then its running check FAILED with its CHECK notice, and then the service passes
that the withdrawal has brought about. The notice's block count at the end is that of the event that made the step due, by the model's
choice (log 12), and it is the model's choice that the check ends so, and not by completion, where the step follows from the yield of
its last block (log 51). Where they are not due they have no effect (log 38). A window end due at the same boundary is taken first
(log 13). -/
def Obligations.DropAndIdleLimitLeaveTheLiveStates : Prop :=
  ∀ (s : State) (ch : ChanId), s.rstnLow = false →
    let c := s.rx.channels[ch]
    let drops := (c.state = .priming ∨ c.state = .running) ∧ c.quality = 255
    let idles := c.state = .priming ∧ 500 ≤ c.idle ∧ c.quality ≠ 255
    let forced (k : KeyId) := c.config.bind ChannelConfig.callKey = some k ∧ s.keys[k].activation = .latched
    -- the end of the channel's running check: its record and its CHECK notice
    let ended (reason : CheckReason) : Notice :=
      let k := s.checks[ch]
      .check ⟨ch, .failed, some reason, k.duration, k.startBlock, k.sent, k.matched, k.mismatched, k.lastDelay, k.maxDelay, s.eventBlock⟩
    let checkEnds (w : State) (reason : CheckReason) : State :=
      if s.checks[ch].state = .running then State.report (ended reason) { w with
        checks := w.checks.set ch { w.checks[ch] with state := .failed, reason := some reason } }
      else w
    let left (cmd : Instr) (r : Machine.Channel) (reason : CheckReason) := ∃ t, exec cmd s = .next t ∧
      t.rx = { s.rx with channels := s.rx.channels.set ch r } ∧
      (∃ later, t.link.notices = (s.link.report (.link ch)).notices ++ later) ∧
      (let k := s.checks[ch]
      (k.state = .running →
        t.checks = s.checks.set ch { k with state := .failed, reason := some reason } ∧
        (s.link.mask.getLsbD 6 = true → ended reason ∈ t.link.notices ∨ t.link.overflow = true)) ∧
      (k.state ≠ .running → t.checks = s.checks) ∧
      ((∀ k, ¬ forced k) → t = checkEnds (State.report (.link ch) { s with rx := t.rx }) reason)) ∧
      (∀ k : KeyId, (forced k → t.keys[k].activation = .idle) ∧ (¬ forced k → t.keys[k].activation = s.keys[k].activation)) ∧
      (∀ k : KeyId, forced k →
        (∀ g : GroupId, k ∈ s.groups[g].waiters → s.keys[k].target = some (.group g) ∧ s.keys[k].deadline.isSome) →
        t.keys[k].pressBlock = none ∧
        (State.report (.key k) (State.report (.link ch)
          { s with rx := { s.rx with channels := s.rx.channels.set ch r } })).withdrawnThen t k (fun w => checkEnds w reason)) ∧
      t.mode = s.mode ∧ t.blockCount = s.blockCount ∧ t.ports = s.ports ∧ t.tx = s.tx ∧ t.lanes = s.lanes ∧
      t.mix = s.mix ∧ t.routes = s.routes
    let afterWindow (cmd : Instr) := ∃ w, exec .windowEnd s = .next w ∧ w.rstnLow = false ∧ w.gov.windowDue = false ∧
      w.rx = s.rx ∧ exec cmd s = exec cmd w
    (drops → s.gov.windowDue = true → afterWindow (.channelDrop ch)) ∧
    (idles → s.gov.windowDue = true → afterWindow (.channelIdleLimit ch)) ∧
    (drops → s.gov.windowDue = false → left (.channelDrop ch) { c with
      state := .dropped, ring := Vector.replicate 32 none, conceal := 0, idle := 0, run := 0, nextSeq := none,
      held := none } .dropped) ∧
    (idles → s.gov.windowDue = false → left (.channelIdleLimit ch) { c with
      state := .waiting, nextSeq := none, ring := Vector.replicate 32 none, prevYield := Vector.replicate 48 0, conceal := 0,
      quality := 0, degraded := false, run := 0, idle := 0, held := none } .noLink) ∧
    (¬ drops → exec (.channelDrop ch) s = .next s) ∧ (¬ idles → exec (.channelIdleLimit ch) s = .next s)

/-! ## Paths and waiters that leave -/

/-- R30, R92, R75: PATH_REMOVAL takes the spent record at a position out of the table; WAIT_TIMEOUT takes a waiter whose deadline is the
block count out of its group's queue, DENIED (TIMEOUT). Where nothing is due they have no effect (log 38). -/
def Obligations.SpentPathsAndLateWaitersLeave : Prop :=
  ∀ s : State, s.rstnLow = false →
    (∀ pos : Fin 512, exec (.pathRemoval pos) s =
      .next { s with paths := s.paths.filter fun p : Path => decide (p.spent = false ∨ p.pos ≠ pos.val) }) ∧
    ∀ k : KeyId,
      let r := s.keys[k]
      (∀ g : GroupId, r.target = some (.group g) →
        let due := s.mode = .run ∧ k ∈ s.groups[g].waiters ∧ r.deadline = some s.blockCount
        let grp := s.groups[g]
        (due → exec (.waitTimeout k) s = .next (State.report (.key k) { s with
          groups := s.groups.set g { grp with waiters := grp.waiters.filter fun x => decide (x ≠ k) }
          keys := s.keys.set k { r with deadline := none, entries := r.entries ++ [⟨none, .denied .timeout⟩] } })) ∧
        (¬ due → exec (.waitTimeout k) s = .next s)) ∧
      ((∀ g : GroupId, r.target ≠ some (.group g)) → exec (.waitTimeout k) s = .next s)

/-! ## The clock and the lanes -/

/-- R12, R13, R136: CLOCK_LOST and CLOCK_PRESENT. The model's choices: nothing is driven from the loss on (log 37), the CLOCK notice
goes ahead of the LINK notices (log 17), and a declaration of presence that is not due has no effect (log 38). -/
def Obligations.ClockIsLostAndReturns : Prop :=
  ∀ s : State, s.rstnLow = false →
    ∀ v : State, s.settle = v →
    (v.lanes.clockPresent = false → exec .clockLost s = .next v) ∧
    (v.lanes.clockPresent = true → exec .clockLost s = .next (State.report (.clock false v.blockCount)
      { v with lanes := ⟨false, 0, [], none, none⟩ })) ∧
    (s.stepsQuiet = true →
      (s.lanes.clockPresent = true ∨ s.lanes.syncCount < 48 → exec .clockPresent s = .next s) ∧
      (s.lanes.clockPresent = false → 48 ≤ s.lanes.syncCount → ∃ t, exec .clockPresent s = .next t ∧
        t.lanes = { s.lanes with clockPresent := true, syncCount := 0, input := [] } ∧
        (∀ c : ChanId, t.rx.channels[c] =
          let r := s.rx.channels[c]
          if r.state = .running then { r with state := .priming, ring := Vector.replicate 32 none, conceal := 0, idle := 0 }
          else r) ∧
        t.link = ((List.finRange 8).filter fun c => decide (s.rx.channels[c].state = .running)).foldl
          (fun l c => l.report (.link c)) (s.link.report (.clock true s.blockCount)) ∧
        t.rx.filters = s.rx.filters ∧ t.rx.unmatched = s.rx.unmatched ∧ t.mode = s.mode ∧ t.blockCount = s.blockCount ∧
        t.ports = s.ports ∧ t.paths = s.paths ∧ t.keys = s.keys ∧ t.groups = s.groups ∧ t.ears = s.ears ∧ t.tx = s.tx ∧
        t.checks = s.checks ∧ t.mix = s.mix ∧ t.gov = s.gov ∧ t.routes = s.routes))

/-- R7, R9, R10, R13: FRAME_SYNC. While the clock is present the first 24 bits of every slot are captured and the next samples of the
block being driven go out; after 48 frames that is frame 0 of the next block, and a boundary that no command has taken is taken first
(log 49); while it is lost the syncs are counted and zero is driven. A gap of more than 2 ms loses a present clock first (log 9). -/
def Obligations.FrameSyncCapturesAndDrives : Prop :=
  ∀ (s : State) (slots : SlotFrame), s.rstnLow = false →
    ∀ v : State, s.settle = v →
    -- frame `j` is captured and driven, nothing else changing in `w`
    let drives (w : State) (j : Fin 48) := ∃ (f : TdmFrame) (out : SlotFrame),
      exec (.frameSync false slots) s = .next { w with lanes := { w.lanes with
        input := w.lanes.input ++ [f], tdmOut := some out } } ∧
      w.lanes.input.length = j.val ∧
      (∀ x : Fin 48, f[x] = (slots[x]).extractLsb' 8 24) ∧
      (w.lanes.outBlock = none → ∀ x : Fin 48, out[x] = 0) ∧
      (∀ x : Fin 48, (∀ p : PortId, w.ports[p].outSlot.map Slot.place ≠ some x) → out[x] = 0) ∧
      ∀ (p : PortId) (x : Slot) (block : Vector Block 48), w.lanes.outBlock = some block →
        w.ports[p].outSlot = some x → (∀ q : PortId, q ≠ p → w.ports[q].outSlot ≠ some x) →
        out[x.place] = block[p][j] ++ (0 : BitVec 8)
    (∀ j : Fin 48, v.lanes.clockPresent = true → v.lanes.input.length = j.val → drives v j) ∧
    (v.lanes.clockPresent = true → 48 ≤ v.lanes.input.length → v.stepsQuiet = true →
      ∃ w : State, exec .blockBoundary v = .next w ∧ drives w.settleSteps 0) ∧
    (∀ gap, v.lanes.clockPresent = false → exec (.frameSync gap slots) s = .next { v with lanes := { v.lanes with
      syncCount := if gap = true ∨ v.lanes.syncCount = 0 then 1 else v.lanes.syncCount + 1
      tdmOut := some (Vector.replicate 48 0) } }) ∧
    (v.lanes.clockPresent = true → exec (.frameSync true slots) s = .next { v with
      lanes := ⟨false, 1, [], none, some (Vector.replicate 48 0)⟩
      link := v.link.report (.clock false v.blockCount) })

/-! ## The link transmitter -/

/-- R144, R145: LINK_FRAME_BEGIN with LKTXRDY asserted or not, and LINK_FRAME_SENT. The AUDIO frame begun is the one of the lowest
channel; the frames that are ready stand in channel order, which every step keeps (EveryStepKeepsQueuesListsAndRanges). The bytes of a
frame on the port (11.8.5): an AUDIO frame's payload is its 48 samples, 3 bytes each, and a receiver that takes those bytes reads the
same samples. -/
def Obligations.LinkFramesGoOutOneByOne : Prop :=
  (∀ f : AudioFrame, ∃ payload, (TxFrame.audio f).bytes = linkFrame f.linkId 1 f.seq payload ∧ carries payload (some f.samples) ∧
    payload = (List.finRange 48).flatMap (fun j : Fin 48 => octets 3 (f.samples[j]).toNat)) ∧
  (∀ id q code, (TxFrame.cue id q code).bytes = linkFrame id 2 q [code]) ∧
  ∀ s : State, s.rstnLow = false →
    ∀ v : State, s.settle = v →
    exec (.linkFrameBegin false) s = .next v ∧
    (v.tx.sending.isSome → exec (.linkFrameBegin true) s = .next v) ∧
    (v.tx.sending = none →
      (v.tx.ready.Pairwise (fun a b : AudioFrame => a.channel < b.channel) →
        ∀ f ∈ v.tx.ready, (∀ x ∈ v.tx.ready, f.channel ≤ x.channel) →
          exec (.linkFrameBegin true) s = .next { v with tx := { v.tx with
            sending := some (.audio f)
            ready := v.tx.ready.filter fun x : AudioFrame => decide (x.channel ≠ f.channel) } }) ∧
      (∀ pre post q g, v.tx.ready = [] → v.tx.cues = pre ++ q :: post → (∀ x ∈ pre, x.begun = true) → q.begun = false →
        v.rx.channels[q.channel].config = some g → exec (.linkFrameBegin true) s =
          .next { v with tx := { v.tx with
            sending := some (.cue g.linkId v.tx.outSeq[q.channel] q.code)
            cues := pre ++ { q with begun := true } :: post } }) ∧
      (v.tx.ready = [] → (∀ x ∈ v.tx.cues, x.begun = true) → exec (.linkFrameBegin true) s = .next v)) ∧
    (v.tx.sending = none → exec .linkFrameSent s = .next v) ∧
    (∀ f, v.tx.sending = some (.audio f) → exec .linkFrameSent s = .next { v with tx := { v.tx with sending := none } }) ∧
    ∀ id q code, v.tx.sending = some (.cue id q code) → exec .linkFrameSent s =
      .next { v with tx := { v.tx with sending := none, cues := v.tx.cues.filter fun x => !x.begun } }

/-! ## START and STOP -/

/-- R15, R35, R41, R53, R118, R142, R158, R173: START. From CONFIG it enters RUN at block 0 and opens one path for each route of the
active set, an opening into its port where its level is above 0; in RUN it changes nothing. That the paths are opened in the order of
the set, which gives them the positions 0, 1, ..., is the model's choice (log 42). -/
def Obligations.StartEntersRun : Prop :=
  ∀ (s : State) (tag : Byte), s.takesRequests →
    ∀ u : State, s.opened = u →
    (s.mode = .run → AcceptedWith (.start tag) s u [.u8 1, .u32 u.blockCount.toNat]) ∧
    (s.mode = .config → ∃ t, AcceptedWith (.start tag) s t [.u8 1, .u32 0] ∧ t.mode = .run ∧ t.blockCount = 0 ∧
      t.lanes = { u.lanes with outBlock := none } ∧
      (∀ p : PortId, t.mix.clips[p] = 0 ∧ t.mix.gains[p] =
        if u.ports[p].kind = .panel ∨ u.ports[p].kind = .earpiece ∨ u.ports[p].kind = .field then
          let gain := min ((u.ports[p].trim).getD 4096) (u.capOf p)
          some ⟨gain, gain, 8⟩
        else none) ∧
      t.rx = { u.rx with unmatched := 0 } ∧ t.tx = { u.tx with outSeq := Vector.replicate 8 0 } ∧
      t.keys = u.keys ∧ t.groups = u.groups ∧ t.ports = u.ports ∧ t.ears = u.ears ∧ t.checks = u.checks ∧
      t.routes = u.routes ∧ t.link = u.link ∧ t.gov.config = u.gov.config ∧
      (∀ p : PortId, t.gov.records[p].level = u.gov.records[p].level) ∧
      (u.paths = [] → u.routes.active.length ≤ 256 → (u.routes.active.map Route.ident).Nodup →
        (∀ d, (u.routes.active.filter fun r : Route => decide (r.ident.dst = d)).length ≤ 32) →
        t.paths = (u.routes.active.mapIdx fun i r => ⟨i, r.ident, [], true, r.level, 0, 0, false, false, false⟩) ∧
        t.gov.windowDue = u.gov.windowDue ∧
        ∀ p : PortId, t.gov.records[p] = u.withOpenings p
          (u.routes.active.filter fun r : Route => decide (r.ident.dst = .port p ∧ 0 < r.level)).length))

/-- R16, R41, R58, R80, R98, R115, R140, R145, R152, R153, R165, R173: STOP. From RUN it enters CONFIG, clears everything in flight and
queues the notices of what it changed; in CONFIG it changes nothing. That the kinds of notice go in the order of R16's list is the
model's reading (log 14), and so it is that a cue stays in its queue while its frame is in progress (R145, log 25). -/
def Obligations.StopEntersConfig : Prop :=
  ∀ (s : State) (tag : Byte), s.takesRequests →
    ∀ u : State, s.opened = u →
    let notices : List Notice :=
      ((List.finRange 256).filter fun k : KeyId => decide (u.keys[k].activation ≠ .idle ∨ u.keys[k].delivered = true)).map Notice.key ++
      ((List.finRange 48).filter fun p : PortId => decide ((u.ears[p]).elim [] Ear.entries ≠ [])).map Notice.earpiece ++
      ((List.finRange 8).filter fun c : ChanId => decide (u.rx.channels[c].state ≠ .closed ∧
        (u.rx.channels[c].state ≠ .waiting ∨ u.rx.channels[c].degraded = true ∨ u.rx.channels[c].excess = true))).map Notice.link ++
      ((List.finRange 8).filter fun c : ChanId => decide (u.checks[c].state = .running)).map (fun c =>
        let k := u.checks[c]
        Notice.check ⟨c, .stopped, none, k.duration, k.startBlock, k.sent, k.matched, k.mismatched, k.lastDelay, k.maxDelay,
          u.blockCount⟩) ++
      ((List.finRange 48).filter fun p : PortId => decide ((u.ports[p].kind = .panel ∨ u.ports[p].kind = .earpiece) ∧
        u.gov.records[p].level ≠ 0)).map Notice.protect ++
      (if u.routes.swapPending then [.swap .abandoned u.blockCount u.routes.standby.length none none] else [])
    (s.mode = .config → AcceptedWith (.stop tag) s u [.u8 0, .u32 u.blockCount.toNat]) ∧
    (s.mode = .run → ∃ t, AcceptedWith (.stop tag) s t [.u8 0, .u32 u.blockCount.toNat] ∧ t.mode = .config ∧
      t.blockCount = u.blockCount ∧ t.paths = [] ∧ t.lanes = { u.lanes with outBlock := none } ∧
      t.mix = ⟨Vector.replicate 48 none, Vector.replicate 48 0⟩ ∧ t.ports = u.ports ∧
      (∀ k : KeyId, t.keys[k] = { u.keys[k] with
        activation := .idle, pressBlock := none, delivered := false, entries := [], deadline := none }) ∧
      (∀ g : GroupId, t.groups[g] = { u.groups[g] with
        waiters := [], members := u.groups[g].members.map fun m => { m with engagedBy := none } }) ∧
      (∀ p : PortId, t.ears[p] = u.ears[p].map fun _ => ⟨[], 0, ⟨256, 256, 8⟩⟩) ∧
      (∀ c : ChanId, t.rx.channels[c] = if u.rx.channels[c].state = .closed then u.rx.channels[c] else
        { u.rx.channels[c] with
          state := .waiting, nextSeq := none, ring := Vector.replicate 32 none, prevYield := Vector.replicate 48 0, conceal := 0,
          quality := 0, degraded := false, excess := false, run := 0, idle := 0, lastCue := none, held := none }) ∧
      t.rx.filters = u.rx.filters ∧ t.rx.unmatched = u.rx.unmatched ∧
      t.tx = { u.tx with ready := [], cues := u.tx.cues.filter fun x => x.begun } ∧
      (∀ c : ChanId, t.checks[c] = if u.checks[c].state = .running then { u.checks[c] with state := .stopped, reason := none }
        else u.checks[c]) ∧
      t.gov = ⟨u.gov.config, Vector.replicate 48 ⟨0, 0, 0, [], none⟩, false⟩ ∧
      t.routes.active = u.routes.active ∧ t.routes.standby = u.routes.standby ∧ t.routes.swapPending = false ∧
      t.link = notices.foldl (fun l n => l.report n) u.link)

/-! ## Encodings and invariants -/

/-- R176, R178, R189 and 11.8.3: every request has a frame, and the part reads from it, and from the WRITE transaction that carries it,
the request that it was made from, every field at every value that its body can carry. That a transaction's beginning is a command,
a form of READ_TRANSACTION, is the model's choice (log 40). -/
def Obligations.RequestFramesDecodeToTheirRequests : Prop :=
  ∀ i : Instr, i.wellFormed = true →
    ((requestHeader i).isSome ∨ (∃ tag, i = .restart tag) → (encodeFrame i).isSome) ∧
    ∀ bytes, encodeFrame i = some bytes → takeFrame bytes = some i ∧ takeTransaction (0x3C :: bytes) = [.otherTransaction 0x3C, i]

/-- R19, R21, R28, R30, R31, R34, R40: every step keeps the path table in order and within its limits; it keeps the holders and the flags
of every path in agreement (Path.wf); and it keeps the agreement of paths, queues and delivery lists (State.deliveriesWf), and with it
every path's target level the one that its holders and its flags give. -/
def Obligations.EveryStepKeepsThePathTable : Prop :=
  ∀ s t : State, step s = .next t →
    (pathTableWf s.paths → pathTableWf t.paths) ∧ ((∀ q ∈ s.paths, q.wf) → ∀ q ∈ t.paths, q.wf) ∧
      (s.listsWf → s.deliveriesWf → t.deliveriesWf ∧ (s.aimed → t.aimed))

/-- R181, R183, R82, R100, R88, R143, R144, R118, R130, R155, R159: every step keeps the queues of the control link, the lists (the
distinct members of a group and the AUDIO frames that are ready in channel order among them) and the ranges. -/
def Obligations.EveryStepKeepsQueuesListsAndRanges : Prop :=
  ∀ s t : State, step s = .next t →
    (s.link.wf → t.link.wf) ∧ (s.listsWf → t.listsWf) ∧ (s.rangesWf → t.rangesWf)

/-- The conditions that every step keeps hold after reset. -/
def Obligations.ResetMeetsTheInvariants : Prop :=
  pathTableWf State.reset.paths ∧ (∀ q ∈ State.reset.paths, q.wf) ∧ State.reset.aimed ∧ State.reset.deliveriesWf ∧
    State.reset.link.wf ∧ State.reset.listsWf ∧ State.reset.rangesWf

end
end

