-- ==== Sys2Proof/Laws/State.lean ====
section
/-! SUPPORT. What each update of the state leaves in each field, and reading the tables back. -/

namespace Sys2Proof.Machine

/-! ## Tables -/

@[simp] theorem tableSet_getElem (v : Vector α n) (i : Fin n) (x : α) (j : Nat) (h : j < n) :
    (tableSet v i x)[j] = if i.val = j then x else v[j] := by
  simp [tableSet, Vector.getElem_set]

theorem tableSet_get (v : Vector α n) (i j : Fin n) (x : α) : (tableSet v i x)[j] = if i = j then x else v[j] := by
  simp [Fin.ext_iff]

theorem tableSet_self (v : Vector α n) (i : Fin n) (x : α) : (tableSet v i x)[i] = x := by simp

theorem tableSet_ne (v : Vector α n) {i j : Fin n} (x : α) (h : i ≠ j) : (tableSet v i x)[j] = v[j] := by
  rw [tableSet_get, if_neg h]

@[simp] theorem tableMap_getElem (f : α → β) (v : Vector α n) (j : Nat) (h : j < n) : (tableMap f v)[j] = f v[j] := by
  simp [tableMap, Vector.getElem_mk]

@[simp] theorem tableOf_getElem (f : Fin n → α) (j : Nat) (h : j < n) : (tableOf f)[j] = f ⟨j, h⟩ := by
  simp [tableOf, Vector.getElem_mk]

theorem objectNumber_eq_some {n raw : Nat} {i : Fin n} : objectNumber n raw = some i ↔ raw = i.val := by
  unfold objectNumber
  split
  · rename_i h
    simp only [Option.some.injEq]
    exact ⟨fun e => by rw [← e], fun e => Fin.ext e⟩
  · rename_i h
    simp only [reduceCtorEq, false_iff]
    intro e; exact h (e ▸ i.isLt)

@[simp] theorem objectNumber_val (i : Fin n) : objectNumber n i.val = some i := objectNumber_eq_some.2 rfl

theorem objectNumber_eq_none {n raw : Nat} : objectNumber n raw = none ↔ n ≤ raw := by
  unfold objectNumber; split <;> simp <;> omega

/-! ## State.setPort -/

@[simp] theorem State.setPort_rstnLow (s : State) (p : PortId) (r : PortRecord) : (s.setPort p r).rstnLow = s.rstnLow := rfl
@[simp] theorem State.setPort_mode (s : State) (p : PortId) (r : PortRecord) : (s.setPort p r).mode = s.mode := rfl
@[simp] theorem State.setPort_blockCount (s : State) (p : PortId) (r : PortRecord) : (s.setPort p r).blockCount = s.blockCount := rfl
@[simp] theorem State.setPort_ports (s : State) (p : PortId) (r : PortRecord) : (s.setPort p r).ports = tableSet s.ports p r := rfl
@[simp] theorem State.setPort_lanes (s : State) (p : PortId) (r : PortRecord) : (s.setPort p r).lanes = s.lanes := rfl
@[simp] theorem State.setPort_paths (s : State) (p : PortId) (r : PortRecord) : (s.setPort p r).paths = s.paths := rfl
@[simp] theorem State.setPort_mix (s : State) (p : PortId) (r : PortRecord) : (s.setPort p r).mix = s.mix := rfl
@[simp] theorem State.setPort_keys (s : State) (p : PortId) (r : PortRecord) : (s.setPort p r).keys = s.keys := rfl
@[simp] theorem State.setPort_groups (s : State) (p : PortId) (r : PortRecord) : (s.setPort p r).groups = s.groups := rfl
@[simp] theorem State.setPort_ears (s : State) (p : PortId) (r : PortRecord) : (s.setPort p r).ears = s.ears := rfl
@[simp] theorem State.setPort_rx (s : State) (p : PortId) (r : PortRecord) : (s.setPort p r).rx = s.rx := rfl
@[simp] theorem State.setPort_tx (s : State) (p : PortId) (r : PortRecord) : (s.setPort p r).tx = s.tx := rfl
@[simp] theorem State.setPort_checks (s : State) (p : PortId) (r : PortRecord) : (s.setPort p r).checks = s.checks := rfl
@[simp] theorem State.setPort_gov (s : State) (p : PortId) (r : PortRecord) : (s.setPort p r).gov = s.gov := rfl
@[simp] theorem State.setPort_routes (s : State) (p : PortId) (r : PortRecord) : (s.setPort p r).routes = s.routes := rfl
@[simp] theorem State.setPort_link (s : State) (p : PortId) (r : PortRecord) : (s.setPort p r).link = s.link := rfl
@[simp] theorem State.setPort_eventBlock (s : State) (p : PortId) (r : PortRecord) : (s.setPort p r).eventBlock = s.eventBlock := rfl
@[simp] theorem State.setPort_pending (s : State) (p : PortId) (r : PortRecord) : (s.setPort p r).pending = s.pending := rfl

/-! ## State.setKey -/

@[simp] theorem State.setKey_rstnLow (s : State) (k : KeyId) (r : KeyRecord) : (s.setKey k r).rstnLow = s.rstnLow := rfl
@[simp] theorem State.setKey_mode (s : State) (k : KeyId) (r : KeyRecord) : (s.setKey k r).mode = s.mode := rfl
@[simp] theorem State.setKey_blockCount (s : State) (k : KeyId) (r : KeyRecord) : (s.setKey k r).blockCount = s.blockCount := rfl
@[simp] theorem State.setKey_ports (s : State) (k : KeyId) (r : KeyRecord) : (s.setKey k r).ports = s.ports := rfl
@[simp] theorem State.setKey_lanes (s : State) (k : KeyId) (r : KeyRecord) : (s.setKey k r).lanes = s.lanes := rfl
@[simp] theorem State.setKey_paths (s : State) (k : KeyId) (r : KeyRecord) : (s.setKey k r).paths = s.paths := rfl
@[simp] theorem State.setKey_mix (s : State) (k : KeyId) (r : KeyRecord) : (s.setKey k r).mix = s.mix := rfl
@[simp] theorem State.setKey_keys (s : State) (k : KeyId) (r : KeyRecord) : (s.setKey k r).keys = tableSet s.keys k r := rfl
@[simp] theorem State.setKey_groups (s : State) (k : KeyId) (r : KeyRecord) : (s.setKey k r).groups = s.groups := rfl
@[simp] theorem State.setKey_ears (s : State) (k : KeyId) (r : KeyRecord) : (s.setKey k r).ears = s.ears := rfl
@[simp] theorem State.setKey_rx (s : State) (k : KeyId) (r : KeyRecord) : (s.setKey k r).rx = s.rx := rfl
@[simp] theorem State.setKey_tx (s : State) (k : KeyId) (r : KeyRecord) : (s.setKey k r).tx = s.tx := rfl
@[simp] theorem State.setKey_checks (s : State) (k : KeyId) (r : KeyRecord) : (s.setKey k r).checks = s.checks := rfl
@[simp] theorem State.setKey_gov (s : State) (k : KeyId) (r : KeyRecord) : (s.setKey k r).gov = s.gov := rfl
@[simp] theorem State.setKey_routes (s : State) (k : KeyId) (r : KeyRecord) : (s.setKey k r).routes = s.routes := rfl
@[simp] theorem State.setKey_link (s : State) (k : KeyId) (r : KeyRecord) : (s.setKey k r).link = s.link := rfl
@[simp] theorem State.setKey_eventBlock (s : State) (k : KeyId) (r : KeyRecord) : (s.setKey k r).eventBlock = s.eventBlock := rfl
@[simp] theorem State.setKey_pending (s : State) (k : KeyId) (r : KeyRecord) : (s.setKey k r).pending = s.pending := rfl

/-! ## State.setGroup -/

@[simp] theorem State.setGroup_rstnLow (s : State) (g : GroupId) (r : GroupRecord) : (s.setGroup g r).rstnLow = s.rstnLow := rfl
@[simp] theorem State.setGroup_mode (s : State) (g : GroupId) (r : GroupRecord) : (s.setGroup g r).mode = s.mode := rfl
@[simp] theorem State.setGroup_blockCount (s : State) (g : GroupId) (r : GroupRecord) : (s.setGroup g r).blockCount = s.blockCount := rfl
@[simp] theorem State.setGroup_ports (s : State) (g : GroupId) (r : GroupRecord) : (s.setGroup g r).ports = s.ports := rfl
@[simp] theorem State.setGroup_lanes (s : State) (g : GroupId) (r : GroupRecord) : (s.setGroup g r).lanes = s.lanes := rfl
@[simp] theorem State.setGroup_paths (s : State) (g : GroupId) (r : GroupRecord) : (s.setGroup g r).paths = s.paths := rfl
@[simp] theorem State.setGroup_mix (s : State) (g : GroupId) (r : GroupRecord) : (s.setGroup g r).mix = s.mix := rfl
@[simp] theorem State.setGroup_keys (s : State) (g : GroupId) (r : GroupRecord) : (s.setGroup g r).keys = s.keys := rfl
@[simp] theorem State.setGroup_groups (s : State) (g : GroupId) (r : GroupRecord) : (s.setGroup g r).groups = tableSet s.groups g r := rfl
@[simp] theorem State.setGroup_ears (s : State) (g : GroupId) (r : GroupRecord) : (s.setGroup g r).ears = s.ears := rfl
@[simp] theorem State.setGroup_rx (s : State) (g : GroupId) (r : GroupRecord) : (s.setGroup g r).rx = s.rx := rfl
@[simp] theorem State.setGroup_tx (s : State) (g : GroupId) (r : GroupRecord) : (s.setGroup g r).tx = s.tx := rfl
@[simp] theorem State.setGroup_checks (s : State) (g : GroupId) (r : GroupRecord) : (s.setGroup g r).checks = s.checks := rfl
@[simp] theorem State.setGroup_gov (s : State) (g : GroupId) (r : GroupRecord) : (s.setGroup g r).gov = s.gov := rfl
@[simp] theorem State.setGroup_routes (s : State) (g : GroupId) (r : GroupRecord) : (s.setGroup g r).routes = s.routes := rfl
@[simp] theorem State.setGroup_link (s : State) (g : GroupId) (r : GroupRecord) : (s.setGroup g r).link = s.link := rfl
@[simp] theorem State.setGroup_eventBlock (s : State) (g : GroupId) (r : GroupRecord) : (s.setGroup g r).eventBlock = s.eventBlock := rfl
@[simp] theorem State.setGroup_pending (s : State) (g : GroupId) (r : GroupRecord) : (s.setGroup g r).pending = s.pending := rfl

/-! ## State.setEar -/

@[simp] theorem State.setEar_rstnLow (s : State) (p : PortId) (e : Option Ear) : (s.setEar p e).rstnLow = s.rstnLow := rfl
@[simp] theorem State.setEar_mode (s : State) (p : PortId) (e : Option Ear) : (s.setEar p e).mode = s.mode := rfl
@[simp] theorem State.setEar_blockCount (s : State) (p : PortId) (e : Option Ear) : (s.setEar p e).blockCount = s.blockCount := rfl
@[simp] theorem State.setEar_ports (s : State) (p : PortId) (e : Option Ear) : (s.setEar p e).ports = s.ports := rfl
@[simp] theorem State.setEar_lanes (s : State) (p : PortId) (e : Option Ear) : (s.setEar p e).lanes = s.lanes := rfl
@[simp] theorem State.setEar_paths (s : State) (p : PortId) (e : Option Ear) : (s.setEar p e).paths = s.paths := rfl
@[simp] theorem State.setEar_mix (s : State) (p : PortId) (e : Option Ear) : (s.setEar p e).mix = s.mix := rfl
@[simp] theorem State.setEar_keys (s : State) (p : PortId) (e : Option Ear) : (s.setEar p e).keys = s.keys := rfl
@[simp] theorem State.setEar_groups (s : State) (p : PortId) (e : Option Ear) : (s.setEar p e).groups = s.groups := rfl
@[simp] theorem State.setEar_ears (s : State) (p : PortId) (e : Option Ear) : (s.setEar p e).ears = tableSet s.ears p e := rfl
@[simp] theorem State.setEar_rx (s : State) (p : PortId) (e : Option Ear) : (s.setEar p e).rx = s.rx := rfl
@[simp] theorem State.setEar_tx (s : State) (p : PortId) (e : Option Ear) : (s.setEar p e).tx = s.tx := rfl
@[simp] theorem State.setEar_checks (s : State) (p : PortId) (e : Option Ear) : (s.setEar p e).checks = s.checks := rfl
@[simp] theorem State.setEar_gov (s : State) (p : PortId) (e : Option Ear) : (s.setEar p e).gov = s.gov := rfl
@[simp] theorem State.setEar_routes (s : State) (p : PortId) (e : Option Ear) : (s.setEar p e).routes = s.routes := rfl
@[simp] theorem State.setEar_link (s : State) (p : PortId) (e : Option Ear) : (s.setEar p e).link = s.link := rfl
@[simp] theorem State.setEar_eventBlock (s : State) (p : PortId) (e : Option Ear) : (s.setEar p e).eventBlock = s.eventBlock := rfl
@[simp] theorem State.setEar_pending (s : State) (p : PortId) (e : Option Ear) : (s.setEar p e).pending = s.pending := rfl

/-! ## State.setGain -/

@[simp] theorem State.setGain_rstnLow (s : State) (p : PortId) (g : Option Gain) : (s.setGain p g).rstnLow = s.rstnLow := rfl
@[simp] theorem State.setGain_mode (s : State) (p : PortId) (g : Option Gain) : (s.setGain p g).mode = s.mode := rfl
@[simp] theorem State.setGain_blockCount (s : State) (p : PortId) (g : Option Gain) : (s.setGain p g).blockCount = s.blockCount := rfl
@[simp] theorem State.setGain_ports (s : State) (p : PortId) (g : Option Gain) : (s.setGain p g).ports = s.ports := rfl
@[simp] theorem State.setGain_lanes (s : State) (p : PortId) (g : Option Gain) : (s.setGain p g).lanes = s.lanes := rfl
@[simp] theorem State.setGain_paths (s : State) (p : PortId) (g : Option Gain) : (s.setGain p g).paths = s.paths := rfl
@[simp] theorem State.setGain_mix (s : State) (p : PortId) (g : Option Gain) : (s.setGain p g).mix = { s.mix with gains := tableSet s.mix.gains p g } := rfl
@[simp] theorem State.setGain_keys (s : State) (p : PortId) (g : Option Gain) : (s.setGain p g).keys = s.keys := rfl
@[simp] theorem State.setGain_groups (s : State) (p : PortId) (g : Option Gain) : (s.setGain p g).groups = s.groups := rfl
@[simp] theorem State.setGain_ears (s : State) (p : PortId) (g : Option Gain) : (s.setGain p g).ears = s.ears := rfl
@[simp] theorem State.setGain_rx (s : State) (p : PortId) (g : Option Gain) : (s.setGain p g).rx = s.rx := rfl
@[simp] theorem State.setGain_tx (s : State) (p : PortId) (g : Option Gain) : (s.setGain p g).tx = s.tx := rfl
@[simp] theorem State.setGain_checks (s : State) (p : PortId) (g : Option Gain) : (s.setGain p g).checks = s.checks := rfl
@[simp] theorem State.setGain_gov (s : State) (p : PortId) (g : Option Gain) : (s.setGain p g).gov = s.gov := rfl
@[simp] theorem State.setGain_routes (s : State) (p : PortId) (g : Option Gain) : (s.setGain p g).routes = s.routes := rfl
@[simp] theorem State.setGain_link (s : State) (p : PortId) (g : Option Gain) : (s.setGain p g).link = s.link := rfl
@[simp] theorem State.setGain_eventBlock (s : State) (p : PortId) (g : Option Gain) : (s.setGain p g).eventBlock = s.eventBlock := rfl
@[simp] theorem State.setGain_pending (s : State) (p : PortId) (g : Option Gain) : (s.setGain p g).pending = s.pending := rfl

/-! ## State.setChannel -/

@[simp] theorem State.setChannel_rstnLow (s : State) (c : ChanId) (r : Channel) : (s.setChannel c r).rstnLow = s.rstnLow := rfl
@[simp] theorem State.setChannel_mode (s : State) (c : ChanId) (r : Channel) : (s.setChannel c r).mode = s.mode := rfl
@[simp] theorem State.setChannel_blockCount (s : State) (c : ChanId) (r : Channel) : (s.setChannel c r).blockCount = s.blockCount := rfl
@[simp] theorem State.setChannel_ports (s : State) (c : ChanId) (r : Channel) : (s.setChannel c r).ports = s.ports := rfl
@[simp] theorem State.setChannel_lanes (s : State) (c : ChanId) (r : Channel) : (s.setChannel c r).lanes = s.lanes := rfl
@[simp] theorem State.setChannel_paths (s : State) (c : ChanId) (r : Channel) : (s.setChannel c r).paths = s.paths := rfl
@[simp] theorem State.setChannel_mix (s : State) (c : ChanId) (r : Channel) : (s.setChannel c r).mix = s.mix := rfl
@[simp] theorem State.setChannel_keys (s : State) (c : ChanId) (r : Channel) : (s.setChannel c r).keys = s.keys := rfl
@[simp] theorem State.setChannel_groups (s : State) (c : ChanId) (r : Channel) : (s.setChannel c r).groups = s.groups := rfl
@[simp] theorem State.setChannel_ears (s : State) (c : ChanId) (r : Channel) : (s.setChannel c r).ears = s.ears := rfl
@[simp] theorem State.setChannel_rx (s : State) (c : ChanId) (r : Channel) : (s.setChannel c r).rx = { s.rx with channels := tableSet s.rx.channels c r } := rfl
@[simp] theorem State.setChannel_tx (s : State) (c : ChanId) (r : Channel) : (s.setChannel c r).tx = s.tx := rfl
@[simp] theorem State.setChannel_checks (s : State) (c : ChanId) (r : Channel) : (s.setChannel c r).checks = s.checks := rfl
@[simp] theorem State.setChannel_gov (s : State) (c : ChanId) (r : Channel) : (s.setChannel c r).gov = s.gov := rfl
@[simp] theorem State.setChannel_routes (s : State) (c : ChanId) (r : Channel) : (s.setChannel c r).routes = s.routes := rfl
@[simp] theorem State.setChannel_link (s : State) (c : ChanId) (r : Channel) : (s.setChannel c r).link = s.link := rfl
@[simp] theorem State.setChannel_eventBlock (s : State) (c : ChanId) (r : Channel) : (s.setChannel c r).eventBlock = s.eventBlock := rfl
@[simp] theorem State.setChannel_pending (s : State) (c : ChanId) (r : Channel) : (s.setChannel c r).pending = s.pending := rfl

/-! ## State.setCheck -/

@[simp] theorem State.setCheck_rstnLow (s : State) (c : ChanId) (r : Check) : (s.setCheck c r).rstnLow = s.rstnLow := rfl
@[simp] theorem State.setCheck_mode (s : State) (c : ChanId) (r : Check) : (s.setCheck c r).mode = s.mode := rfl
@[simp] theorem State.setCheck_blockCount (s : State) (c : ChanId) (r : Check) : (s.setCheck c r).blockCount = s.blockCount := rfl
@[simp] theorem State.setCheck_ports (s : State) (c : ChanId) (r : Check) : (s.setCheck c r).ports = s.ports := rfl
@[simp] theorem State.setCheck_lanes (s : State) (c : ChanId) (r : Check) : (s.setCheck c r).lanes = s.lanes := rfl
@[simp] theorem State.setCheck_paths (s : State) (c : ChanId) (r : Check) : (s.setCheck c r).paths = s.paths := rfl
@[simp] theorem State.setCheck_mix (s : State) (c : ChanId) (r : Check) : (s.setCheck c r).mix = s.mix := rfl
@[simp] theorem State.setCheck_keys (s : State) (c : ChanId) (r : Check) : (s.setCheck c r).keys = s.keys := rfl
@[simp] theorem State.setCheck_groups (s : State) (c : ChanId) (r : Check) : (s.setCheck c r).groups = s.groups := rfl
@[simp] theorem State.setCheck_ears (s : State) (c : ChanId) (r : Check) : (s.setCheck c r).ears = s.ears := rfl
@[simp] theorem State.setCheck_rx (s : State) (c : ChanId) (r : Check) : (s.setCheck c r).rx = s.rx := rfl
@[simp] theorem State.setCheck_tx (s : State) (c : ChanId) (r : Check) : (s.setCheck c r).tx = s.tx := rfl
@[simp] theorem State.setCheck_checks (s : State) (c : ChanId) (r : Check) : (s.setCheck c r).checks = tableSet s.checks c r := rfl
@[simp] theorem State.setCheck_gov (s : State) (c : ChanId) (r : Check) : (s.setCheck c r).gov = s.gov := rfl
@[simp] theorem State.setCheck_routes (s : State) (c : ChanId) (r : Check) : (s.setCheck c r).routes = s.routes := rfl
@[simp] theorem State.setCheck_link (s : State) (c : ChanId) (r : Check) : (s.setCheck c r).link = s.link := rfl
@[simp] theorem State.setCheck_eventBlock (s : State) (c : ChanId) (r : Check) : (s.setCheck c r).eventBlock = s.eventBlock := rfl
@[simp] theorem State.setCheck_pending (s : State) (c : ChanId) (r : Check) : (s.setCheck c r).pending = s.pending := rfl

/-! ## State.setProtection -/

@[simp] theorem State.setProtection_rstnLow (s : State) (p : PortId) (r : Protection) : (s.setProtection p r).rstnLow = s.rstnLow := rfl
@[simp] theorem State.setProtection_mode (s : State) (p : PortId) (r : Protection) : (s.setProtection p r).mode = s.mode := rfl
@[simp] theorem State.setProtection_blockCount (s : State) (p : PortId) (r : Protection) : (s.setProtection p r).blockCount = s.blockCount := rfl
@[simp] theorem State.setProtection_ports (s : State) (p : PortId) (r : Protection) : (s.setProtection p r).ports = s.ports := rfl
@[simp] theorem State.setProtection_lanes (s : State) (p : PortId) (r : Protection) : (s.setProtection p r).lanes = s.lanes := rfl
@[simp] theorem State.setProtection_paths (s : State) (p : PortId) (r : Protection) : (s.setProtection p r).paths = s.paths := rfl
@[simp] theorem State.setProtection_mix (s : State) (p : PortId) (r : Protection) : (s.setProtection p r).mix = s.mix := rfl
@[simp] theorem State.setProtection_keys (s : State) (p : PortId) (r : Protection) : (s.setProtection p r).keys = s.keys := rfl
@[simp] theorem State.setProtection_groups (s : State) (p : PortId) (r : Protection) : (s.setProtection p r).groups = s.groups := rfl
@[simp] theorem State.setProtection_ears (s : State) (p : PortId) (r : Protection) : (s.setProtection p r).ears = s.ears := rfl
@[simp] theorem State.setProtection_rx (s : State) (p : PortId) (r : Protection) : (s.setProtection p r).rx = s.rx := rfl
@[simp] theorem State.setProtection_tx (s : State) (p : PortId) (r : Protection) : (s.setProtection p r).tx = s.tx := rfl
@[simp] theorem State.setProtection_checks (s : State) (p : PortId) (r : Protection) : (s.setProtection p r).checks = s.checks := rfl
@[simp] theorem State.setProtection_gov (s : State) (p : PortId) (r : Protection) : (s.setProtection p r).gov = { s.gov with records := tableSet s.gov.records p r } := rfl
@[simp] theorem State.setProtection_routes (s : State) (p : PortId) (r : Protection) : (s.setProtection p r).routes = s.routes := rfl
@[simp] theorem State.setProtection_link (s : State) (p : PortId) (r : Protection) : (s.setProtection p r).link = s.link := rfl
@[simp] theorem State.setProtection_eventBlock (s : State) (p : PortId) (r : Protection) : (s.setProtection p r).eventBlock = s.eventBlock := rfl
@[simp] theorem State.setProtection_pending (s : State) (p : PortId) (r : Protection) : (s.setProtection p r).pending = s.pending := rfl

/-! ## State.openWrite -/

@[simp] theorem State.openWrite_rstnLow (s : State) : (s.openWrite).rstnLow = s.rstnLow := rfl
@[simp] theorem State.openWrite_mode (s : State) : (s.openWrite).mode = s.mode := rfl
@[simp] theorem State.openWrite_blockCount (s : State) : (s.openWrite).blockCount = s.blockCount := rfl
@[simp] theorem State.openWrite_ports (s : State) : (s.openWrite).ports = s.ports := rfl
@[simp] theorem State.openWrite_lanes (s : State) : (s.openWrite).lanes = s.lanes := rfl
@[simp] theorem State.openWrite_paths (s : State) : (s.openWrite).paths = s.paths := rfl
@[simp] theorem State.openWrite_mix (s : State) : (s.openWrite).mix = s.mix := rfl
@[simp] theorem State.openWrite_keys (s : State) : (s.openWrite).keys = s.keys := rfl
@[simp] theorem State.openWrite_groups (s : State) : (s.openWrite).groups = s.groups := rfl
@[simp] theorem State.openWrite_ears (s : State) : (s.openWrite).ears = s.ears := rfl
@[simp] theorem State.openWrite_rx (s : State) : (s.openWrite).rx = s.rx := rfl
@[simp] theorem State.openWrite_tx (s : State) : (s.openWrite).tx = s.tx := rfl
@[simp] theorem State.openWrite_checks (s : State) : (s.openWrite).checks = s.checks := rfl
@[simp] theorem State.openWrite_gov (s : State) : (s.openWrite).gov = s.gov := rfl
@[simp] theorem State.openWrite_routes (s : State) : (s.openWrite).routes = s.routes := rfl
@[simp] theorem State.openWrite_link (s : State) : (s.openWrite).link = { s.link with
    reading := none, writing := false, statusOut := if s.link.writing then s.link.statusOut else s.statusByte } := rfl
@[simp] theorem State.openWrite_eventBlock (s : State) : (s.openWrite).eventBlock = s.eventBlock := rfl
@[simp] theorem State.openWrite_pending (s : State) : (s.openWrite).pending = s.pending := rfl

/-! ## State.refuseWrite -/

@[simp] theorem State.refuseWrite_rstnLow (s : State) : (s.refuseWrite).rstnLow = s.rstnLow := rfl
@[simp] theorem State.refuseWrite_mode (s : State) : (s.refuseWrite).mode = s.mode := rfl
@[simp] theorem State.refuseWrite_blockCount (s : State) : (s.refuseWrite).blockCount = s.blockCount := rfl
@[simp] theorem State.refuseWrite_ports (s : State) : (s.refuseWrite).ports = s.ports := rfl
@[simp] theorem State.refuseWrite_lanes (s : State) : (s.refuseWrite).lanes = s.lanes := rfl
@[simp] theorem State.refuseWrite_paths (s : State) : (s.refuseWrite).paths = s.paths := rfl
@[simp] theorem State.refuseWrite_mix (s : State) : (s.refuseWrite).mix = s.mix := rfl
@[simp] theorem State.refuseWrite_keys (s : State) : (s.refuseWrite).keys = s.keys := rfl
@[simp] theorem State.refuseWrite_groups (s : State) : (s.refuseWrite).groups = s.groups := rfl
@[simp] theorem State.refuseWrite_ears (s : State) : (s.refuseWrite).ears = s.ears := rfl
@[simp] theorem State.refuseWrite_rx (s : State) : (s.refuseWrite).rx = s.rx := rfl
@[simp] theorem State.refuseWrite_tx (s : State) : (s.refuseWrite).tx = s.tx := rfl
@[simp] theorem State.refuseWrite_checks (s : State) : (s.refuseWrite).checks = s.checks := rfl
@[simp] theorem State.refuseWrite_gov (s : State) : (s.refuseWrite).gov = s.gov := rfl
@[simp] theorem State.refuseWrite_routes (s : State) : (s.refuseWrite).routes = s.routes := rfl
@[simp] theorem State.refuseWrite_link (s : State) : (s.refuseWrite).link = { s.link with writeRefused := true } := rfl
@[simp] theorem State.refuseWrite_eventBlock (s : State) : (s.refuseWrite).eventBlock = s.eventBlock := rfl
@[simp] theorem State.refuseWrite_pending (s : State) : (s.refuseWrite).pending = s.pending := rfl

/-! ## State.report -/

@[simp] theorem State.report_rstnLow (s : State) (n : Notice) : (s.report n).rstnLow = s.rstnLow := rfl
@[simp] theorem State.report_mode (s : State) (n : Notice) : (s.report n).mode = s.mode := rfl
@[simp] theorem State.report_blockCount (s : State) (n : Notice) : (s.report n).blockCount = s.blockCount := rfl
@[simp] theorem State.report_ports (s : State) (n : Notice) : (s.report n).ports = s.ports := rfl
@[simp] theorem State.report_lanes (s : State) (n : Notice) : (s.report n).lanes = s.lanes := rfl
@[simp] theorem State.report_paths (s : State) (n : Notice) : (s.report n).paths = s.paths := rfl
@[simp] theorem State.report_mix (s : State) (n : Notice) : (s.report n).mix = s.mix := rfl
@[simp] theorem State.report_keys (s : State) (n : Notice) : (s.report n).keys = s.keys := rfl
@[simp] theorem State.report_groups (s : State) (n : Notice) : (s.report n).groups = s.groups := rfl
@[simp] theorem State.report_ears (s : State) (n : Notice) : (s.report n).ears = s.ears := rfl
@[simp] theorem State.report_rx (s : State) (n : Notice) : (s.report n).rx = s.rx := rfl
@[simp] theorem State.report_tx (s : State) (n : Notice) : (s.report n).tx = s.tx := rfl
@[simp] theorem State.report_checks (s : State) (n : Notice) : (s.report n).checks = s.checks := rfl
@[simp] theorem State.report_gov (s : State) (n : Notice) : (s.report n).gov = s.gov := rfl
@[simp] theorem State.report_routes (s : State) (n : Notice) : (s.report n).routes = s.routes := rfl
@[simp] theorem State.report_link (s : State) (n : Notice) : (s.report n).link = s.link.report n := rfl
@[simp] theorem State.report_eventBlock (s : State) (n : Notice) : (s.report n).eventBlock = s.eventBlock := rfl
@[simp] theorem State.report_pending (s : State) (n : Notice) : (s.report n).pending = s.pending := rfl

/-! ## State.queueReply -/

@[simp] theorem State.queueReply_rstnLow (s : State) (r : Reply) : (s.queueReply r).rstnLow = s.rstnLow := rfl
@[simp] theorem State.queueReply_mode (s : State) (r : Reply) : (s.queueReply r).mode = s.mode := rfl
@[simp] theorem State.queueReply_blockCount (s : State) (r : Reply) : (s.queueReply r).blockCount = s.blockCount := rfl
@[simp] theorem State.queueReply_ports (s : State) (r : Reply) : (s.queueReply r).ports = s.ports := rfl
@[simp] theorem State.queueReply_lanes (s : State) (r : Reply) : (s.queueReply r).lanes = s.lanes := rfl
@[simp] theorem State.queueReply_paths (s : State) (r : Reply) : (s.queueReply r).paths = s.paths := rfl
@[simp] theorem State.queueReply_mix (s : State) (r : Reply) : (s.queueReply r).mix = s.mix := rfl
@[simp] theorem State.queueReply_keys (s : State) (r : Reply) : (s.queueReply r).keys = s.keys := rfl
@[simp] theorem State.queueReply_groups (s : State) (r : Reply) : (s.queueReply r).groups = s.groups := rfl
@[simp] theorem State.queueReply_ears (s : State) (r : Reply) : (s.queueReply r).ears = s.ears := rfl
@[simp] theorem State.queueReply_rx (s : State) (r : Reply) : (s.queueReply r).rx = s.rx := rfl
@[simp] theorem State.queueReply_tx (s : State) (r : Reply) : (s.queueReply r).tx = s.tx := rfl
@[simp] theorem State.queueReply_checks (s : State) (r : Reply) : (s.queueReply r).checks = s.checks := rfl
@[simp] theorem State.queueReply_gov (s : State) (r : Reply) : (s.queueReply r).gov = s.gov := rfl
@[simp] theorem State.queueReply_routes (s : State) (r : Reply) : (s.queueReply r).routes = s.routes := rfl
@[simp] theorem State.queueReply_link (s : State) (r : Reply) : (s.queueReply r).link = { s.link with replies := s.link.replies ++ [r] } := rfl
@[simp] theorem State.queueReply_eventBlock (s : State) (r : Reply) : (s.queueReply r).eventBlock = s.eventBlock := rfl
@[simp] theorem State.queueReply_pending (s : State) (r : Reply) : (s.queueReply r).pending = s.pending := rfl

end Sys2Proof.Machine
end

