-- ==== Sys2Proof/Laws/Changes.lean ====
section
/-! SUPPORT. What delivering, withdrawing and serving keys can do to the state: every shared operation of chapters 2, 4, 5 and 6 is a
succession of the elementary changes below. A fact that each elementary change keeps is kept by all of them. -/

namespace Sys2Proof.Machine

/-- The written part of a group is that of another record, and its queue is no longer than 4 or than it was. -/
structure GroupRecord.sameGroup (r r' : GroupRecord) : Prop where
  mode : r'.mode = r.mode
  timeout : r'.timeout = r.timeout
  ports : r'.members.map Member.port = r.members.map Member.port
  waiters : r'.waiters.length ≤ 4 ∨ r'.waiters.length ≤ r.waiters.length

/-- One elementary change made by delivering, withdrawing or serving a key. -/
inductive Change (s : State) : State → Prop where
  | report (n : Notice) : Change s (s.report n)
  | key (k : KeyId) (r : KeyRecord) (same : s.keys[k].sameKey r) : Change s (s.setKey k r)
  | group (g : GroupId) (r : GroupRecord) (same : s.groups[g].sameGroup r) : Change s (s.setGroup g r)
  | ear (p : PortId) (e e' : Ear) (present : s.ears[p] = some e) (wf : e.wf → e'.wf) : Change s (s.setEar p (some e'))
  | touch (id : PathId) (f : Path → Path) (fixed : ∀ q, (f q).pos = q.pos ∧ (f q).ident = q.ident) :
      Change s (s.touchPath id f)
  | create (id : PathId) (h : Holder) (asked : Bool) (absent : s.findPath id = none) (room : s.roomForNew id = true) :
      Change s (s.createPath id h asked)

/-- A succession of elementary changes. -/
abbrev Changes : State → State → Prop := Relation.ReflTransGen Change

theorem Changes.refl (s : State) : Changes s s := Relation.ReflTransGen.refl
theorem Change.all {s t : State} (h : Change s t) : Changes s t := Relation.ReflTransGen.single h
theorem Changes.trans {s t u : State} (h : Changes s t) (h' : Changes t u) : Changes s u :=
  Relation.ReflTransGen.trans h h'
theorem Changes.then {s t u : State} (h : Changes s t) (h' : Change t u) : Changes s u := h.tail h'

/-- A fold of steps that each make changes makes changes. -/
theorem Changes.foldl {α : Type} (f : State → α → State) (hf : ∀ s x, Changes s (f s x)) (xs : List α) (s : State) :
    Changes s (xs.foldl f s) := by
  induction xs generalizing s with
  | nil => exact .refl s
  | cons x xs ih => exact (hf s x).trans (ih (f s x))

/-! ## The path table -/

theorem Path.join_fixed (h : Holder) (q : Path) : (Path.join h q).pos = q.pos ∧ (Path.join h q).ident = q.ident := by
  cases h <;> exact ⟨rfl, rfl⟩

theorem Path.reopen_fixed (h : Holder) (asked : Bool) (q : Path) :
    (Path.reopen h asked q).pos = q.pos ∧ (Path.reopen h asked q).ident = q.ident := by
  cases h <;> exact ⟨rfl, rfl⟩

theorem Path.leave_fixed (h : Holder) (q : Path) : (Path.leave h q).pos = q.pos ∧ (Path.leave h q).ident = q.ident := by
  unfold Path.leave
  cases h <;> (dsimp only; split <;> [split; skip]) <;> exact ⟨rfl, rfl⟩

theorem Path.suspend_fixed (q : Path) : q.suspend.pos = q.pos ∧ q.suspend.ident = q.ident := by
  unfold Path.suspend; split <;> exact ⟨rfl, rfl⟩

theorem Path.resume_fixed (q : Path) : q.resume.pos = q.pos ∧ q.resume.ident = q.ident := by
  unfold Path.resume; split <;> exact ⟨rfl, rfl⟩

theorem State.addHolder_changes (id : PathId) (h : Holder) (asked : Bool) (s : State) :
    Changes s (s.addHolder id h asked).1 := by
  unfold State.addHolder
  split
  · rename_i none
    split
    · rename_i room; exact (Change.create id h asked none room).all
    · exact .refl s
  · split
    · exact (Change.touch id _ (Path.reopen_fixed h asked)).all
    · exact (Change.touch id _ (Path.join_fixed h)).all

theorem State.removeHolder_changes (id : PathId) (h : Holder) (s : State) : Changes s (s.removeHolder id h) :=
  (Change.touch id _ (Path.leave_fixed h)).all

theorem State.suspendPath_changes (id : PathId) (s : State) : Changes s (s.suspendPath id) :=
  (Change.touch id _ Path.suspend_fixed).all

theorem State.resumePath_changes (id : PathId) (s : State) : Changes s (s.resumePath id) :=
  (Change.touch id _ Path.resume_fixed).all

theorem State.relevelPath_changes (id : PathId) (s : State) : Changes s (s.relevelPath id) :=
  (Change.touch id _ fun _ => ⟨rfl, rfl⟩).all

/-! ## Key records -/

theorem KeyRecord.sameKey_self (r : KeyRecord) : r.sameKey r := by constructor <;> rfl

theorem State.appendEntry_changes (k : KeyId) (e : DestEntry) (s : State) : Changes s (s.appendEntry k e) :=
  Changes.then (t := s.setKey k { s.keys[k] with entries := s.keys[k].entries ++ [e] })
    (Change.key k _ (by constructor <;> rfl)).all (.report (.key k))

theorem State.reportStanding_changes (k : KeyId) (p : PortId) (st : EntryStatus) (s : State) :
    Changes s (s.reportStanding k p st) := by
  unfold State.reportStanding
  dsimp only
  exact Changes.then (Change.key k _ (by constructor <;> rfl)).all (.report (.key k))

/-! ## The earpiece unit -/

theorem State.onKeyPath_changes (k : KeyId) (p : PortId) (f : PathId → State → State)
    (hf : ∀ id s, Changes s (f id s)) (s : State) : Changes s (s.onKeyPath k p f) := by
  unfold State.onKeyPath; split
  · exact hf _ s
  · exact .refl s

theorem State.demoteHead_changes (p : PortId) (k : KeyId) (prev : Option TalkEntry) (s : State) :
    Changes s (s.demoteHead p k prev) := by
  unfold State.demoteHead; split
  · exact .refl s
  · refine Changes.trans ?_ (State.reportStanding_changes _ _ _ _)
    split
    · exact .refl s
    · exact State.onKeyPath_changes _ _ _ (fun id s => s.suspendPath_changes id) s

/-- R100: an entry is placed behind those of equal or higher priority. -/
theorem placeEntry_wf {es : List TalkEntry} (e : TalkEntry)
    (h : es.Pairwise fun a b : TalkEntry => b.priority ≤ a.priority) :
    (placeEntry e es).Pairwise fun a b : TalkEntry => b.priority ≤ a.priority := by
  induction es with
  | nil => simp [placeEntry]
  | cons x xs ih =>
    rw [List.pairwise_cons] at h
    by_cases hx : e.priority ≤ x.priority
    · have hp : placeEntry e (x :: xs) = x :: placeEntry e xs := by simp [placeEntry, hx]
      rw [hp, List.pairwise_cons]
      refine ⟨fun y hy => ?_, ih h.2⟩
      have : y = e ∨ y ∈ xs := by
        simp only [placeEntry, List.mem_append, List.mem_cons] at hy
        rcases hy with hy | rfl | hy
        · exact .inr ((List.takeWhile_subset _) hy)
        · exact .inl rfl
        · exact .inr ((List.dropWhile_subset _) hy)
      rcases this with rfl | hy
      · exact hx
      · exact h.1 y hy
    · have hp : placeEntry e (x :: xs) = e :: x :: xs := by simp [placeEntry, hx]
      rw [hp, List.pairwise_cons, List.pairwise_cons]
      refine ⟨fun y hy => ?_, h⟩
      rcases List.mem_cons.1 hy with rfl | hy
      · omega
      · have := h.1 y hy; omega

theorem placeEntry_length (e : TalkEntry) (es : List TalkEntry) : (placeEntry e es).length = es.length + 1 := by
  have : (es.takeWhile (fun x : TalkEntry => decide (e.priority ≤ x.priority)) ++
      es.dropWhile (fun x : TalkEntry => decide (e.priority ≤ x.priority))).length = es.length := by
    rw [List.takeWhile_append_dropWhile]
  rw [List.length_append] at this
  simp only [placeEntry, List.length_append, List.length_cons]; omega

theorem State.admit_changes (p : PortId) (k : KeyId) (e e0 : Ear) (s : State) (h0 : s.ears[p] = some e0)
    (he : e0.wf → e.wf) (room : e.entries.length < 4) : Changes s (s.takeIn p k e).1 := by
  unfold State.takeIn
  have step : ∀ d n, Change s (s.setEar p (some ⟨placeEntry ⟨k, s.keys[k].priority, e.count + 1⟩ e.entries, n, d⟩)) :=
    fun d n => .ear p e0 _ h0 fun hw =>
      ⟨by rw [placeEntry_length]; exact room, placeEntry_wf _ (he hw).2⟩
  dsimp only
  split
  · exact (((step _ _).all.then (.report _)).trans (State.demoteHead_changes _ _ _ _)).trans
      (State.onKeyPath_changes _ _ _ (fun id s => s.resumePath_changes id) _)
  · exact (step _ _).all.then (.report _)

@[simp] theorem State.reportOpening_ears (d : Endpoint) (s : State) : (s.reportOpening d).ears = s.ears := by
  unfold State.reportOpening; split
  · rfl
  · split <;> simp

@[simp] theorem State.openingIfRaised_ears (a b : Nat) (d : Endpoint) (s : State) :
    (s.openingIfRaised a b d).ears = s.ears := by
  unfold State.openingIfRaised; split <;> simp

@[simp] theorem State.touchPath_ears (id : PathId) (f : Path → Path) (s : State) : (s.touchPath id f).ears = s.ears := by
  unfold State.touchPath; split <;> simp

@[simp] theorem State.reportStanding_ears (k : KeyId) (p : PortId) (st : EntryStatus) (s : State) :
    (s.reportStanding k p st).ears = s.ears := rfl

@[simp] theorem State.removeHolder_ears (id : PathId) (h : Holder) (s : State) : (s.removeHolder id h).ears = s.ears :=
  State.touchPath_ears _ _ _

theorem Ear.lessLast_wf {e : Ear} (h : e.wf) : e.lessLast.wf :=
  ⟨Nat.le_trans (List.length_take_le _ _) (by decide), h.2.sublist (List.take_sublist _ _)⟩

theorem Ear.lessLast_length (e : Ear) : e.lessLast.entries.length < 4 :=
  Nat.lt_of_le_of_lt (List.length_take_le _ _) (by decide)

theorem State.evict_changes (p : PortId) (e : Ear) (v : TalkEntry) (s : State) (h : s.ears[p] = some e) :
    Changes s (s.evict p e v) := by
  unfold State.evict
  exact ((((Change.ear p e _ h Ear.lessLast_wf).all.then (.report _)).trans
    (State.onKeyPath_changes _ _ _ (fun id s => s.removeHolder_changes id _) _)).trans
    (State.reportStanding_changes _ _ _ _))

theorem State.evict_ears (p : PortId) (e : Ear) (v : TalkEntry) (s : State) :
    (s.evict p e v).ears = tableSet s.ears p (some e.lessLast) := by
  unfold State.evict State.onKeyPath
  dsimp only
  split <;> simp

theorem State.offer_changes (p : PortId) (k : KeyId) (s : State) : Changes s (s.offer p k).1 := by
  unfold State.offer
  split
  · exact .refl s
  · rename_i e he
    split
    · rename_i room; exact State.admit_changes p k e e s he id room
    · split
      · exact .refl s
      · rename_i v _
        split
        · refine (State.evict_changes p e v s he).trans
            (State.admit_changes p k _ e.lessLast _ ?_ id e.lessLast_length)
          rw [State.evict_ears, tableSet_self]
        · exact .refl s

theorem State.promoteHead_changes (p : PortId) (head : Option TalkEntry) (s : State) :
    Changes s (s.promoteHead p head) := by
  unfold State.promoteHead; split
  · exact .refl s
  · exact (State.onKeyPath_changes _ _ _ (fun id s => s.resumePath_changes id) _).trans
      (State.reportStanding_changes _ _ _ _)

theorem State.depart_changes (p : PortId) (k : KeyId) (s : State) : Changes s (s.depart p k).1 := by
  unfold State.depart
  split
  · exact .refl s
  · rename_i e he
    split
    · dsimp only
      have leave : ∀ n d, Change s (s.setEar p (some (if (e.entries.filter fun x : TalkEntry => decide (x.key ≠ k)).isEmpty
          then ⟨[], n, d⟩ else { e with entries := e.entries.filter fun x : TalkEntry => decide (x.key ≠ k) }))) := by
        intro n d
        refine .ear p e _ he fun hw => ?_
        split
        · exact ⟨by simp, .nil⟩
        · exact ⟨Nat.le_trans (List.length_filter_le _ _) hw.1, hw.2.sublist List.filter_sublist⟩
      have first := (leave 0 (e.dip.aim Config.noDip)).all.then (.report (.earpiece p))
      have second : ∀ (wasHead : Bool) (np : Option PathId) (h : Option TalkEntry) (u : State),
          Changes u (if wasHead then
            (if np = u.keyPath k (.port p) then u else u.onKeyPath k p State.suspendPath).promoteHead p h else u) := by
        intro wasHead np h u
        cases wasHead
        · exact .refl u
        · refine Changes.trans ?_ (State.promoteHead_changes _ _ _)
          split
          · exact .refl u
          · exact State.onKeyPath_changes _ _ _ (fun id s => s.suspendPath_changes id) u
      exact first.trans (second _ _ _ _)
    · exact .refl s

/-! ## Delivery and groups -/

theorem State.deliverPlain_changes (k : KeyId) (d : Endpoint) (id : PathId) (s : State) :
    Changes s (s.deliverPlain k d id) :=
  (State.addHolder_changes _ _ _ _).trans (State.appendEntry_changes _ _ _)

theorem State.deliverEarpiece_changes (k : KeyId) (p : PortId) (id : PathId) (s : State) :
    Changes s (s.deliverEarpiece k p id) := by
  unfold State.deliverEarpiece
  split
  · dsimp only
    split
    · exact ((State.offer_changes _ _ _).trans (State.addHolder_changes _ _ _ _)).trans (State.appendEntry_changes _ _ _)
    · exact ((State.offer_changes _ _ _).trans (State.addHolder_changes _ _ _ _)).trans (State.appendEntry_changes _ _ _)
    · exact (State.offer_changes _ _ _).trans (State.appendEntry_changes _ _ _)
  · exact State.appendEntry_changes _ _ _

theorem State.deliverTo_changes (k : KeyId) (d : Endpoint) (s : State) : Changes s (s.deliverTo k d) := by
  unfold State.deliverTo
  split
  · exact .refl s
  · split
    · exact State.deliverPlain_changes _ _ _ _
    · split
      · exact State.deliverEarpiece_changes _ _ _ _
      · exact State.deliverPlain_changes _ _ _ _

theorem GroupRecord.sameGroup_engage (p : PortId) (k : KeyId) (r : GroupRecord) : r.sameGroup (r.engage p k) := by
  refine ⟨rfl, rfl, ?_, .inr (Nat.le_refl _)⟩
  simp only [GroupRecord.engage, List.map_map]
  refine List.map_congr_left fun m _ => ?_
  simp only [Function.comp_apply]; split <;> rfl

theorem GroupRecord.sameGroup_disengage (k : KeyId) (r : GroupRecord) : r.sameGroup (r.disengage k) := by
  refine ⟨rfl, rfl, ?_, .inr (Nat.le_refl _)⟩
  simp only [GroupRecord.disengage, List.map_map]
  refine List.map_congr_left fun m _ => ?_
  simp only [Function.comp_apply]; split <;> rfl

theorem State.huntDeliver_changes (g : GroupId) (k : KeyId) (p : PortId) (s : State) :
    Changes s (s.huntDeliver g k p) :=
  Changes.trans (Change.group g _ (GroupRecord.sameGroup_engage p k _)).all (State.deliverTo_changes _ _ _)

theorem State.joinQueue_changes (g : GroupId) (k : KeyId) (s : State) : Changes s (s.joinQueue g k) := by
  unfold State.joinQueue
  dsimp only
  split
  · rename_i room
    exact Changes.then (Changes.then (Change.group g _ (by exact ⟨rfl, rfl, rfl, .inl (by rw [List.length_append]; exact room)⟩)).all
      (.key k _ (by constructor <;> rfl))) (.report (.key k))
  · exact State.appendEntry_changes _ _ _

theorem State.leaveQueue_changes (g : GroupId) (k : KeyId) (s : State) : Changes s (s.leaveQueue g k) :=
  Changes.then (Change.group g _ (by exact ⟨rfl, rfl, rfl, .inr (List.length_filter_le _ _)⟩)).all
    (.key k _ (by constructor <;> rfl))

theorem State.servicePass_changes (g : GroupId) (n : Nat) (s : State) : Changes s (s.servicePass g n) := by
  induction n generalizing s with
  | zero => exact .refl s
  | succ n ih =>
    unfold State.servicePass
    split
    · exact .refl s
    · exact ((State.leaveQueue_changes _ _ _).trans (State.huntDeliver_changes _ _ _ _)).trans (ih _)

theorem State.runPasses_changes (t : Triggers) (s : State) : Changes s (s.runPasses t) :=
  Changes.foldl _ (fun s g => by split; exacts [State.servicePass_changes _ _ _, .refl s]) _ s

theorem State.deliverAll_changes (k : KeyId) (ms : List PortId) (s : State) : Changes s (s.deliverAll k ms) :=
  Changes.foldl _ (fun s p => by split; exacts [.refl s, State.deliverTo_changes _ _ _]) _ s

theorem State.deliverGroup_changes (k : KeyId) (g : GroupId) (s : State) : Changes s (s.deliverGroup k g) := by
  unfold State.deliverGroup
  dsimp only
  split
  · exact .refl s
  · split
    · exact State.deliverAll_changes _ _ _
    · split
      · exact State.huntDeliver_changes _ _ _ _
      · exact State.joinQueue_changes _ _ _

theorem State.deliver_changes (k : KeyId) (s : State) : Changes s (s.deliver k) := by
  unfold State.deliver
  have first : Changes s (s.setKey k { s.keys[k] with delivered := true, entries := [] }) :=
    (Change.key k _ (by constructor <;> rfl)).all
  refine first.trans ?_
  dsimp only
  split
  · exact .refl _
  · exact State.deliverTo_changes _ _ _
  · exact State.deliverTo_changes _ _ _
  · exact State.deliverGroup_changes _ _ _

/-! ## Withdrawal -/

theorem State.leaveEarpiece_changes (k : KeyId) (e : DestEntry) (a : State × List PortId) :
    Changes a.1 (State.leaveEarpiece k e a).1 := by
  unfold State.leaveEarpiece
  split
  · split
    · exact State.depart_changes _ _ _
    · exact .refl _
  · exact .refl _

theorem State.leaveEarpieces_changes (k : KeyId) (es : List DestEntry) (a : State × List PortId) :
    Changes a.1 (es.foldl (fun acc e => State.leaveEarpiece k e acc) a).1 := by
  induction es generalizing a with
  | nil => exact .refl _
  | cons e es ih => exact (State.leaveEarpiece_changes k e a).trans (ih _)

theorem State.leavePath_changes (k : KeyId) (e : DestEntry) (s : State) : Changes s (s.leavePath k e) := by
  unfold State.leavePath
  split
  · split
    · split
      · exact State.removeHolder_changes _ _ _
      · exact .refl s
    · exact .refl s
  · exact .refl s

theorem State.leaveGroup_changes (g : GroupId) (k : KeyId) (s : State) :
    Changes s (
      let s3 := if s.keys[k].deadline.isSome then s.leaveQueue g k else s
      if s3.groups[g].engagedFor k then (s3.setGroup g (s3.groups[g].disengage k), some g) else (s3, none)).1 := by
  have queue : Changes s (if s.keys[k].deadline.isSome then s.leaveQueue g k else s) := by
    split
    exacts [State.leaveQueue_changes _ _ _, .refl s]
  dsimp only
  generalize (if s.keys[k].deadline.isSome then s.leaveQueue g k else s) = u at queue ⊢
  split
  · exact queue.then (.group g _ (GroupRecord.sameGroup_disengage k _))
  · exact queue

theorem State.withdraw_changes (k : KeyId) (s : State) : Changes s (s.withdraw k).1 := by
  unfold State.withdraw
  dsimp only
  refine Changes.then ((State.leaveEarpieces_changes k s.keys[k].entries (s, [])).trans (Changes.trans
    (Changes.foldl _ (fun s e => State.leavePath_changes k e s) s.keys[k].entries _) ?_))
    (.key k _ (by constructor <;> rfl))
  split
  · rename_i g _
    exact State.leaveGroup_changes g k _
  · exact .refl _

theorem State.keyAction_changes (k : KeyId) (a : KeyAction) (s : State) : Changes s (s.keyAction k a) := by
  unfold State.keyAction
  split
  · exact State.deliver_changes _ _
  · exact (State.withdraw_changes _ _).trans (State.runPasses_changes _ _)
  · exact .refl s

theorem State.timeOut_changes (g : GroupId) (k : KeyId) (s : State) : Changes s (s.timeOut g k) :=
  (State.leaveQueue_changes _ _ _).trans (State.appendEntry_changes _ _ _)

end Sys2Proof.Machine
end

