-- ==== Sys2Proof/Laws/Kept.lean ====
section
/-! SUPPORT. What the operations of the path table and the device's own steps leave alone. -/

namespace Sys2Proof.Machine

/-! ## The path table -/

@[simp] theorem State.reportOpening_rstnLow (d : Endpoint) (s : State) : (s.reportOpening d).rstnLow = s.rstnLow := by
  unfold State.reportOpening; split
  · rfl
  · split <;> simp

@[simp] theorem State.openingIfRaised_rstnLow (a b : Nat) (d : Endpoint) (s : State) : (s.openingIfRaised a b d).rstnLow = s.rstnLow := by
  unfold State.openingIfRaised; split <;> simp

@[simp] theorem State.touchPath_rstnLow (id : PathId) (f : Path → Path) (s : State) : (s.touchPath id f).rstnLow = s.rstnLow := by
  unfold State.touchPath; split <;> simp

@[simp] theorem State.createPath_rstnLow (id : PathId) (h : Holder) (asked : Bool) (s : State) :
    (s.createPath id h asked).rstnLow = s.rstnLow := by
  unfold State.createPath; simp

@[simp] theorem State.reportOpening_mode (d : Endpoint) (s : State) : (s.reportOpening d).mode = s.mode := by
  unfold State.reportOpening; split
  · rfl
  · split <;> simp

@[simp] theorem State.openingIfRaised_mode (a b : Nat) (d : Endpoint) (s : State) : (s.openingIfRaised a b d).mode = s.mode := by
  unfold State.openingIfRaised; split <;> simp

@[simp] theorem State.touchPath_mode (id : PathId) (f : Path → Path) (s : State) : (s.touchPath id f).mode = s.mode := by
  unfold State.touchPath; split <;> simp

@[simp] theorem State.createPath_mode (id : PathId) (h : Holder) (asked : Bool) (s : State) :
    (s.createPath id h asked).mode = s.mode := by
  unfold State.createPath; simp

@[simp] theorem State.reportOpening_blockCount (d : Endpoint) (s : State) : (s.reportOpening d).blockCount = s.blockCount := by
  unfold State.reportOpening; split
  · rfl
  · split <;> simp

@[simp] theorem State.openingIfRaised_blockCount (a b : Nat) (d : Endpoint) (s : State) : (s.openingIfRaised a b d).blockCount = s.blockCount := by
  unfold State.openingIfRaised; split <;> simp

@[simp] theorem State.touchPath_blockCount (id : PathId) (f : Path → Path) (s : State) : (s.touchPath id f).blockCount = s.blockCount := by
  unfold State.touchPath; split <;> simp

@[simp] theorem State.createPath_blockCount (id : PathId) (h : Holder) (asked : Bool) (s : State) :
    (s.createPath id h asked).blockCount = s.blockCount := by
  unfold State.createPath; simp

@[simp] theorem State.reportOpening_ports (d : Endpoint) (s : State) : (s.reportOpening d).ports = s.ports := by
  unfold State.reportOpening; split
  · rfl
  · split <;> simp

@[simp] theorem State.openingIfRaised_ports (a b : Nat) (d : Endpoint) (s : State) : (s.openingIfRaised a b d).ports = s.ports := by
  unfold State.openingIfRaised; split <;> simp

@[simp] theorem State.touchPath_ports (id : PathId) (f : Path → Path) (s : State) : (s.touchPath id f).ports = s.ports := by
  unfold State.touchPath; split <;> simp

@[simp] theorem State.createPath_ports (id : PathId) (h : Holder) (asked : Bool) (s : State) :
    (s.createPath id h asked).ports = s.ports := by
  unfold State.createPath; simp

@[simp] theorem State.reportOpening_lanes (d : Endpoint) (s : State) : (s.reportOpening d).lanes = s.lanes := by
  unfold State.reportOpening; split
  · rfl
  · split <;> simp

@[simp] theorem State.openingIfRaised_lanes (a b : Nat) (d : Endpoint) (s : State) : (s.openingIfRaised a b d).lanes = s.lanes := by
  unfold State.openingIfRaised; split <;> simp

@[simp] theorem State.touchPath_lanes (id : PathId) (f : Path → Path) (s : State) : (s.touchPath id f).lanes = s.lanes := by
  unfold State.touchPath; split <;> simp

@[simp] theorem State.createPath_lanes (id : PathId) (h : Holder) (asked : Bool) (s : State) :
    (s.createPath id h asked).lanes = s.lanes := by
  unfold State.createPath; simp

@[simp] theorem State.reportOpening_mix (d : Endpoint) (s : State) : (s.reportOpening d).mix = s.mix := by
  unfold State.reportOpening; split
  · rfl
  · split <;> simp

@[simp] theorem State.openingIfRaised_mix (a b : Nat) (d : Endpoint) (s : State) : (s.openingIfRaised a b d).mix = s.mix := by
  unfold State.openingIfRaised; split <;> simp

@[simp] theorem State.touchPath_mix (id : PathId) (f : Path → Path) (s : State) : (s.touchPath id f).mix = s.mix := by
  unfold State.touchPath; split <;> simp

@[simp] theorem State.createPath_mix (id : PathId) (h : Holder) (asked : Bool) (s : State) :
    (s.createPath id h asked).mix = s.mix := by
  unfold State.createPath; simp

@[simp] theorem State.reportOpening_keys (d : Endpoint) (s : State) : (s.reportOpening d).keys = s.keys := by
  unfold State.reportOpening; split
  · rfl
  · split <;> simp

@[simp] theorem State.openingIfRaised_keys (a b : Nat) (d : Endpoint) (s : State) : (s.openingIfRaised a b d).keys = s.keys := by
  unfold State.openingIfRaised; split <;> simp

@[simp] theorem State.touchPath_keys (id : PathId) (f : Path → Path) (s : State) : (s.touchPath id f).keys = s.keys := by
  unfold State.touchPath; split <;> simp

@[simp] theorem State.createPath_keys (id : PathId) (h : Holder) (asked : Bool) (s : State) :
    (s.createPath id h asked).keys = s.keys := by
  unfold State.createPath; simp

@[simp] theorem State.reportOpening_groups (d : Endpoint) (s : State) : (s.reportOpening d).groups = s.groups := by
  unfold State.reportOpening; split
  · rfl
  · split <;> simp

@[simp] theorem State.openingIfRaised_groups (a b : Nat) (d : Endpoint) (s : State) : (s.openingIfRaised a b d).groups = s.groups := by
  unfold State.openingIfRaised; split <;> simp

@[simp] theorem State.touchPath_groups (id : PathId) (f : Path → Path) (s : State) : (s.touchPath id f).groups = s.groups := by
  unfold State.touchPath; split <;> simp

@[simp] theorem State.createPath_groups (id : PathId) (h : Holder) (asked : Bool) (s : State) :
    (s.createPath id h asked).groups = s.groups := by
  unfold State.createPath; simp

@[simp] theorem State.createPath_ears (id : PathId) (h : Holder) (asked : Bool) (s : State) :
    (s.createPath id h asked).ears = s.ears := by
  unfold State.createPath; simp

@[simp] theorem State.reportOpening_rx (d : Endpoint) (s : State) : (s.reportOpening d).rx = s.rx := by
  unfold State.reportOpening; split
  · rfl
  · split <;> simp

@[simp] theorem State.openingIfRaised_rx (a b : Nat) (d : Endpoint) (s : State) : (s.openingIfRaised a b d).rx = s.rx := by
  unfold State.openingIfRaised; split <;> simp

@[simp] theorem State.touchPath_rx (id : PathId) (f : Path → Path) (s : State) : (s.touchPath id f).rx = s.rx := by
  unfold State.touchPath; split <;> simp

@[simp] theorem State.createPath_rx (id : PathId) (h : Holder) (asked : Bool) (s : State) :
    (s.createPath id h asked).rx = s.rx := by
  unfold State.createPath; simp

@[simp] theorem State.reportOpening_tx (d : Endpoint) (s : State) : (s.reportOpening d).tx = s.tx := by
  unfold State.reportOpening; split
  · rfl
  · split <;> simp

@[simp] theorem State.openingIfRaised_tx (a b : Nat) (d : Endpoint) (s : State) : (s.openingIfRaised a b d).tx = s.tx := by
  unfold State.openingIfRaised; split <;> simp

@[simp] theorem State.touchPath_tx (id : PathId) (f : Path → Path) (s : State) : (s.touchPath id f).tx = s.tx := by
  unfold State.touchPath; split <;> simp

@[simp] theorem State.createPath_tx (id : PathId) (h : Holder) (asked : Bool) (s : State) :
    (s.createPath id h asked).tx = s.tx := by
  unfold State.createPath; simp

@[simp] theorem State.reportOpening_checks (d : Endpoint) (s : State) : (s.reportOpening d).checks = s.checks := by
  unfold State.reportOpening; split
  · rfl
  · split <;> simp

@[simp] theorem State.openingIfRaised_checks (a b : Nat) (d : Endpoint) (s : State) : (s.openingIfRaised a b d).checks = s.checks := by
  unfold State.openingIfRaised; split <;> simp

@[simp] theorem State.touchPath_checks (id : PathId) (f : Path → Path) (s : State) : (s.touchPath id f).checks = s.checks := by
  unfold State.touchPath; split <;> simp

@[simp] theorem State.createPath_checks (id : PathId) (h : Holder) (asked : Bool) (s : State) :
    (s.createPath id h asked).checks = s.checks := by
  unfold State.createPath; simp

@[simp] theorem State.reportOpening_routes (d : Endpoint) (s : State) : (s.reportOpening d).routes = s.routes := by
  unfold State.reportOpening; split
  · rfl
  · split <;> simp

@[simp] theorem State.openingIfRaised_routes (a b : Nat) (d : Endpoint) (s : State) : (s.openingIfRaised a b d).routes = s.routes := by
  unfold State.openingIfRaised; split <;> simp

@[simp] theorem State.touchPath_routes (id : PathId) (f : Path → Path) (s : State) : (s.touchPath id f).routes = s.routes := by
  unfold State.touchPath; split <;> simp

@[simp] theorem State.createPath_routes (id : PathId) (h : Holder) (asked : Bool) (s : State) :
    (s.createPath id h asked).routes = s.routes := by
  unfold State.createPath; simp

@[simp] theorem State.reportOpening_link (d : Endpoint) (s : State) : (s.reportOpening d).link = s.link := by
  unfold State.reportOpening; split
  · rfl
  · split <;> simp

@[simp] theorem State.openingIfRaised_link (a b : Nat) (d : Endpoint) (s : State) : (s.openingIfRaised a b d).link = s.link := by
  unfold State.openingIfRaised; split <;> simp

@[simp] theorem State.touchPath_link (id : PathId) (f : Path → Path) (s : State) : (s.touchPath id f).link = s.link := by
  unfold State.touchPath; split <;> simp

@[simp] theorem State.createPath_link (id : PathId) (h : Holder) (asked : Bool) (s : State) :
    (s.createPath id h asked).link = s.link := by
  unfold State.createPath; simp

@[simp] theorem State.reportOpening_eventBlock (d : Endpoint) (s : State) : (s.reportOpening d).eventBlock = s.eventBlock := by
  unfold State.reportOpening; split
  · rfl
  · split <;> simp

@[simp] theorem State.openingIfRaised_eventBlock (a b : Nat) (d : Endpoint) (s : State) : (s.openingIfRaised a b d).eventBlock = s.eventBlock := by
  unfold State.openingIfRaised; split <;> simp

@[simp] theorem State.touchPath_eventBlock (id : PathId) (f : Path → Path) (s : State) : (s.touchPath id f).eventBlock = s.eventBlock := by
  unfold State.touchPath; split <;> simp

@[simp] theorem State.createPath_eventBlock (id : PathId) (h : Holder) (asked : Bool) (s : State) :
    (s.createPath id h asked).eventBlock = s.eventBlock := by
  unfold State.createPath; simp

@[simp] theorem State.reportOpening_pending (d : Endpoint) (s : State) : (s.reportOpening d).pending = s.pending := by
  unfold State.reportOpening; split
  · rfl
  · split <;> simp

@[simp] theorem State.openingIfRaised_pending (a b : Nat) (d : Endpoint) (s : State) : (s.openingIfRaised a b d).pending = s.pending := by
  unfold State.openingIfRaised; split <;> simp

@[simp] theorem State.touchPath_pending (id : PathId) (f : Path → Path) (s : State) : (s.touchPath id f).pending = s.pending := by
  unfold State.touchPath; split <;> simp

@[simp] theorem State.createPath_pending (id : PathId) (h : Holder) (asked : Bool) (s : State) :
    (s.createPath id h asked).pending = s.pending := by
  unfold State.createPath; simp

/-- R35, R158: an opening changes one protection record's openings count, if anything. -/
theorem State.reportOpening_gov (d : Endpoint) (s : State) :
    (s.reportOpening d).gov.config = s.gov.config ∧ (s.reportOpening d).gov.windowDue = s.gov.windowDue ∧
      ∀ p : PortId, ∃ n, (s.reportOpening d).gov.records[p] = { s.gov.records[p] with openings := n } ∧
        (n = s.gov.records[p].openings ∨ n ≤ 65535) := by
  have same : ∀ p : PortId, ∃ n, s.gov.records[p] = { s.gov.records[p] with openings := n } ∧
      (n = s.gov.records[p].openings ∨ n ≤ 65535) := fun p => ⟨_, rfl, .inl rfl⟩
  unfold State.reportOpening
  split
  · exact ⟨rfl, rfl, same⟩
  · split
    · rename_i q _
      refine ⟨rfl, rfl, fun p => ?_⟩
      simp only [State.setProtection_gov, tableSet_get]
      split
      · rename_i h; subst h; exact ⟨_, rfl, .inr (Nat.min_le_left _ _)⟩
      · exact same p
    · exact ⟨rfl, rfl, same⟩

theorem State.openingIfRaised_gov (a b : Nat) (d : Endpoint) (s : State) :
    (s.openingIfRaised a b d).gov.config = s.gov.config ∧ (s.openingIfRaised a b d).gov.windowDue = s.gov.windowDue ∧
      ∀ p : PortId, ∃ n, (s.openingIfRaised a b d).gov.records[p] = { s.gov.records[p] with openings := n } ∧
        (n = s.gov.records[p].openings ∨ n ≤ 65535) := by
  unfold State.openingIfRaised
  split
  · exact State.reportOpening_gov d s
  · exact ⟨rfl, rfl, fun p => ⟨_, rfl, .inl rfl⟩⟩

/-! ## What every elementary change of delivery keeps -/

theorem ControlLink.sameAnswers_refl (l : ControlLink) : l.sameAnswers l := by constructor <;> rfl

theorem ControlLink.sameAnswers.trans {l l' l'' : ControlLink} (h : l.sameAnswers l') (h' : l'.sameAnswers l'') :
    l.sameAnswers l'' :=
  ⟨h'.1.trans h.1, h'.2.trans h.2, h'.3.trans h.3, h'.4.trans h.4, h'.5.trans h.5, h'.6.trans h.6, h'.7.trans h.7⟩

theorem ControlLink.report_sameAnswers (l : ControlLink) (n : Notice) : l.sameAnswers (l.report n) := by
  unfold ControlLink.report
  split
  · exact l.sameAnswers_refl
  · split
    · split
      · constructor <;> simp [ControlLink.markReading]
      · exact l.sameAnswers_refl
    · split <;> constructor <;> rfl

/-- R183, R185: what a report can do to the queue. -/
theorem ControlLink.report_cases (l : ControlLink) (n : Notice) :
    ((l.report n).notices = l.notices ∧ (l.enabled n = false ∨ l.notices.contains n = true ∨ 64 ≤ l.notices.length)) ∨
      (l.enabled n = true ∧ (n.isStateKind = false ∨ l.notices.contains n = false) ∧ l.notices.length < 64 ∧
        (l.report n).notices = l.notices ++ [n]) := by
  unfold ControlLink.report
  split
  · rename_i h; exact .inl ⟨rfl, .inl (by simpa using h)⟩
  · rename_i h
    split
    · rename_i hc
      refine .inl ⟨?_, .inr (.inl (Bool.and_eq_true_iff.1 hc).2)⟩
      split <;> rfl
    · rename_i hc
      split
      · rename_i hf; exact .inl ⟨rfl, .inr (.inr hf)⟩
      · rename_i hf
        refine .inr ⟨by simpa using h, ?_, Nat.lt_of_not_le hf, rfl⟩
        cases hk : n.isStateKind
        · exact .inl rfl
        · refine .inr ?_
          cases hm : l.notices.contains n
          · rfl
          · exact absurd (Bool.and_eq_true_iff.2 ⟨hk, hm⟩) hc

theorem KeyRecord.sameKey.trans {a b c : KeyRecord} (h : a.sameKey b) (h' : b.sameKey c) : a.sameKey c :=
  ⟨h'.1.trans h.1, h'.2.trans h.2, h'.3.trans h.3, h'.4.trans h.4, h'.5.trans h.5, h'.6.trans h.6, h'.7.trans h.7⟩

theorem State.sameRun_refl (s : State) : s.sameRun s where
  rstnLow := rfl
  mode := rfl
  blockCount := rfl
  ports := rfl
  lanes := rfl
  mix := rfl
  rx := rfl
  tx := rfl
  checks := rfl
  routes := rfl
  eventBlock := rfl
  pending := rfl
  govConfig := rfl
  windowDue := rfl
  link := s.link.sameAnswers_refl
  key k := s.keys[k].sameKey_self

theorem State.sameRun.trans {s t u : State} (h : s.sameRun t) (h' : t.sameRun u) : s.sameRun u where
  rstnLow := h'.rstnLow.trans h.rstnLow
  mode := h'.mode.trans h.mode
  blockCount := h'.blockCount.trans h.blockCount
  ports := h'.ports.trans h.ports
  lanes := h'.lanes.trans h.lanes
  mix := h'.mix.trans h.mix
  rx := h'.rx.trans h.rx
  tx := h'.tx.trans h.tx
  checks := h'.checks.trans h.checks
  routes := h'.routes.trans h.routes
  eventBlock := h'.eventBlock.trans h.eventBlock
  pending := h'.pending.trans h.pending
  govConfig := h'.govConfig.trans h.govConfig
  windowDue := h'.windowDue.trans h.windowDue
  link := h.link.trans h'.link
  key k := (h.key k).trans (h'.key k)

theorem Change.sameRun {s t : State} (h : Change s t) : s.sameRun t := by
  cases h with
  | report n => exact { s.sameRun_refl with link := s.link.report_sameAnswers n }
  | key k r same =>
    refine { s.sameRun_refl with key := fun j => ?_ }
    rw [State.setKey_keys, tableSet_get]
    split
    · rename_i h; subst h; exact same
    · exact KeyRecord.sameKey_self _
  | group g r same => exact { s.sameRun_refl with }
  | ear p e e' present wf => exact { s.sameRun_refl with }
  | touch id f fixed =>
    have hg : (s.touchPath id f).gov.config = s.gov.config ∧ (s.touchPath id f).gov.windowDue = s.gov.windowDue := by
      unfold State.touchPath
      split
      · exact ⟨rfl, rfl⟩
      · exact ⟨(State.openingIfRaised_gov _ _ _ _).1, (State.openingIfRaised_gov _ _ _ _).2.1⟩
    constructor
    case govConfig => exact hg.1
    case windowDue => exact hg.2
    case link => rw [State.touchPath_link]; exact s.link.sameAnswers_refl
    case key => intro k; rw [State.touchPath_keys]; exact KeyRecord.sameKey_self _
    all_goals simp
  | create id h asked absent room =>
    constructor
    case govConfig => exact (State.openingIfRaised_gov _ _ _ _).1
    case windowDue => exact (State.openingIfRaised_gov _ _ _ _).2.1
    case link => rw [State.createPath_link]; exact s.link.sameAnswers_refl
    case key => intro k; rw [State.createPath_keys]; exact KeyRecord.sameKey_self _
    all_goals simp

/-- Delivering, withdrawing and serving keys leave all of this alone. -/
theorem Changes.sameRun {s t : State} (h : Changes s t) : s.sameRun t := by
  induction h with
  | refl => exact s.sameRun_refl
  | tail _ h ih => exact ih.trans h.sameRun

end Sys2Proof.Machine
end

