-- ==== Sys2Proof/Laws/Settle.lean ====
section
/-! SUPPORT. What the device's own steps leave alone: the reset pin, the mode, the port table, the queue of commands, the replies, the
notice mask and the flags of the control link. A state in which nothing is due settles to itself. -/

namespace Sys2Proof.Machine

/-- What no step of the device's own changes. -/
structure State.sameOutside (s t : State) : Prop where
  rstnLow : t.rstnLow = s.rstnLow
  mode : t.mode = s.mode
  ports : t.ports = s.ports
  pending : t.pending = s.pending
  link : s.link.sameAnswers t.link

theorem State.sameOutside_refl (s : State) : s.sameOutside s := ⟨rfl, rfl, rfl, rfl, s.link.sameAnswers_refl⟩

theorem State.sameOutside.trans {s t u : State} (h : s.sameOutside t) (h' : t.sameOutside u) : s.sameOutside u :=
  ⟨h'.1.trans h.1, h'.2.trans h.2, h'.3.trans h.3, h'.4.trans h.4, h.link.trans h'.link⟩

theorem State.sameOutside_of {s t : State} (h1 : t.rstnLow = s.rstnLow) (h2 : t.mode = s.mode) (h3 : t.ports = s.ports)
    (h4 : t.pending = s.pending) (h5 : t.link = s.link) : s.sameOutside t :=
  ⟨h1, h2, h3, h4, h5 ▸ s.link.sameAnswers_refl⟩

theorem State.sameRun.sameOutside {s t : State} (h : s.sameRun t) : s.sameOutside t :=
  ⟨h.rstnLow, h.mode, h.ports, h.pending, h.link⟩

theorem Changes.sameOutside {s t : State} (h : Changes s t) : s.sameOutside t := h.sameRun.sameOutside

theorem State.sameOutside_foldl {α : Type} (f : State → α → State) (hf : ∀ (s : State) (x : α), s.sameOutside (f s x))
    (xs : List α) (s : State) : s.sameOutside (xs.foldl f s) := by
  induction xs generalizing s with
  | nil => exact s.sameOutside_refl
  | cons x xs ih => exact (hf s x).trans (ih (f s x))

theorem State.report_outside (n : Notice) (s : State) : s.sameOutside (s.report n) :=
  ⟨rfl, rfl, rfl, rfl, s.link.report_sameAnswers n⟩

theorem State.sameOutside.report {s t : State} (h : s.sameOutside t) (n : Notice) : s.sameOutside (t.report n) :=
  h.trans (t.report_outside n)

theorem State.reportAll_outside (ns : List Notice) (s : State) : s.sameOutside (s.reportAll ns) :=
  State.sameOutside_foldl _ (fun s n => State.report_outside n s) ns s

/-! ## The window end -/

theorem State.retargetGain_outside (p : PortId) (s : State) : s.sameOutside (s.retargetGain p) := by
  unfold State.retargetGain
  split
  · exact s.sameOutside_refl
  · exact s.sameOutside_of rfl rfl rfl rfl rfl

theorem State.endWindowPort_outside (p : PortId) (s : State) : s.sameOutside (s.endWindowPort p) := by
  unfold State.endWindowPort
  split
  · dsimp only
    have first : s.sameOutside ((s.setProtection p (s.gov.records[p].endWindow s.gov.config s.mix.clips[p])).retargetGain p) :=
      State.sameOutside.trans (t := s.setProtection p _) (State.sameOutside_of rfl rfl rfl rfl rfl)
        (State.retargetGain_outside p _)
    split
    · exact first
    · exact first.trans (State.report_outside _ _)
  · exact s.sameOutside_refl

theorem State.endWindow_outside (s : State) : s.sameOutside s.endWindow := by
  unfold State.endWindow
  split
  · refine State.sameOutside.trans ?_ (State.sameOutside_foldl _ (fun s p => s.endWindowPort_outside p) _ _)
    exact State.sameOutside_of rfl rfl rfl rfl rfl
  · exact s.sameOutside_refl

/-! ## Channels -/

theorem State.putChannel_outside (ch : ChanId) (c : Channel) (s : State) : s.sameOutside (s.putChannel ch c) := by
  unfold State.putChannel
  dsimp only
  split
  · exact s.sameOutside_of rfl rfl rfl rfl rfl
  · refine State.sameOutside.report ?_ _
    exact State.sameOutside_of rfl rfl rfl rfl rfl

theorem State.setActivation_outside (k : KeyId) (a : Activation) (s : State) : s.sameOutside (s.setActivation k a) := by
  unfold State.setActivation
  refine State.sameOutside.report ?_ _
  exact State.sameOutside_of rfl rfl rfl rfl rfl

theorem State.forceCallKey_outside (k : KeyId) (s : State) : s.sameOutside (s.forceCallKey k).1 := by
  unfold State.forceCallKey
  split
  · exact (State.setActivation_outside _ _ _).trans (State.withdraw_changes _ _).sameOutside
  · exact s.sameOutside_refl

theorem State.endCheck_outside (ch : ChanId) (st : CheckState) (r : Option CheckReason) (n : BlockCount) (s : State) :
    s.sameOutside (s.endCheck ch st r n) := by
  unfold State.endCheck
  refine State.sameOutside.report ?_ _
  exact State.sameOutside_of rfl rfl rfl rfl rfl

theorem State.abortCheck_outside (ch : ChanId) (st : CheckState) (r : Option CheckReason) (n : BlockCount) (s : State) :
    s.sameOutside (s.abortCheck ch st r n) := by
  unfold State.abortCheck
  split
  · exact State.endCheck_outside _ _ _ _ _
  · exact s.sameOutside_refl

theorem State.leaveLive_outside (ch : ChanId) (c : Channel) (r : CheckReason) (s : State) :
    s.sameOutside (s.leaveLive ch c r) := by
  unfold State.leaveLive
  dsimp only
  refine (State.sameOutside.trans ?_ (State.abortCheck_outside _ _ _ _ _)).trans (State.runPasses_changes _ _).sameOutside
  split
  · exact (State.putChannel_outside _ _ _).trans (State.forceCallKey_outside _ _)
  · exact State.putChannel_outside _ _ _

theorem State.settleChannel_outside (ch : ChanId) (s : State) : s.sameOutside (s.settleChannel ch) := by
  have drop : ∀ s : State, s.sameOutside (s.takeDrop ch) := by
    intro s; unfold State.takeDrop; split
    · exact s.endWindow_outside.trans (State.leaveLive_outside _ _ _ _)
    · exact s.sameOutside_refl
  have idle : ∀ s : State, s.sameOutside (s.takeIdleLimit ch) := by
    intro s; unfold State.takeIdleLimit; split
    · exact s.endWindow_outside.trans (State.leaveLive_outside _ _ _ _)
    · exact s.sameOutside_refl
  have conceal : ∀ s : State, s.sameOutside (s.takeConcealLimit ch) := by
    intro s; unfold State.takeConcealLimit; split
    · exact State.putChannel_outside _ _ _
    · exact s.sameOutside_refl
  have recovery : ∀ s : State, s.sameOutside (s.takeRecovery ch) := by
    intro s; unfold State.takeRecovery; split
    · exact State.putChannel_outside _ _ _
    · exact s.sameOutside_refl
  exact ((drop s).trans (idle _)).trans ((conceal _).trans (recovery _))

theorem State.takeCompletion_outside (ch : ChanId) (s : State) : s.sameOutside (s.takeCompletion ch) := by
  unfold State.takeCompletion
  split
  · exact (State.endCheck_outside _ _ _ _ _).trans (State.putChannel_outside _ _ _)
  · exact s.sameOutside_refl

/-! ## Timeouts and the judgement -/

theorem State.takeTimeout_changes (k : KeyId) (s : State) : Changes s (s.takeTimeout k) := by
  unfold State.takeTimeout
  split
  · split
    · exact State.timeOut_changes _ _ _
    · exact .refl s
  · exact .refl s

theorem State.takeTimeouts_changes (g : GroupId) (s : State) : Changes s (s.takeTimeouts g) :=
  Changes.foldl _ (fun s k => s.takeTimeout_changes k) _ s

theorem State.routeLeftEarpiece_changes (id : PathId) (s : State) : Changes s (s.routeLeftEarpiece id) := by
  unfold State.routeLeftEarpiece
  split
  · exact .refl s
  · split
    · split
      · exact .refl s
      · split
        · split
          · exact .refl s
          · exact s.suspendPath_changes id
        · exact s.suspendPath_changes id
    · exact .refl s

/-- R171: once the sets have exchanged roles, the exchange is a succession of elementary changes. -/
theorem State.exchange_changes (s : State) :
    Changes { s with routes := { s.routes with active := s.routes.standby, standby := s.routes.active } } s.exchange := by
  unfold State.exchange
  dsimp only
  refine Changes.trans (Changes.foldl _ (fun s r => ?_) s.routes.active _) (Changes.foldl _ (fun s r => ?_) s.routes.standby _)
  · split
    · exact (State.removeHolder_changes _ _ _).trans (State.routeLeftEarpiece_changes _ _)
    · exact .refl s
  · split
    · exact State.addHolder_changes _ _ _ _
    · split
      · exact .refl s
      · exact s.relevelPath_changes _

theorem State.judgeSwap_outside (s : State) : s.sameOutside s.judgeSwap := by
  unfold State.judgeSwap
  dsimp only
  split
  · refine State.sameOutside.report ?_ _
    exact State.sameOutside_of rfl rfl rfl rfl rfl
  · refine State.sameOutside.report (State.sameOutside.trans ?_ (State.exchange_changes _).sameOutside) _
    exact State.sameOutside_of rfl rfl rfl rfl rfl

theorem State.takeJudgement_outside (s : State) : s.sameOutside s.takeJudgement := by
  unfold State.takeJudgement
  split
  · exact s.endWindow_outside.trans s.endWindow.judgeSwap_outside
  · exact s.sameOutside_refl

/-! ## Steps that are not due (log 38) -/

theorem State.takeDrop_of_not_due {ch : ChanId} {s : State} (h : s.rx.channels[ch].dropDue = false) : s.takeDrop ch = s :=
  if_neg (by rw [h]; decide)
theorem State.takeIdleLimit_of_not_due {ch : ChanId} {s : State} (h : s.rx.channels[ch].idleDue = false) :
    s.takeIdleLimit ch = s :=
  if_neg (by rw [h]; decide)
theorem State.takeConcealLimit_of_not_due {ch : ChanId} {s : State} (h : s.rx.channels[ch].concealDue = false) :
    s.takeConcealLimit ch = s :=
  if_neg (by rw [h]; decide)
theorem State.takeRecovery_of_not_due {ch : ChanId} {s : State} (h : s.rx.channels[ch].recoveryDue = false) :
    s.takeRecovery ch = s :=
  if_neg (by rw [h]; decide)
theorem State.takeCompletion_of_not_due {ch : ChanId} {s : State} (h : s.completionDue ch = false) : s.takeCompletion ch = s :=
  if_neg (by rw [h]; decide)
theorem State.takeTimeout_of_not_due {k : KeyId} {s : State} (h : ∀ g : GroupId, s.timeoutDue g k = false) :
    s.takeTimeout k = s := by
  unfold State.takeTimeout
  split
  · exact if_neg (by rw [h]; decide)
  · rfl

/-! ## The boundary, the declaration of presence, settling -/

theorem State.removeSpent_outside (f : Path → Bool) (s : State) : s.sameOutside (s.removeSpent f) :=
  State.sameOutside_of rfl rfl rfl rfl rfl

theorem State.settleSteps_outside (s : State) : s.sameOutside s.settleSteps := by
  unfold State.settleSteps
  dsimp only
  refine State.sameOutside.trans ?_ (State.takeJudgement_outside _)
  refine State.sameOutside.trans ?_ (State.sameOutside_foldl _ (fun s g => (s.takeTimeouts_changes g).sameOutside) _ _)
  refine State.sameOutside.trans ?_ (State.sameOutside_foldl _ (fun s ch => s.takeCompletion_outside ch) _ _)
  refine State.sameOutside.trans ?_ (State.sameOutside_foldl _ (fun s ch => s.settleChannel_outside ch) _ _)
  exact s.endWindow_outside.trans (State.removeSpent_outside _ _)

theorem State.yieldChannel_outside (n : BlockCount) (ch : ChanId) (s : State) : s.sameOutside (s.yieldChannel n ch) := by
  unfold State.yieldChannel
  dsimp only
  split
  · exact s.sameOutside_refl
  · split
    · exact (State.putChannel_outside _ _ _).trans (State.sameOutside_of rfl rfl rfl rfl rfl)
    · exact State.putChannel_outside _ _ _

theorem State.makeFrame_outside (n : BlockCount) (ch : ChanId) (s : State) : s.sameOutside (s.makeFrame n ch) := by
  unfold State.makeFrame
  split
  · exact s.sameOutside_refl
  · dsimp only
    split <;> exact s.sameOutside_of rfl rfl rfl rfl rfl

theorem State.advanceRamps_outside (s : State) : s.sameOutside s.advanceRamps := State.sameOutside_of rfl rfl rfl rfl rfl

theorem State.mixBlock_outside (n : BlockCount) (s : State) : s.sameOutside (s.mixBlock n) :=
  State.sameOutside_of rfl rfl rfl rfl rfl

theorem State.makeFrames_outside (n : BlockCount) (s : State) : s.sameOutside (s.makeFrames n) := by
  unfold State.makeFrames
  refine State.sameOutside.trans ?_ (State.sameOutside_foldl _ (fun s ch => s.makeFrame_outside n ch) _ _)
  exact State.sameOutside_of rfl rfl rfl rfl rfl

theorem State.advanceCount_outside (n : BlockCount) (s : State) : s.sameOutside (s.advanceCount n) :=
  State.sameOutside_of rfl rfl rfl rfl rfl

theorem State.clearInput_outside (s : State) : s.sameOutside s.clearInput := State.sameOutside_of rfl rfl rfl rfl rfl

theorem State.atBlock_outside (n : BlockCount) (s : State) : s.sameOutside { s with eventBlock := n } :=
  State.sameOutside_of rfl rfl rfl rfl rfl

theorem State.computeBlock_outside (n : BlockCount) (s : State) : s.sameOutside (s.computeBlock n) := by
  unfold State.computeBlock
  dsimp only
  refine State.sameOutside.trans ?_ (State.makeFrames_outside n _)
  refine State.sameOutside.trans ?_ (State.mixBlock_outside n _)
  refine State.sameOutside.trans ?_ (State.advanceRamps_outside _)
  refine State.sameOutside.trans ?_ (State.sameOutside_foldl _ (fun s ch => s.yieldChannel_outside n ch) _ _)
  exact s.atBlock_outside n

theorem State.takeBoundary_outside (s : State) : s.sameOutside s.takeBoundary := by
  unfold State.takeBoundary
  split
  · split
    · exact s.clearInput_outside
    · exact ((s.computeBlock_outside _).trans (State.advanceCount_outside _ _)).trans (State.clearInput_outside _)
  · exact s.sameOutside_refl

theorem State.returnChannel_outside (ch : ChanId) (s : State) : s.sameOutside (s.returnChannel ch) := by
  unfold State.returnChannel
  split
  · exact State.putChannel_outside _ _ _
  · exact s.sameOutside_refl

theorem State.takeClockPresent_outside (s : State) : s.sameOutside s.takeClockPresent := by
  unfold State.takeClockPresent
  split
  · refine State.sameOutside.trans (State.sameOutside.report ?_ _)
      (State.sameOutside_foldl _ (fun s ch => s.returnChannel_outside ch) _ _)
    exact State.sameOutside_of rfl rfl rfl rfl rfl
  · exact s.sameOutside_refl

/-- Taking the due steps leaves the reset pin, the mode, the ports, the command queue and the replies alone. -/
theorem State.settle_outside (s : State) : s.sameOutside s.settle := by
  unfold State.settle
  refine State.sameOutside.trans ?_ (State.settleSteps_outside _)
  exact s.settleSteps_outside.trans (State.takeClockPresent_outside _)

theorem State.passBoundary_outside (s : State) : s.sameOutside s.passBoundary := by
  unfold State.passBoundary
  split
  · exact s.takeBoundary_outside.trans (State.settleSteps_outside _)
  · exact s.sameOutside_refl

/-- The state in which a request is executed keeps the replies, the mode and the ports of the state it is sent to. -/
theorem State.opened_outside (s : State) :
    s.opened.rstnLow = s.rstnLow ∧ s.opened.mode = s.mode ∧ s.opened.ports = s.ports ∧ s.opened.pending = s.pending ∧
      s.opened.link.replies = s.link.replies := by
  have h := s.settle_outside
  refine ⟨?_, ?_, ?_, ?_, ?_⟩ <;> rw [State.opened]
  · rw [State.openWrite_rstnLow, h.rstnLow]
  · rw [State.openWrite_mode, h.mode]
  · rw [State.openWrite_ports, h.ports]
  · rw [State.openWrite_pending, h.pending]
  · rw [State.openWrite_link, ← h.link.replies]

end Sys2Proof.Machine
end

