-- ==== Sys2Proof/Laws/Requests.lean ====
section
/-! SUPPORT. The ways in which a request frame is taken (R14, R17, R179, R181). -/

namespace Sys2Proof.Machine

/-- The answer to an executed request is its state with one more reply. -/
theorem State.answer_eq_replied (kind tag : Byte) (a : Answer) : State.answer kind tag a = a.1.replied kind tag a.2.1 a.2.2 := rfl

/-- R17: while RSTN is low no request is taken. -/
theorem State.request_of_low {s : State} (h : s.rstnLow = true) (kind tag : Byte) (allowed : AllowedIn)
    (act : State → Answer) : s.request kind tag allowed act = s := by
  rw [State.request, if_pos h]

/-- R181: with 16 replies waiting the frame is not executed. -/
theorem State.request_of_full {s : State} (h : s.rstnLow = false) (full : 16 ≤ s.link.replies.length) (kind tag : Byte)
    (allowed : AllowedIn) (act : State → Answer) : s.request kind tag allowed act = s.opened.refuseWrite := by
  have hf : s.opened.repliesFull = true := by
    rw [State.repliesFull, s.opened_outside.2.2.2.2]; exact decide_eq_true full
  rw [State.request, if_neg (by simp [h])]
  exact if_pos hf

theorem State.takesRequests.notFull {s : State} (h : s.takesRequests) : s.opened.repliesFull = false :=
  decide_eq_false (Nat.not_le_of_lt h.2)

theorem State.takesRequests_of {s : State} (h : s.rstnLow = false) (room : s.link.replies.length < 16) : s.takesRequests :=
  ⟨h, by rw [s.opened_outside.2.2.2.2]; exact room⟩

/-- R179: a request executed in a mode that admits it. -/
theorem State.request_executed {s : State} (h : s.takesRequests) {allowed : AllowedIn}
    (mode : allowed.admits s.opened.mode = true) (kind tag : Byte) (act : State → Answer) :
    s.request kind tag allowed act = (act s.opened).1.replied kind tag (act s.opened).2.1 (act s.opened).2.2 := by
  rw [State.request, if_neg (by simp [h.1])]
  refine (if_neg ?_).trans ?_
  · rw [← State.opened, h.notFull]; exact Bool.false_ne_true
  · rw [← State.opened, if_pos mode]; exact State.answer_eq_replied _ _ _

/-- R14: a request in a mode that does not admit it. -/
theorem State.request_wrongMode {s : State} (h : s.takesRequests) {allowed : AllowedIn}
    (mode : allowed.admits s.opened.mode = false) (kind tag : Byte) (act : State → Answer) :
    s.request kind tag allowed act = s.opened.replied kind tag .wrongMode [] := by
  rw [State.request, if_neg (by simp [h.1])]
  refine (if_neg ?_).trans ?_
  · rw [← State.opened, h.notFull]; exact Bool.false_ne_true
  · rw [← State.opened, if_neg (by simp [mode])]; exact State.answer_eq_replied _ _ _

/-- R179: how a request comes to be accepted. -/
theorem AcceptedWith.of {i : Instr} {s t : State} {kind tag : Byte} {allowed : AllowedIn} {act : State → Answer}
    {body : List Field} (h : s.takesRequests) (header : requestHeader i = some ⟨kind, tag, allowed⟩)
    (meaning : exec i s = .next (s.request kind tag allowed act)) (mode : allowed.admits s.mode = true)
    (answer : act s.opened = (t, .ok, body)) : AcceptedWith i s t body := by
  refine ⟨_, header, ?_⟩
  rw [meaning, State.request_executed h (by rw [s.opened_outside.2.1]; exact mode), answer]

/-- R179: how a request that its mode admits comes to be refused. -/
theorem RefusedWith.of {i : Instr} {s : State} {st : Status} {kind tag : Byte} {allowed : AllowedIn} {act : State → Answer}
    (h : s.takesRequests) (header : requestHeader i = some ⟨kind, tag, allowed⟩)
    (meaning : exec i s = .next (s.request kind tag allowed act)) (mode : allowed.admits s.mode = true)
    (answer : act s.opened = refuse st s.opened) : RefusedWith i st s := by
  refine ⟨_, header, ?_⟩
  rw [meaning, State.request_executed h (by rw [s.opened_outside.2.1]; exact mode), answer, refuse]

/-- R17: an event while RSTN is high finds every due step taken. -/
theorem State.event_of_high {s : State} (h : s.rstnLow = false) (f : State → State) : s.event f = f s.settle := by
  rw [State.event, if_neg (by simp [h])]

/-- One of the device's own steps while RSTN is high. -/
theorem State.ownStep_of_high {s : State} (h : s.rstnLow = false) (f : State → State) : s.ownStep f = f s := by
  rw [State.ownStep, if_neg (by simp [h])]

/-! ## Transactions (R176, R177, R186) -/

@[simp] theorem ControlLink.sdo_zero (l : ControlLink) : l.sdo 0 = l.statusOut := rfl

/-- R186: after the status byte, the frame of the READ in progress and then zero bytes. -/
theorem ControlLink.sdo_of_read {l : ControlLink} {r : Reading} (h : l.reading = some r) (n : Nat) :
    l.sdo (n + 1) = r.frame.getD n 0 := by simp [ControlLink.sdo, h]

/-- R176: after the status byte of any other transaction, zero bytes. -/
theorem ControlLink.sdo_of_other {l : ControlLink} (h : l.reading = none) (n : Nat) : l.sdo (n + 1) = 0 := by
  simp [ControlLink.sdo, h]

/-- R17: SDO while RSTN is low, and while it is high. -/
theorem State.sdo_of_low {s : State} (h : s.rstnLow = true) (n : Nat) : s.sdo n = none := if_pos h
theorem State.sdo_of_high {s : State} (h : s.rstnLow = false) (n : Nat) : s.sdo n = some (s.link.sdo n) := by
  rw [State.sdo, if_neg (by simp [h])]

/-! ## Bytes on the control link (R189) -/

theorem octets_one (n : Nat) : octets 1 n = [byteOf n] := by simp [octets, byteOf]
theorem octets_two (n : Nat) : octets 2 n = bytes16 n := by simp [octets, List.range_succ, bytes16, byteOf]
theorem octets_four (n : Nat) : octets 4 n = bytes32 n := by simp [octets, List.range_succ, bytes32, byteOf]

/-- The bytes of a field are those of its type. -/
theorem Field.sent_eq_bytes (f : Field) : f.sent = f.bytes := by
  cases f with
  | tagged8 n => cases n <;> simp [sent, bytes, taggedBytes, octets_one, byteOf]
  | tagged16 n => cases n <;> simp [sent, bytes, taggedBytes, octets_two, bytes16, byteOf]
  | tagged32 n => cases n <;> simp [sent, bytes, taggedBytes, octets_four, bytes32, byteOf]
  | _ n => simp [sent, bytes, octets_one, octets_two, octets_four, optByte, optBytes16, optBytes32]

/-! ## Beginning a transaction -/

theorem State.beginTransaction_read (s : State) : s.beginTransaction 0xC3 = s.beginRead := rfl

theorem State.beginTransaction_other (s : State) {type : Byte} (h : type ≠ 0xC3) : s.beginTransaction type = s.beginOther type :=
  if_neg h

/-- R17, R177: RESTART leaves the reset values but for the status byte that its own transaction sent. -/
@[simp] theorem State.restartAll_link (s : State) :
    s.restartAll.link = { ControlLink.reset with statusOut := s.link.statusOut } := rfl

/-! ## Reading raw operands back -/

@[simp] theorem portKindOf_code (k : PortKind) : portKindOf k.code = some k := by cases k <;> rfl
@[simp] theorem presenceValueOf_code (v : Presence) : presenceValueOf v.code = some v := by cases v <;> rfl
@[simp] theorem keyModeOf_code (m : KeyMode) : keyModeOf m.code = some m := by cases m <;> rfl
@[simp] theorem groupModeOf_code (m : GroupMode) : groupModeOf m.code = some m := by cases m <;> rfl
@[simp] theorem classOf_code (c : PathClass) : classOf c.code = some c := by cases c <;> rfl
@[simp] theorem govModeOf_code (m : GovMode) : govModeOf m.code = some m := by cases m <;> rfl
@[simp] theorem forwardOf_code (f : ForwardOption) : forwardOf f.code = some f := by cases f <;> rfl
@[simp] theorem flagOf_flagCode (b : Bool) : flagOf (flagCode b) = some b := by cases b <;> rfl

@[simp] theorem slotOf_code (x : Slot) : slotOf x.code = some x := by
  have lane : x.code / 16 = x.lane.val := by have := x.slot.isLt; simp only [Slot.code]; omega
  have slot : x.code % 16 = x.slot.val := by have := x.slot.isLt; simp only [Slot.code]; omega
  unfold slotOf
  split
  · exact congrArg some (by cases x; simp only [Slot.mk.injEq]; exact ⟨Fin.ext lane, Fin.ext slot⟩)
  · rename_i h; exact absurd ⟨lane ▸ x.lane.isLt, slot ▸ x.slot.isLt⟩ h

@[simp] theorem endpointOf_code (d : Endpoint) : endpointOf d.code = some d := by
  cases d with
  | port p => simp [endpointOf, Endpoint.code, p.isLt]
  | bus b => simp [endpointOf, Endpoint.code, b.isLt]; omega

@[simp] theorem targetOf_code (t : Target) : targetOf t.typeCode t.number = some t := by
  cases t <;> simp [targetOf, Target.typeCode, Target.number]

theorem portNumbers_val (ps : List PortId) : portNumbers (ps.map Fin.val) = some ps := by
  induction ps with
  | nil => rfl
  | cons p ps ih => simp [portNumbers, ih]

end Sys2Proof.Machine
end

