-- ==== Sys2Proof/Laws/BoolTests.lean ====
section
/-! SUPPORT. What the Bool tests of the requests decide. -/

namespace Sys2Proof.Machine

theorem endpointOf_none {raw : Nat} (h : 48 ≤ raw ∧ raw < 128 ∨ 136 ≤ raw) : endpointOf raw = none := by
  unfold endpointOf; rw [dif_neg (by omega), dif_neg (by omega)]

theorem slotOf_none {raw : Nat} (h : 6 ≤ raw / 16 ∨ 8 ≤ raw % 16) : slotOf raw = none := by
  unfold slotOf; rw [dif_neg (by omega)]

theorem PortKind.hasOutput_iff (k : PortKind) : k.hasOutput = true ↔ k.listens := by
  cases k <;> simp [PortKind.hasOutput, PortKind.listens]

theorem PortKind.governed_iff (k : PortKind) : k.governed = true ↔ k = .panel ∨ k = .earpiece := by
  cases k <;> simp [PortKind.governed]

/-- A property holds of some element of a table exactly when it holds at some number. -/
theorem any_toList_iff (v : Vector α n) (f : α → Bool) : v.toList.any f = true ↔ ∃ i : Fin n, f v[i] = true := by
  rw [List.any_eq_true]
  constructor
  · rintro ⟨x, hx, hf⟩
    obtain ⟨i, hi, rfl⟩ := List.getElem_of_mem hx
    exact ⟨⟨i, by simpa using hi⟩, by simpa using hf⟩
  · rintro ⟨i, hi⟩
    exact ⟨v[i], by simp, hi⟩

theorem tableRows_mem (v : Vector α n) (r : Fin n × α) : r ∈ tableRows v ↔ r.2 = v[r.1] := by
  obtain ⟨i, x⟩ := r
  simp only [tableRows, List.mem_iff_getElem, List.getElem_zip, List.length_zip, List.length_finRange, Vector.length_toList,
    Nat.min_self, List.getElem_finRange, Prod.mk.injEq, Vector.getElem_toList]
  constructor
  · rintro ⟨j, hj, rfl, rfl⟩; rfl
  · intro h; exact ⟨i.val, i.isLt, rfl, h.symm⟩

theorem State.linkOwned_iff (s : State) (k : KeyId) : s.linkOwned k = true ↔ s.callKeyNamed k := by
  rw [State.linkOwned, any_toList_iff]
  refine exists_congr fun c => ?_
  cases s.rx.channels[c].config <;> simp

theorem State.fieldPort_isSome_iff (s : State) (c : ChanId) : (s.fieldPort c).isSome = true ↔ s.bound c := by
  simp only [State.fieldPort, Option.isSome_map, List.find?_isSome, State.bound, Bool.and_eq_true, decide_eq_true_eq]
  constructor
  · rintro ⟨⟨p, r⟩, hm, hk, hc⟩
    rw [tableRows_mem] at hm
    exact ⟨p, by rw [← hm]; exact hk, by rw [← hm]; exact hc⟩
  · rintro ⟨p, hk, hc⟩
    exact ⟨(p, s.ports[p]), (tableRows_mem _ _).2 rfl, hk, hc⟩

theorem State.anotherPort_iff (s : State) (p : PortId) (f : PortRecord → Bool) :
    s.anotherPort p f = true ↔ ∃ q : PortId, q ≠ p ∧ f s.ports[q] = true := by
  simp only [State.anotherPort, List.any_eq_true, Bool.and_eq_true, decide_eq_true_eq]
  constructor
  · rintro ⟨⟨q, r⟩, hm, hq, hf⟩
    rw [tableRows_mem] at hm
    exact ⟨q, hq, by rw [← hm]; exact hf⟩
  · rintro ⟨q, hq, hf⟩
    exact ⟨(q, s.ports[q]), (tableRows_mem _ _).2 rfl, hq, hf⟩

theorem State.portNamed_iff (s : State) (p : PortId) : s.portNamed p = true ↔ s.named p := by
  have keys := any_toList_iff s.keys fun r => r.defined && (decide (r.owner = some p) || decide (r.target = some (.port p)))
  have groups := any_toList_iff s.groups fun r => r.members.any fun m : Member => decide (m.port = p)
  rw [State.portNamed, Bool.or_eq_true, Bool.or_eq_true, keys, groups, State.named, or_assoc]
  simp [KeyRecord.defined, or_and_right, exists_or]

theorem State.shapeRefused_iff (s : State) (id : PathId) : s.shapeRefused id = false ↔ s.legalShape id := by
  obtain ⟨a, d, c⟩ := id
  simp only [State.shapeRefused, State.legalShape, ← PortKind.hasOutput_iff]
  cases a <;> cases d <;> simp

theorem GroupRecord.engaged_iff (r : GroupRecord) (p : PortId) :
    r.engaged p = false ↔ ∀ x ∈ r.members, x.port = p → x.engagedBy = none := by
  simp [GroupRecord.engaged]

theorem State.hasTalkRoom_iff (s : State) (p : PortId) :
    s.hasTalkRoom p = true ↔ ∀ e, s.ports[p].kind = .earpiece → s.ears[p] = some e → e.entries.length < 4 := by
  unfold State.hasTalkRoom
  cases h : s.ears[p] with
  | none => simp
  | some e =>
      simp only [Config.maxTalkers, Option.some.injEq, Bool.or_eq_true, decide_eq_true_eq]
      exact ⟨fun room x hk hx => hx ▸ of_decide_eq_true (room.resolve_left fun n => n hk),
        fun room => or_iff_not_imp_left.2 fun n => decide_eq_true (room e (not_not.1 n) rfl)⟩

theorem State.eligible_iff (s : State) (g : GroupId) (k : KeyId) (p : PortId) :
    s.eligible g k p = true ↔ s.canTake g k p := by
  simp only [State.eligible, State.canTake, Bool.and_eq_true, decide_eq_true_eq, Bool.not_eq_true',
    GroupRecord.engaged_iff, State.hasTalkRoom_iff, and_assoc]

theorem State.triggered_iff (s : State) (p : PortId) (g : GroupId) :
    s.triggered ⟨none, [p]⟩ g = true ↔ s.servedBy p g := by
  simp [State.triggered, State.servedBy, and_assoc]

end Sys2Proof.Machine
end

