-- ==== Sys2Proof/Tests/Slice0.lean ====
section
/-! SUPPORT. Tests: well-formedness, bytes written out from the spec's tables, the spec's worked values, and for every statement with
hypotheses a state and operands that meet them. -/

namespace Sys2Proof.Tests

-- One kernel evaluation at a time: a thread for each that waits would exhaust the memory limit of the check.
set_option Elab.async false

open Sys2Proof.Machine

/-! ## Well-formedness: one ill-formed term for each check -/

theorem test_wellFormed_one_byte_field : (Instr.queryPort 0 256).wellFormed = false := by decide
theorem test_wellFormed_two_byte_field : (Instr.press 0 65536).wellFormed = false := by decide
theorem test_wellFormed_omission_marker_8 : (Instr.port 0 1 1 (some 255) none none).wellFormed = false := by decide
theorem test_wellFormed_omission_marker_16 : (Instr.routeAdd 0 0 1 0 (some 65535)).wellFormed = false := by decide
theorem test_wellFormed_omission_marker_32 :
    (Instr.governor 0 0 (some 4294967295) none none none none).wellFormed = false := by decide
theorem test_wellFormed_read_is_a_form_of_its_own : (Instr.otherTransaction 0xC3).wellFormed = false := by decide
theorem test_wellFormed_close_is_not_a_configuration : (Instr.channel 0 1 0 0 none none none).wellFormed = false := by decide
theorem test_wellFormed_key_has_a_target : (Instr.key 0 1 2 0 0 none none none).wellFormed = false := by decide
theorem test_wellFormed_member_count : (Instr.group 0 0 0 none (List.replicate 249 0)).wellFormed = false := by
  decide +kernel
theorem test_wellFormed_member : (Instr.group 0 0 0 none [1, 256]).wellFormed = false := by decide
theorem test_wellFormed_tag_follows_kind : (Instr.badFrame none (some 0)).wellFormed = false := by decide
theorem test_wellFormed_accepts : (Instr.key 0 255 47 1 3 (some 65534) none (some 2)).wellFormed = true := by decide

/-! ## Frames written out from 11.8.2, 11.8.3 and R189 -/

theorem test_decode_start : takeFrame [2, 0x01, 7] = some (.start 7) := by decide
theorem test_decode_port : takeFrame [7, 0x10, 1, 5, 2, 0x57, 0x10, 0xFF] =
    some (.port 1 5 2 (some 0x57) (some 0x10) none) := by decide
theorem test_decode_channel : takeFrame [11, 0x11, 1, 7, 1, 0x12, 0x34, 0xFF, 0x01, 0xF4, 0x00, 0xFF] =
    some (.channel 1 7 1 0x1234 none (some 500) (some 255)) := by decide
theorem test_decode_channel_close : takeFrame [11, 0x11, 1, 7, 0, 1, 2, 3, 4, 5, 6, 7] = some (.channelClose 1 7) := by decide
theorem test_decode_governor :
    takeFrame [17, 0x13, 9, 2, 0, 0x20, 0, 0, 0xFF, 0xFF, 0xFF, 0xFF, 0x0B, 0x50, 0xFF, 0xFF, 0, 12] =
      some (.governor 9 2 (some 2097152) none (some 2896) none (some 12)) := by decide
theorem test_decode_trim_marker_is_a_value : takeFrame [7, 0x20, 1, 3, 0xFF, 0xFF, 0, 64] =
    some (.trim 1 3 65535 (some 64)) := by decide
theorem test_decode_key : takeFrame [11, 0x21, 1, 0x00, 0x80, 3, 2, 7, 0x10, 0x00, 0xFF, 2] =
    some (.key 1 128 3 2 7 (some 4096) none (some 2)) := by decide
theorem test_decode_key_remove : takeFrame [11, 0x21, 1, 0, 128, 3, 0, 7, 1, 2, 3, 4] = some (.keyRemove 1 128) := by decide
theorem test_decode_group : takeFrame [9, 0x22, 1, 31, 1, 0xFF, 0xFF, 2, 4, 5] = some (.group 1 31 1 none [4, 5]) := by decide
theorem test_decode_group_count_mismatch : takeFrame [9, 0x22, 1, 31, 1, 0xFF, 0xFF, 3, 4, 5] =
    some (.badFrame (some 0x22) (some 1)) := by decide
theorem test_decode_route_add : takeFrame [7, 0x23, 1, 0x87, 47, 1, 0x20, 0x00] =
    some (.routeAdd 1 135 47 1 (some 8192)) := by decide
theorem test_decode_cue_send : takeFrame [5, 0x32, 1, 2, 0x01, 0x00] = some (.cueSend 1 2 256) := by decide
theorem test_decode_check_start : takeFrame [6, 0x33, 1, 2, 0xFF, 0xFF, 1] = some (.checkStart 1 2 none (some 1)) := by decide
theorem test_decode_query_routes : takeFrame [5, 0x47, 1, 1, 0, 255] = some (.queryRoutes 1 1 255) := by decide
theorem test_decode_resync : takeFrame [2, 0x50, 1] = some (.resync 1) := by decide
theorem test_decode_unknown_kind : takeFrame [2, 0x60, 5] = some (.badFrame (some 0x60) (some 5)) := by decide
theorem test_decode_cut_off : takeFrame [7, 0x20, 5, 1] = some (.badFrame (some 0x20) (some 5)) := by decide
theorem test_decode_no_byte : takeFrame [] = none := by decide
theorem test_transaction_types : takeTransaction [0x3C, 2, 0x02, 1, 99] = [.otherTransaction 0x3C, .stop 1] ∧
    takeTransaction [0xC3, 2, 0x02, 1] = [.readTransaction] ∧ takeTransaction [0x3C] = [.otherTransaction 0x3C] ∧
    takeTransaction [0x55, 2, 0x02, 1] = [.otherTransaction 0x55] ∧ takeTransaction [] = [] := by decide
theorem test_link_frame_kinds : takeLinkFrame [0x12, 0x34, 2, 0, 9, 1] = .cueFrameArrival 0x1234 9 [1] ∧
    takeLinkFrame [0x12, 0x34, 1, 0, 9] = .audioFrameArrival 0x1234 9 [] ∧
    takeLinkFrame [0x12, 0x34, 3, 0, 9, 1] = .malformedLinkFrame ∧ takeLinkFrame [1, 2, 1, 0] = .malformedLinkFrame := by decide
/-- 11.8.5: three bytes a sample, the most significant first. -/
theorem test_audio_bytes :
    ((audioBlock? ([0x80, 0x01, 0x02, 0x00, 0x00, 0x01] ++ List.replicate 138 0)).map fun b => (b[0], b[1], b[2])) =
      some (0x800102#24, 1#24, 0#24) ∧
    (TxFrame.audio ⟨0, 0x1234, 0x5678, patternBlock 1⟩).bytes.take 11 = [0x12, 0x34, 1, 0x56, 0x78, 0, 1, 0, 0xE4, 0x43, 0x80] ∧
    (TxFrame.cue 0x1234 0x5678 0x9A).bytes = [0x12, 0x34, 2, 0x56, 0x78, 0x9A] := by decide +kernel
theorem test_payload_length : audioBlock? (List.replicate 143 0) = none ∧ (audioBlock? (List.replicate 144 0)).isSome := by
  decide +kernel

/-- R179, 11.8.2: an OK reply to PRESS of tag 7, HELD and LIVE; R154's GOVERNOR body is 15 bytes. -/
theorem test_reply_bytes : (⟨0x30, 7, .ok, [.u8 1, .u8 1]⟩ : Reply).bytes = [0, 6, 0x01, 0x30, 7, 0, 1, 1] ∧
    (bodyBytes GovConfig.reset.fields).length = 15 := by decide
/-- R189: a sequence that is absent, and one of all ones. -/
theorem test_tagged_fields : (Field.tagged16 none).bytes = [0, 0xFF, 0xFF] ∧
    (Field.tagged16 (some 65535)).bytes = [1, 0xFF, 0xFF] ∧ (Field.opt16 none).bytes = [0xFF, 0xFF] := by decide

/-! ## The spec's worked values -/

/-- R50: −6144 and −6145; 3.8: −1,737,600,000; R129's halves. -/
theorem test_rounding : roundDiv 4096 (-6144) = -1 ∧ roundDiv 4096 (-6145) = -2 ∧ roundDiv 4096 (-1737600000) = -424219 ∧
    roundDiv 2 1000001 = 500001 ∧ roundDiv 2 (-1000001) = -500000 ∧ roundDiv 2 (-1) = 0 ∧ roundDiv 2 1 = 1 := by decide
/-- R23. -/
theorem test_ramp_down : rampLevel 1000 3 1 = 876 ∧ rampLevel 1000 3 2 = 751 ∧ rampLevel 1000 3 3 = 627 := by decide
/-- 9.8: blocks 200 and 207, 300 and 301. -/
theorem test_gain_ramp : rampLevel 4096 2048 1 = 3840 ∧ rampLevel 4096 2048 8 = 2048 ∧ rampLevel 2048 2896 1 = 2154 ∧
    rampLevel 2048 2896 2 = 2260 := by decide
/-- R110. -/
theorem test_dip : (List.range 7).map (fun a => dipFactor 256 64 (a + 1)) = [224, 192, 160, 128, 96, 64, 64] := by decide
/-- R148. -/
theorem test_pattern : (patternBlock 0)[1] = BitVec.ofInt 24 990080 ∧ (patternBlock 0)[2] = BitVec.ofInt 24 (-2214144) ∧
    (patternBlock 1)[0] = 256#24 ∧ (patternBlock 1)[1] = BitVec.ofInt 24 (-1817728) := by decide +kernel
/-- R156: the last window before the wrap. -/
theorem test_windows : windowOf 4294967295 = 42949672 ∧ endsWindow 4294967295 = true ∧ endsWindow 99 = true ∧
    endsWindow 4294967294 = false ∧ beginsWindow 0 = true := by decide
/-- R66: 0 blocks and 299 blocks latch, 300 do not, across the wrap too. -/
theorem test_block_difference : (5 - 4294967295#32 : BlockCount).toNat = 6 := by decide
/-- R125: e − 1 is behind e; 31 ahead is within the window, 32 is far ahead. -/
theorem test_sequence_order : inWindow 31 0 = true ∧ inWindow 32 0 = false ∧ aheadOrEqual 32 0 = true ∧
    aheadOrEqual 65535 0 = false ∧ aheadOrEqual 32768 0 = false ∧ inWindow 0 65535 = true := by decide

/-- A path at rest. -/
def rested (src dst : Endpoint) (cls : PathClass) (level : Nat) : Path :=
  ⟨0, ⟨src, dst, cls⟩, [], true, level, level, 8, false, false, false⟩

/-- Inputs in which a few ports hold one value in every sample. -/
def inputsOf (xs : List (PortId × Int)) : Vector Block 48 :=
  xs.foldl (fun v x => v.set x.1 (Vector.replicate 48 (BitVec.ofInt 24 x.2))) (Vector.replicate 48 silence)

/-- 3.8: port 21, dip 64, gain 2896. -/
theorem test_worked_case_1 :
    let ps := [rested (.port 40) (.port 21) .feed 4096, rested (.port 3) (.port 21) .talk 5792]
    let m := measured ps (inputsOf [(40, 1000000), (3, -300000)]) 64 21 0
    m = -174219 ∧ gained m 2896 = -123178 := by decide +kernel

/-- 3.9: bus 2 as ports 7, 5, 6 and 9 hear it. -/
theorem test_worked_case_2 :
    let ps := [rested (.port 5) (.bus 2) .talk 4096, rested (.port 6) (.bus 2) .talk 4096, rested (.port 7) (.bus 2) .talk 8192]
    let heard (k : PortId) := busValue ps (inputsOf [(5, 2000000), (6, -500000), (7, 7000000)]) k 2 0
    [heard 7, heard 5, heard 6, heard 9] = [1500000, 8388607, 8388607, 8388607] := by decide +kernel

/-- 3.10: blocks 4200 and 4201. -/
theorem test_worked_case_3 : gained 9000000 3840 = 8437500 ∧ clips24 8437500 = true ∧ sat24 8437500 = 8388607 ∧
    gained 9000000 3584 = 7875000 ∧ clips24 8388607 = false := by decide

/-- 9.8: levels and caps over windows 0 to 3 and 10 to 11. -/
theorem test_governor_sequence :
    let c : GovConfig := { GovConfig.reset with mode := .closed }
    let next (peak openings : Nat) (r : Protection) := ({ r with peak := peak, openings := openings }).endWindow c 0
    let w3 := next 1000000 14 (next 3000000 2 (next 4500000 5 (next 1500000 3 Protection.reset)))
    let w10 := (List.replicate 6 (900000, 1)).foldl (fun r w => next w.1 w.2 r) (next 800000 4 w3)
    (next 4500000 5 (next 1500000 3 Protection.reset)).level = 2 ∧ w3.level = 1 ∧ w3.history = [3, 5, 2, 14] ∧
      w10.level = 1 ∧ w10.history = [14, 4, 1, 1, 1, 1, 1, 1] ∧ (next 700000 0 w10).level = 0 ∧
      (next 700000 0 w10).history = [4, 1, 1, 1, 1, 1, 1, 0] := by decide

/-! ## The states of the witnesses -/

/-- CONFIG with five ports: 0 PANEL, 1 EARPIECE, 2 FIELD on channel 0, 3 PANEL marked AWAY, 4 SOURCE. -/
def desk : State := { State.reset with
  ports := ((((State.reset.ports.set 0 ⟨.panel, some ⟨0, 0⟩, some ⟨0, 0⟩, none, some 4096, none, .available⟩).set 1
    ⟨.earpiece, none, some ⟨0, 1⟩, none, some 4096, some 64, .available⟩).set 2
    ⟨.field, none, none, some 0, some 4096, none, .available⟩).set 3 ⟨.panel, none, none, none, some 4096, none, .away⟩).set 4
    ⟨.source, some ⟨5, 7⟩, none, none, none, none, .available⟩
  ears := State.reset.ears.set 1 (some Ear.empty) }

/-- A MOMENTARY key at rest, of priority 1. -/
def keyTo (owner : PortId) (target : Target) : KeyRecord :=
  { KeyRecord.reset with owner := some owner, target := some target, priority := 1 }

/-- A channel with a configuration whose call key is 5. -/
def linked (st : ChanState) : Machine.Channel := { Channel.reset with state := st, config := some ⟨77, 2, 250, some 5⟩ }

/-- RUN on the same ports: keys 0 to 2 aim at the earpiece, at panel 0 and at the hunt group 0; key 5 is channel 0's call key; the
earpiece's list holds key 7; 16 filters, the first of which takes every id to channel 0. -/
def board : State := { desk with
  mode := .run
  keys := ((((desk.keys.set 0 (keyTo 0 (.port 1))).set 1 (keyTo 3 (.port 0))).set 2 (keyTo 0 (.group 0))).set 5
    (keyTo 2 (.port 0))).set 7 (keyTo 3 (.port 1))
  groups := desk.groups.set 0 ⟨.hunt, [⟨0, none⟩, ⟨3, none⟩, ⟨1, none⟩], [0, 3, 1], [], 100⟩
  ears := desk.ears.set 1 (some ⟨[⟨7, 1, 1⟩], 1, ⟨64, 256, 3⟩⟩)
  mix := { desk.mix with gains := desk.mix.gains.set 0 (some ⟨4096, 4096, 8⟩) }
  rx := { desk.rx with
    filters := desk.rx.filters.set 0 ⟨true, 0, 0xFFFF, 0⟩
    channels := desk.rx.channels.set 0 (linked .running) } }

/-- The board with another record for channel 0. -/
def boardWith (c : Machine.Channel) : State := board.setChannel 0 c

/-- The board with the earpiece's list full at one priority. -/
def fullBoard (priority : Nat) : State :=
  board.setEar 1 (some ⟨[⟨7, priority, 1⟩, ⟨8, priority, 2⟩, ⟨9, priority, 3⟩, ⟨10, priority, 4⟩], 4, ⟨64, 64, 8⟩⟩)

/-- A governor whose mode is CLOSED. -/
def watched (s : State) : State := { s with gov := { s.gov with config := { s.gov.config with mode := .closed } } }

/-- The full board of priority 0 with the paths of its head, key 7, and of its last entry, key 10, and a governor that counts. -/
def talkers : State := watched { fullBoard 0 with
  keys := board.keys.set 10 (keyTo 2 (.port 1))
  paths := [⟨0, ⟨.port 3, .port 1, .talk⟩, [7], false, 4096, 4096, 8, false, false, false⟩,
    ⟨1, ⟨.port 2, .port 1, .talk⟩, [10], false, 0, 0, 8, true, false, false⟩] }

theorem free_of {s : State} {k : KeyId} (h : s.linkOwned k = false) : ¬ s.callKeyNamed k := by
  rw [← s.linkOwned_iff]; simp [h]
theorem named_of {s : State} {k : KeyId} (h : s.linkOwned k = true) : s.callKeyNamed k := (s.linkOwned_iff k).1 h

theorem desk_takes : desk.takesRequests := State.takesRequests_of rfl (by decide +kernel)
theorem board_takes : board.takesRequests := State.takesRequests_of rfl (by decide +kernel)
theorem boardWith_takes (c : Machine.Channel) : (boardWith c).takesRequests :=
  State.takesRequests_of rfl (Nat.zero_lt_succ 15)
theorem fullBoard_takes (n : Nat) : (fullBoard n).takesRequests :=
  State.takesRequests_of rfl (Nat.zero_lt_succ 15)

/-! ## A witness for every statement with hypotheses -/

theorem witness_CommandsLeaveTheQueue : ∃ t, exec .clockLost board = .next t := ⟨_, rfl⟩
theorem witness_ResetLeavesTheResetCondition :
    State.reset.takesRequests ∧ ({ State.reset with rstnLow := true }).rstnLow = true ∧ State.reset.rstnLow = false :=
  ⟨State.takesRequests_of rfl (by decide), rfl, rfl⟩
theorem witness_HeldInResetNothingIsTaken :
    ({ board with rstnLow := true }).rstnLow = true ∧ ∀ low, Instr.start 0 ≠ .resetInput low := ⟨rfl, by intro low h; cases h⟩
theorem witness_QuietStateSettlesToItself : board.quiet = true ∧ State.reset.quiet = true := by
  constructor <;> decide +kernel
/-- Only the window end is due. -/
def windowEnded : State := { board with gov := { board.gov with windowDue := true } }
theorem windowEnded_alone : ∀ d ∈ ownSteps, d ≠ .windowEnd → exec d windowEnded = .next windowEnded := by
  have channel : ∀ c : ChanId, windowEnded.rx.channels[c].dropDue = false ∧ windowEnded.rx.channels[c].idleDue = false ∧
      windowEnded.rx.channels[c].concealDue = false ∧ windowEnded.rx.channels[c].recoveryDue = false ∧
      windowEnded.completionDue c = false := by decide +kernel
  have none_waits : ∀ g : GroupId, windowEnded.groups[g].waiters.isEmpty = true := by decide +kernel
  have wait (k : KeyId) (g : GroupId) : windowEnded.timeoutDue g k = false := by
    rw [State.timeoutDue, List.isEmpty_iff.1 (none_waits g)]; rfl
  have own (f : State → State) (h : f windowEnded = windowEnded) : Host.Outcome.next (windowEnded.ownStep f) =
      (.next windowEnded : Result) := by rw [State.ownStep_of_high rfl, h]
  intro d hd hne
  simp only [ownSteps, stepsBeforeTimeouts, List.cons_append, List.mem_cons, List.mem_append, List.mem_map, List.mem_flatMap,
    List.not_mem_nil, or_false] at hd
  obtain rfl | (((⟨p, -, rfl⟩ | ⟨c, -, h⟩) | ⟨c, -, rfl⟩) | ⟨k, -, rfl⟩) | rfl := hd
  · exact absurd rfl hne
  · rfl
  · obtain ⟨h1, h2, h3, h4, -⟩ := channel c
    rcases h with rfl | rfl | rfl | rfl
    · exact own _ (State.takeDrop_of_not_due h1)
    · exact own _ (State.takeIdleLimit_of_not_due h2)
    · exact own _ (State.takeConcealLimit_of_not_due h3)
    · exact own _ (State.takeRecovery_of_not_due h4)
  · exact own _ (State.takeCompletion_of_not_due (channel c).2.2.2.2)
  · exact own _ (State.takeTimeout_of_not_due (wait k))
  · rfl
theorem witness_QuietStateSettlesToItself_due : windowEnded.rstnLow = false ∧ (∀ p ∈ windowEnded.paths, p.pos < 512) ∧
    Instr.windowEnd ∈ ownSteps ∧ (∀ d ∈ ownSteps, d ≠ .windowEnd → exec d windowEnded = .next windowEnded) ∧
    (∃ t, exec .windowEnd windowEnded = .next t ∧ t.stepsQuiet = true) ∧ windowEnded.stepsQuiet = false ∧
    windowEnded.settleSteps.stepsQuiet = true :=
  ⟨rfl, by simp [windowEnded, board, desk, State.reset], by simp [ownSteps, stepsBeforeTimeouts], windowEnded_alone,
    ⟨_, rfl, by decide +kernel⟩, by decide +kernel⟩
theorem witness_WrongModeIsRefused :
    (requestHeader (.press 1 0) = some ⟨0x30, 1, .runOnly⟩ ∧ desk.takesRequests ∧ desk.mode = .config) ∧
    (requestHeader (.governor 1 0 none none none none none) = some ⟨0x13, 1, .configOnly⟩ ∧ board.takesRequests ∧
      board.mode = .run) := ⟨⟨rfl, desk_takes, rfl⟩, rfl, board_takes, rfl⟩
theorem witness_FullReplyQueueRefusesFrames :
    let s := { board with link := { board.link with replies := List.replicate 16 ⟨1, 0, .ok, []⟩ } }
    s.rstnLow = false ∧ 16 ≤ s.link.replies.length ∧ (requestHeader (.swap 1)).isSome := by decide +kernel
theorem witness_ExecutedRequestQueuesOneReply : requestHeader (.start 1) = some ⟨0x01, 1, .either⟩ ∧ desk.takesRequests :=
  ⟨rfl, desk_takes⟩
theorem witness_BadFrameIsAnswered : board.takesRequests := board_takes

theorem not_named {s : State} {p : PortId} (h : s.portNamed p = false) : ¬ s.named p := by
  rw [← s.portNamed_iff]; simp [h]

/-- Port 47 becomes a PANEL by a request that names a channel too; port 1 keeps its kind. -/
theorem witness_PortWritesTheRecord : desk.takesRequests ∧ desk.mode = .config ∧
    (PortKind.reads .panel (some 0x57) (some 0x57) (some 9) (some ⟨5, 7⟩) (some ⟨5, 7⟩) none ∧
      ¬ desk.opened.slotTaken 47 (some ⟨5, 7⟩) ∧ ¬ desk.opened.channelTaken 47 .panel none ∧
      ¬ desk.opened.poolUsedUp 47 .panel ∧ ¬ desk.opened.named 47 ∧ desk.opened.ports[(47 : PortId)].channel = none) ∧
    (PortKind.reads .earpiece none (some 1) none none (some ⟨0, 1⟩) none ∧ ¬ desk.opened.slotTaken 1 (some ⟨0, 1⟩) ∧
      ¬ desk.opened.poolUsedUp 1 .earpiece ∧ desk.opened.ports[(1 : PortId)].kind = .earpiece) := by
  refine ⟨desk_takes, rfl, ⟨⟨rfl, by decide, by decide, by decide⟩, ?_, ?_, ?_, not_named (by decide +kernel), by decide +kernel⟩,
    ⟨rfl, by decide, by decide, by decide⟩, ?_, ?_, by decide +kernel⟩ <;>
    (try simp only [State.slotTaken, State.channelTaken, State.poolUsedUp]) <;> decide +kernel

/-- Port 2 leaves channel 0, WAITING and CLOSED, by a change of kind: a request for UNUSED with every field out of range. -/
theorem witness_PortUnbindsAChannel :
    let s := desk.setChannel 0 (linked .waiting)
    (s.takesRequests ∧ s.mode = .config ∧ PortKind.reads .unused (some 254) (some 254) (some 254) none none none ∧
      ¬ s.opened.slotTaken 2 none ∧
      ¬ s.opened.channelTaken 2 .unused none ∧ ¬ s.opened.poolUsedUp 2 .unused ∧ ¬ s.opened.named 2 ∧
      s.opened.ports[(2 : PortId)].channel = some 0 ∧ s.opened.rx.channels[(0 : ChanId)].state ≠ .closed) ∧
    (desk.opened.ports[(2 : PortId)].channel = some 0 ∧ desk.opened.rx.channels[(0 : ChanId)].state = .closed) := by
  refine ⟨⟨State.takesRequests_of rfl (by decide), rfl, ⟨⟨rfl, rfl, rfl⟩, by decide, by decide, by decide⟩, ?_, ?_, ?_,
    not_named (by decide +kernel), ?_, ?_⟩, ?_, ?_⟩ <;>
    (try simp only [State.slotTaken, State.channelTaken, State.poolUsedUp]) <;> decide +kernel

/-- Slot and channel of another port, a full pool, a port that a key names. -/
theorem witness_PortRefusals : desk.takesRequests ∧ desk.mode = .config ∧
    PortKind.reads .field (some 254) (some 254) (some 0) none none (some 0) ∧ desk.opened.slotTaken 3 (some ⟨0, 1⟩) ∧ desk.opened.channelTaken 3 .field (some 0) ∧
    (let s := { desk with ports := tableOf fun p : PortId => if p.val < 16 then ⟨.earpiece, none, none, none, none, none, .available⟩
      else PortRecord.reset }
    s.takesRequests ∧ s.opened.poolUsedUp 16 .earpiece) ∧
    (let s := desk.setKey 0 (keyTo 0 (.port 3))
    s.takesRequests ∧ s.opened.named 3 ∧ PortKind.source ≠ s.opened.ports[(3 : PortId)].kind) := by
  refine ⟨desk_takes, rfl, ⟨⟨rfl, rfl, rfl⟩, by decide, by decide, by decide⟩, ?_, ?_,
    ⟨State.takesRequests_of rfl (by decide), ?_⟩, State.takesRequests_of rfl (by decide), (State.portNamed_iff _ _).1 (by decide +kernel), by decide +kernel⟩ <;>
    (try simp only [State.slotTaken, State.channelTaken, State.poolUsedUp]) <;> decide +kernel

theorem witness_TrimWritesAndRetargets : board.takesRequests ∧ board.opened.ports[(1 : PortId)].kind = .earpiece ∧
    board.opened.ports[(4 : PortId)].kind = .source ∧ board.opened.ports[(0 : PortId)].kind = .panel ∧
    board.opened.mix.gains[(0 : PortId)] = some ⟨4096, 4096, 8⟩ ∧
    (board.opened.ears[(1 : PortId)]).map Ear.dip = some ⟨64, 256, 3⟩ := by
  refine ⟨board_takes, ?_⟩; decide +kernel
/-- Group 0 with key 2 waiting: its port 3 becomes AVAILABLE; port 0 is the key's owner, and the earpiece's list is full. -/
def queue : State :=
  ((fullBoard 0).setGroup 0 { board.groups[(0 : GroupId)] with waiters := [2] }).setKey 2
    { keyTo 0 (.group 0) with activation := .held, delivered := true, deadline := some 100 }

theorem queue_takes : queue.takesRequests := State.takesRequests_of rfl (by decide)
theorem board_stored_canTake :
    let stored := { queue.opened with ports := queue.opened.ports.set 3 { queue.opened.ports[(3 : PortId)] with presence := .available } }
    stored.canTake 0 2 3 ∧ ¬ stored.canTake 0 2 0 := by
  simp only [← State.eligible_iff]; decide +kernel
theorem witness_PresenceStoresTheValue : board.takesRequests ∧ board.opened.ports[(3 : PortId)].kind = .panel ∧
    board.opened.ports[(3 : PortId)].presence = .away ∧ board.opened.ports[(2 : PortId)].kind = .field ∧
    queue.opened.ports[(3 : PortId)].kind = .panel ∧ queue.opened.ports[(3 : PortId)].presence = .away ∧
    queue.opened.servedBy 3 0 ∧ (∀ h : GroupId, h < 0 → ¬ queue.opened.servedBy 3 h) ∧
    queue.opened.groups[(0 : GroupId)].waiters = [] ++ 2 :: [] ∧
    queue.opened.groups[(0 : GroupId)].lru = [0] ++ 3 :: [1] ∧ queue.opened.keys[(2 : KeyId)].owner.isSome := by
  refine ⟨board_takes, by decide +kernel, by decide +kernel, by decide +kernel, by decide +kernel, by decide +kernel,
    ⟨by decide +kernel, by decide +kernel, ⟨3, none⟩, by decide +kernel, rfl⟩, ?_, by decide +kernel⟩
  intro h hh; exact absurd hh (by simp)
theorem witness_ChannelConfiguresAndCloses : desk.takesRequests ∧ desk.mode = .config ∧ desk.opened.bound 0 ∧
    ¬ desk.opened.bound 7 := by
  refine ⟨desk_takes, rfl, ?_⟩; simp only [State.bound]; decide +kernel
theorem witness_FilterWritesOneFilter : desk.takesRequests ∧ desk.mode = .config := ⟨desk_takes, rfl⟩
theorem witness_GovernorWritesTheConfiguration : desk.takesRequests ∧ desk.mode = .config := ⟨desk_takes, rfl⟩
theorem witness_KeyDefinesAKey : board.takesRequests ∧ board.opened.keys[(255 : KeyId)].activation = .idle ∧
    board.opened.ports[(0 : PortId)].kind.listens ∧ (1 : PortId) ≠ 0 ∧ board.opened.ports[(1 : PortId)].kind.listens := by
  refine ⟨board_takes, ?_⟩; simp only [PortKind.listens]; decide +kernel
theorem witness_KeyRefusals :
    (let s := board.setKey 0 { keyTo 0 (.port 1) with activation := .held }
    s.takesRequests ∧ s.mode = .run ∧ s.opened.keys[(0 : KeyId)].activation ≠ .idle) ∧
    (board.takesRequests ∧ ¬ board.opened.ports[(4 : PortId)].kind.listens ∧ board.opened.keys[(1 : KeyId)].activation = .idle) := by
  refine ⟨⟨State.takesRequests_of rfl (by decide), rfl, by decide +kernel⟩, board_takes, ?_⟩
  simp only [PortKind.listens]; decide +kernel
theorem witness_KeyRemoveUndefinesAKey : board.takesRequests ∧ board.opened.callKeyNamed 5 ∧ ¬ board.opened.callKeyNamed 0 ∧
    board.opened.keys[(0 : KeyId)].activation = .idle :=
  ⟨board_takes, named_of (by decide +kernel), free_of (by decide +kernel), by decide +kernel⟩
/-- Group 31 is at rest; group 0 has a waiter; SOURCE port 4 is no member. -/
theorem witness_GroupWritesTheRecord : board.takesRequests ∧ board.opened.groups[(31 : GroupId)].waiters = [] ∧
    board.opened.groups[(31 : GroupId)].members = [] ∧ ([0, 1, 2, 3] : List PortId).Nodup ∧
    (∀ p ∈ ([0, 1, 2, 3] : List PortId), board.opened.ports[p].kind.listens) ∧
    ¬ board.opened.ports[(4 : PortId)].kind.listens ∧
    (let s := board.setGroup 0 { board.groups[(0 : GroupId)] with waiters := [2] }
    s.takesRequests ∧ s.opened.groups[(0 : GroupId)].waiters ≠ []) := by
  refine ⟨board_takes, by decide +kernel, by decide +kernel, by decide, ?_, ?_, State.takesRequests_of rfl (by decide),
    by decide +kernel⟩ <;> (try simp only [PortKind.listens]) <;> decide +kernel

/-- A SMART key HELD since block 0 is quick at 299 and not at 300. -/
theorem witness_PressAndReleaseFollowTheMode :
    let smart : KeyRecord := { keyTo 3 (.port 0) with mode := .smart, activation := .held, pressBlock := some 0 }
    let at' (n : BlockCount) : State := { board with blockCount := n, keys := board.keys.set 1 smart }
    (at' 299).takesRequests ∧ (at' 299).mode = .run ∧ (at' 299).opened.keys[(1 : KeyId)].target.isSome ∧
      ¬ (at' 299).opened.callKeyNamed 1 ∧ ((at' 299).opened.blockCount - 0).toNat < 300 ∧
      ¬ ((at' 300).opened.blockCount - 0).toNat < 300 ∧ (at' 300).takesRequests ∧ ¬ (at' 300).opened.callKeyNamed 1 ∧
      (at' 300).opened.callKeyNamed 5 :=
  ⟨State.takesRequests_of rfl (by decide), rfl, by decide +kernel, free_of (by decide +kernel), by decide +kernel,
    by decide +kernel, State.takesRequests_of rfl (by decide), free_of (by decide +kernel), named_of (by decide +kernel)⟩

/-- Key 7 is heard alone at the earpiece and is released; with key 8 behind it, key 8 is heard next; key 1 shares its path into
PANEL 0 with ROUTE; key 2 engages the earpiece in group 0. -/
theorem witness_PressAndReleaseFollowTheMode_withdraws :
    let live (o : PortId) (p : PortId) : KeyRecord := { keyTo o (.port p) with
      activation := .held, delivered := true, entries := [⟨some (.port p), .live⟩] }
    let into (o p : PortId) (k : KeyId) (route : Bool) : Path :=
      ⟨p.val, ⟨.port o, .port p, .talk⟩, [k], route, 4096, 0, 8, false, false, false⟩
    let heard := { board with
      keys := board.keys.set 7 (live 3 1)
      ears := board.ears.set 1 (some ⟨[⟨7, 1, 1⟩, ⟨8, 1, 2⟩], 2, ⟨64, 256, 3⟩⟩)
      paths := [into 3 1 7 false] }
    let shared := { board with keys := board.keys.set 1 (live 3 0), paths := [into 3 0 1 true] }
    let engaged := { board with
      keys := board.keys.set 2 { live 0 1 with target := some (.group 0) }
      groups := board.groups.set 0 { board.groups[(0 : GroupId)] with members := [⟨1, some 2⟩] } }
    (heard.takesRequests ∧ heard.mode = .run ∧ ¬ heard.opened.callKeyNamed 7 ∧ heard.opened.keys[(7 : KeyId)] = live 3 1 ∧
      (∀ g : GroupId, heard.opened.groups[g].waiters = []) ∧ heard.opened.paths = [into 3 1 7 false] ∧
      heard.opened.ears[(1 : PortId)] = some ⟨[⟨7, 1, 1⟩, ⟨8, 1, 2⟩], 2, ⟨64, 256, 3⟩⟩) ∧
    (shared.takesRequests ∧ ¬ shared.opened.callKeyNamed 1 ∧ shared.opened.keys[(1 : KeyId)] = live 3 0 ∧
      shared.opened.paths = [into 3 0 1 true] ∧ shared.opened.ports[(0 : PortId)].kind ≠ .earpiece) ∧
    (engaged.takesRequests ∧ ¬ engaged.opened.callKeyNamed 2 ∧ engaged.opened.keys[(2 : KeyId)].target = some (.group 0) ∧
      engaged.opened.groups[(0 : GroupId)].members = [⟨1, some 2⟩]) ∧
    (queue.takesRequests ∧ ¬ queue.opened.callKeyNamed 2 ∧ queue.opened.keys[(2 : KeyId)].activation = .held ∧
      queue.opened.groups[(0 : GroupId)].waiters = [2] ∧ queue.opened.keys[(2 : KeyId)].deadline.isSome ∧
      ∀ g : GroupId, g ≠ 0 → queue.opened.groups[g].waiters = []) :=
  ⟨⟨State.takesRequests_of rfl (by decide), rfl, free_of (by decide +kernel), by decide +kernel⟩,
    ⟨State.takesRequests_of rfl (by decide), free_of (by decide +kernel), by decide +kernel⟩,
    ⟨State.takesRequests_of rfl (by decide), free_of (by decide +kernel), by decide +kernel⟩,
    queue_takes, free_of (by decide +kernel), by decide +kernel⟩

/-- Key 7 leaves a full list whose port is a member of group 0, where key 2 waits: the pass that follows can give it that port. -/
theorem witness_PressAndReleaseFollowTheMode_serves :
    let s := queue.setKey 7 { keyTo 3 (.port 1) with activation := .held, delivered := true, entries := [⟨some (.port 1), .live⟩] }
    let w := ((s.opened.setActivation 7 .idle).withdraw 7).1
    s.takesRequests ∧ s.mode = .run ∧ ¬ s.opened.callKeyNamed 7 ∧ (∀ g : GroupId, 7 ∉ s.opened.groups[g].waiters) ∧
      (s.opened.ears[(1 : PortId)]).map (fun e => e.entries.map TalkEntry.key) = some [7, 8, 9, 10] ∧
      w.groups[(0 : GroupId)].mode = .hunt ∧ w.groups[(0 : GroupId)].waiters = [2] ∧ w.groups[(0 : GroupId)].lru = [0, 3] ++ 1 :: [] ∧
      (¬ w.canTake 0 2 0 ∧ ¬ w.canTake 0 2 3 ∧ w.canTake 0 2 1) ∧ w.keys[(2 : KeyId)].owner.isSome := by
  refine ⟨State.takesRequests_of rfl (by decide), rfl, free_of (by decide +kernel), by decide +kernel, by decide +kernel,
    by decide +kernel, by decide +kernel, by decide +kernel, ?_, by decide +kernel⟩
  simp only [← State.eligible_iff]; decide +kernel

/-- Key 7 leads the earpiece's list and shares its path with key 9, held back behind it; the path of key 8, `next`'s owner's, is suspended.
Every path is at the target of R21, and the governor counts. -/
def leader (next : PortId) : State :=
  let talker (o : PortId) (st : EntryStatus) : KeyRecord := { keyTo o (.port 1) with
    activation := .held, delivered := true, entries := [⟨some (.port 1), st⟩] }
  watched { board with
    keys := ((board.keys.set 7 (talker 3 .live)).set 8 (talker next .heldBack)).set 9 (talker 3 .heldBack)
    ears := board.ears.set 1 (some ⟨[⟨7, 1, 1⟩, ⟨8, 1, 2⟩, ⟨9, 1, 3⟩], 3, ⟨64, 256, 3⟩⟩)
    paths := if next = 3 then [⟨0, ⟨.port 3, .port 1, .talk⟩, [7, 8, 9], false, 4096, 0, 8, false, false, false⟩]
      else [⟨0, ⟨.port 3, .port 1, .talk⟩, [7, 9], false, 4096, 0, 8, false, false, false⟩,
        ⟨1, ⟨.port next, .port 1, .talk⟩, [8], false, 0, 0, 8, true, false, false⟩] }
theorem leader_aimed : (leader 2).aimed ∧ (leader 3).aimed := by simp only [State.aimed]; decide +kernel

/-- The new head's path is another's (an opening), or the departing key's own. -/
theorem witness_PressAndReleaseFollowTheMode_heads : ∀ next ∈ [(2 : PortId), 3],
    let s := leader next
    s.takesRequests ∧ s.mode = .run ∧ ¬ s.opened.callKeyNamed 7 ∧ (∀ g : GroupId, s.opened.groups[g].waiters = []) ∧
      s.opened.keys = s.keys ∧ s.opened.paths = s.paths ∧ s.opened.ears = s.ears ∧ s.opened.ports = s.ports ∧
      s.leads 7 1 ∧ s.nextHead 7 1 = some ⟨8, 1, 2⟩ ∧ s.keys[(8 : KeyId)].owner = some next ∧
      s.keys[(7 : KeyId)].owner = some 3 ∧ s.paths.Pairwise (fun a b => a.ident ≠ b.ident) ∧
      (s.keys[(7 : KeyId)].entries.map DestEntry.dest).Nodup := by
  intro next h
  have : next = 2 ∨ next = 3 := by simpa using h
  rcases this with rfl | rfl <;>
    exact ⟨State.takesRequests_of rfl (by decide), rfl, free_of (by decide +kernel), by decide +kernel⟩
theorem witness_PressAndReleaseFollowTheMode_opening : (leader 2).opensBehind 7 1 ∧ (leader 2).mode = .run ∧ (leader 2).aimed ∧
    ¬ (leader 3).opensBehind 7 1 := by
  refine ⟨⟨⟨8, 1, 2⟩, 2, by decide +kernel, by decide +kernel, ⟨1, ⟨.port 2, .port 1, .talk⟩, [8], false, 0, 0, 8, true, false, false⟩,
    by decide +kernel, rfl, rfl, rfl, by decide +kernel⟩, rfl, leader_aimed.1, ?_⟩
  rintro ⟨-, -, -, -, q, hq, -, hs, -⟩
  have all : ∀ q ∈ (leader 3).paths, q.suspended = false := by decide +kernel
  rw [all q hq] at hs; cases hs

/-- Key 1 into PANEL 0, with room, and with 32 paths there. -/
theorem witness_PressOpensAPath :
    (board.takesRequests ∧ board.mode = .run ∧ ¬ board.opened.callKeyNamed 1 ∧
      board.opened.keys[(1 : KeyId)] = keyTo 3 (.port 0) ∧ board.opened.ports[(0 : PortId)].kind = .panel ∧
      board.opened.paths = [] ∧ board.opened.gov.config.mode = .off) ∧
    (let s := { board with gov := ⟨{ GovConfig.reset with mode := .closed }, board.gov.records, false⟩ }
    s.takesRequests ∧ ¬ s.opened.callKeyNamed 1 ∧ s.opened.gov.config.mode ≠ .off ∧ s.opened.paths = [] ∧
      s.opened.keys[(1 : KeyId)] = keyTo 3 (.port 0)) ∧
    (let crowd := (List.finRange 33).map fun i => (⟨i.val, ⟨.port (i.castLE (by decide)), .port 0, .talk⟩, [], true, 1, 1, 8, false,
      false, false⟩ : Path)
    let s := { board with paths := crowd.eraseIdx 3 }
    s.takesRequests ∧ ¬ s.opened.callKeyNamed 1 ∧ (s.opened.paths.filter fun q => q.ident.dst = .port 0).length = 32 ∧
      ∀ q ∈ s.opened.paths, q.ident ≠ ⟨.port 3, .port 0, .talk⟩) :=
  ⟨⟨board_takes, rfl, free_of (by decide +kernel), by decide +kernel⟩,
    ⟨State.takesRequests_of rfl (by decide), free_of (by decide +kernel), by decide +kernel⟩,
    State.takesRequests_of rfl (by decide), free_of (by decide +kernel), by decide +kernel⟩
/-- A LATCH key whose path has one record, closing or held by another key. -/
theorem witness_PressOpensAPath_record : ∀ closing : Bool,
    let q : Path := ⟨0, ⟨.port 3, .port 0, .talk⟩, if closing then [] else [9], false, 0, 100, 2, false, closing, false⟩
    let s := { board with paths := [q], keys := board.keys.set 1 { keyTo 3 (.port 0) with mode := .latch } }
    s.takesRequests ∧ s.mode = .run ∧ ¬ s.opened.callKeyNamed 1 ∧ s.opened.keys[(1 : KeyId)].mode = .latch ∧ s.opened.paths = [q] := by
  intro closing
  cases closing <;> exact ⟨State.takesRequests_of rfl (by decide), rfl, free_of (by decide +kernel), by decide +kernel⟩

theorem witness_DeliveryStateIsDerived :
    let r := { keyTo 0 (.port 1) with delivered := true }
    r.delivered = true ∧ r.deadline = none ∧ r.entries = [] ∧ ({ r with deadline := some 0 }).deadline.isSome ∧
      EntryStatus.live.code ≠ EntryStatus.heldBack.code ∧ (EntryStatus.denied .noSpace).code = (EntryStatus.denied .listFull).code := by
  decide

/-- The shape of a route with room, an illegal one, a full set. -/
theorem witness_RouteAddEditsTheStandbySet : board.takesRequests ∧ board.opened.routes.swapPending = false ∧
    board.opened.legalShape ⟨.port 4, .port 1, .feed⟩ ∧ ¬ board.opened.legalShape ⟨.bus 0, .bus 1, .feed⟩ ∧
    board.opened.routes.standby = [] ∧
    (let s := { board with routes := { board.routes with standby := List.replicate 256 ⟨⟨.port 0, .bus 0, .talk⟩, 1⟩ } }
    s.takesRequests ∧ 256 ≤ s.opened.routes.standby.length ∧
      ∀ r ∈ s.opened.routes.standby, r.ident ≠ ⟨.port 4, .port 1, .feed⟩) := by
  refine ⟨board_takes, by decide +kernel, (State.shapeRefused_iff _ _).1 (by decide +kernel), ?_, by decide +kernel,
    State.takesRequests_of rfl (by decide), by decide +kernel⟩
  rw [← State.shapeRefused_iff]; decide +kernel

/-- The board with one route in each set and, where asked, a pending swap whose judgement is due. -/
def changeover (pending due : Bool) : State := { board with routes :=
  ⟨[⟨⟨.port 4, .port 0, .feed⟩, 4096⟩], [⟨⟨.port 4, .port 1, .feed⟩, 4096⟩], pending, due⟩ }

theorem witness_RouteDropAndRouteCopyEditTheStandbySet :
    (changeover false false).takesRequests ∧ (changeover false false).opened.routes = (changeover false false).routes ∧
    (changeover true false).takesRequests ∧ (changeover true false).opened.routes.swapPending = true :=
  ⟨State.takesRequests_of rfl (by decide), by decide +kernel, State.takesRequests_of rfl (by decide), by decide +kernel⟩
theorem witness_SwapExchangesOrWaits : desk.takesRequests ∧ desk.mode = .config ∧ (changeover false false).takesRequests ∧
    (changeover false false).mode = .run ∧ (changeover true false).opened.routes.swapPending = true :=
  ⟨desk_takes, rfl, State.takesRequests_of rfl (by decide), rfl, by decide +kernel⟩

/-- A judgement with room; one with 512 records; one with 32 records into port 1. -/
theorem witness_SwapIsJudged :
    let s := changeover true true
    let row (i : Nat) (d : Endpoint) : Path := ⟨i, ⟨.bus 0, d, .talk⟩, [], true, 1, 1, 8, false, false, false⟩
    let table := { s with paths := (List.range 512).map fun i => row i (.port 47) }
    let dest := { s with paths := (List.range 32).map fun i => row i (.port 1) }
    s.rstnLow = false ∧ s.routes.judgementDue = true ∧ s.gov.windowDue = false ∧ s.paths = [] ∧ table.paths.length = 512 ∧
      (dest.paths.filter fun p : Path => decide (p.ident.dst = .port 1)).length = 32 ∧
      (∀ p ∈ dest.paths, p.ident ≠ ⟨.port 4, .port 1, .feed⟩) := by decide +kernel
/-- A route of both sets at another level; a TALK path into the earpiece that loses ROUTE while key 7, the head, holds it, while key 8
does, and while none does. -/
theorem witness_SwapIsJudged_levels : ∀ ks ∈ [[], [7], [(8 : KeyId)]],
    let kept : PathId := ⟨.port 4, .port 0, .feed⟩
    let gone : PathId := ⟨.port 3, .port 1, .talk⟩
    let s := { changeover true true with
      routes := ⟨[⟨kept, 4096⟩, ⟨gone, 100⟩], [⟨kept, 50⟩], true, true⟩
      paths := [⟨0, kept, [], true, 4096, 4096, 8, false, false, false⟩, ⟨1, gone, ks, true, 100, 100, 8, false, false, false⟩] }
    s.rstnLow = false ∧ s.routes.judgementDue = true ∧ s.gov.windowDue = false ∧ (s.routes.standby.map Route.ident).Nodup ∧
      (s.routes.active.map Route.ident).Nodup ∧ (∀ x ∈ s.paths, x.ident = gone → x.keys = ks ∧ x.route = true) ∧
      s.swapLimit = none ∧ (s.ears[(1 : PortId)]).map (fun e => e.entries.map TalkEntry.key) = some [7] := by decide +kernel
theorem witness_SwapIsJudged_window :
    let s := { changeover true true with gov := { board.gov with windowDue := true } }
    s.rstnLow = false ∧ s.routes.judgementDue = true ∧ s.gov.windowDue = true := by decide +kernel

/-- A judgement that opens the closing path of an incoming route again and a new one, and adds ROUTE to a suspended one, with a
governor that counts. -/
theorem witness_SwapIsJudged_openings :
    let s := watched { changeover true true with
      routes := ⟨[], [⟨⟨.port 4, .port 1, .feed⟩, 4096⟩, ⟨⟨.port 4, .port 0, .feed⟩, 50⟩,
        ⟨⟨.port 3, .port 1, .talk⟩, 7⟩], true, true⟩
      paths := [⟨0, ⟨.port 4, .port 1, .feed⟩, [], false, 0, 100, 3, false, true, false⟩,
        ⟨1, ⟨.port 3, .port 1, .talk⟩, [7], false, 0, 100, 3, true, false, false⟩] }
    s.rstnLow = false ∧ s.routes.judgementDue = true ∧ s.gov.windowDue = false ∧ s.mode = .run ∧ s.aimed ∧
      s.paths.Pairwise (fun a b => a.ident ≠ b.ident) ∧ (s.routes.standby.map Route.ident).Nodup ∧ s.swapLimit = none ∧
      s.gov.config.mode ≠ .off := by
  simp only [State.aimed]; decide +kernel

theorem witness_NotifyAndResync : board.takesRequests := board_takes
/-- A kind enabled and disabled, a subject that waits, the entry being sent, and a queue of 64. -/
theorem witness_ReportsJoinTheNoticeQueue :
    let l : ControlLink := { ControlLink.reset with notices := [.key 0, .key 1], reading := some ⟨.notice, [], false⟩ }
    l.mask.getLsbD (Notice.key 0).kindCode = true ∧ ({ l with mask := 0xFE }).mask.getLsbD (Notice.key 0).kindCode = false ∧
      Notice.key 1 ∈ l.notices ∧ l.notices.head? = some (.key 0) ∧ Notice.key 2 ∉ l.notices ∧
      (Notice.clock true 0).isStateKind = false ∧ (List.replicate 64 (Notice.clock true 0)).length = 64 := by decide
theorem witness_ReadTransactionSendsOneEntry : board.rstnLow = false ∧ board.settle.link.reading = none ∧
    ({ board with link := { board.link with reading := some ⟨.notice, [], true⟩, notices := [.key 0] } }).settle.link.reading =
      some ⟨.notice, [], true⟩ := by decide +kernel

theorem witness_CueSendJoinsTheQueue : board.takesRequests ∧ board.mode = .run ∧
    board.opened.rx.channels[(0 : ChanId)].state ≠ .closed ∧ board.opened.rx.channels[(7 : ChanId)].state = .closed ∧
    board.opened.tx.cues.length < 8 ∧
    (let s := { board with tx := { board.tx with cues := List.replicate 8 ⟨0, 1, false⟩ } }
    s.takesRequests ∧ 8 ≤ s.opened.tx.cues.length) :=
  ⟨board_takes, rfl, by decide +kernel, by decide +kernel, by decide +kernel, State.takesRequests_of rfl (by decide),
    by decide +kernel⟩
/-- The board with a check on channel 0. -/
def checked (k : Check) : State := board.setCheck 0 k
theorem witness_CheckStartSetsUpTheRecord : board.takesRequests ∧ board.mode = .run ∧
    board.opened.checks[(0 : ChanId)].state ≠ .running ∧ board.opened.rx.channels[(0 : ChanId)].state = .running ∧
    board.opened.rx.channels[(7 : ChanId)].state = .closed ∧
    (checked { Check.reset with state := .running }).takesRequests ∧
    (checked { Check.reset with state := .running }).opened.checks[(0 : ChanId)].state = .running :=
  ⟨board_takes, rfl, by decide +kernel, by decide +kernel, by decide +kernel, State.takesRequests_of rfl (by decide),
    by decide +kernel⟩
theorem witness_CheckStopEndsTheCheck : board.takesRequests ∧ board.mode = .run ∧
    board.opened.checks[(0 : ChanId)].state ≠ .running ∧
    (checked { Check.reset with state := .running }).opened.checks[(0 : ChanId)].state = .running :=
  ⟨board_takes, rfl, by decide +kernel⟩
theorem witness_CheckCompletes :
    let s := checked { Check.reset with state := .running, duration := 100, sent := 100 }
    s.rstnLow = false ∧ (s.rx.channels[(0 : ChanId)]).config = some ⟨77, 2, 250, some 5⟩ ∧
      s.checks[(0 : ChanId)].state = .running ∧ s.checks[(0 : ChanId)].duration ≤ s.checks[(0 : ChanId)].sent ∧
      board.checks[(0 : ChanId)].state ≠ .running := by decide +kernel
theorem witness_QueriesReportAndChangeNothing : board.takesRequests ∧ board.opened.ports[(1 : PortId)].kind = .earpiece ∧
    (board.opened.ears[(1 : PortId)]).isSome ∧ board.opened.ports[(2 : PortId)].kind = .field ∧
    board.opened.ports[(4 : PortId)].kind = .source := by
  refine ⟨board_takes, ?_⟩; decide +kernel

/-- Key 0 behind key 7 of its own priority; ahead of lower ones in a full list; refused by a full list of its own priority. -/
theorem witness_PressJoinsTheInterruptList :
    (board.takesRequests ∧ board.mode = .run ∧ ¬ board.opened.callKeyNamed 0 ∧
      board.opened.keys[(0 : KeyId)] = keyTo 0 (.port 1) ∧ board.opened.ports[(1 : PortId)].kind = .earpiece ∧
      board.opened.ears[(1 : PortId)] = some ⟨[⟨7, 1, 1⟩], 1, ⟨64, 256, 3⟩⟩ ∧ (⟨[⟨7, 1, 1⟩], 1, ⟨64, 256, 3⟩⟩ : Ear).wf ∧
      board.opened.paths = []) ∧
    ∀ n ∈ [0, 1], (fullBoard n).takesRequests ∧ ¬ (fullBoard n).opened.callKeyNamed 0 ∧
      (fullBoard n).opened.keys[(0 : KeyId)] = keyTo 0 (.port 1) ∧ (fullBoard n).opened.ears[(1 : PortId)] =
        some ⟨[⟨7, n, 1⟩, ⟨8, n, 2⟩, ⟨9, n, 3⟩, ⟨10, n, 4⟩], 4, ⟨64, 64, 8⟩⟩ ∧ (fullBoard n).opened.paths = [] ∧
        (⟨[⟨7, n, 1⟩, ⟨8, n, 2⟩, ⟨9, n, 3⟩, ⟨10, n, 4⟩], 4, ⟨64, 64, 8⟩⟩ : Ear).wf := by
  refine ⟨⟨board_takes, rfl, free_of (by decide +kernel), by decide +kernel, by decide +kernel, by decide +kernel, ?_,
    by decide +kernel⟩, fun n hn => ?_⟩
  · simp [Ear.wf]
  · have : n = 0 ∨ n = 1 := by simpa using hn
    rcases this with rfl | rfl <;>
      exact ⟨fullBoard_takes _, free_of (by decide +kernel), by decide +kernel, by decide +kernel, by decide +kernel,
        by simp [Ear.wf]⟩
/-- The earpiece has its 32 paths, none of them the key's; and an empty list at rest, whose dip has a depth to go to. -/
theorem witness_PressJoinsTheInterruptList_edges :
    (let crowd := (List.finRange 32).map fun i => (⟨i.val, ⟨.port ⟨i.val + 2, by omega⟩, .port 1, .talk⟩, [], true, 1, 1, 8, false,
      false, false⟩ : Path)
    let s := { board with paths := crowd }
    s.takesRequests ∧ ¬ s.opened.callKeyNamed 0 ∧ (s.opened.paths.filter fun q => q.ident.dst = .port 1).length = 32 ∧
      ∀ q ∈ s.opened.paths, q.ident ≠ ⟨.port 0, .port 1, .talk⟩) ∧
    (let s := board.setEar 1 (some Ear.empty)
    s.takesRequests ∧ ¬ s.opened.callKeyNamed 0 ∧ s.opened.ears[(1 : PortId)] = some ⟨[], 0, ⟨256, 256, 8⟩⟩ ∧
      s.opened.ports[(1 : PortId)].dipDepth = some 64) :=
  ⟨⟨State.takesRequests_of rfl (by decide), free_of (by decide +kernel), by decide +kernel⟩,
    State.takesRequests_of rfl (by decide), free_of (by decide +kernel), by decide +kernel⟩

/-- Key 0 takes the head of a full list: the path of the head before it is open, that of the last entry its key's alone; and the levels
of all paths are those of R21. An ALL group of that earpiece alone, and the mask that lets EARPIECE notices through. -/
theorem witness_PressJoinsTheInterruptList_displaces :
    let s := talkers
    s.takesRequests ∧ ¬ s.opened.callKeyNamed 0 ∧ s.opened.keys[(0 : KeyId)] = keyTo 0 (.port 1) ∧
      s.opened.paths = talkers.paths ∧ s.opened.keys[(7 : KeyId)].owner = some 3 ∧ s.opened.keys[(10 : KeyId)].owner = some 2 ∧
      s.opened.aimed ∧ s.opened.gov.config.mode ≠ .off ∧ s.opened.link.mask.getLsbD 1 = true ∧
      (let all := talkers.setGroup 0 ⟨.all, [⟨1, none⟩], [1], [], 100⟩
      all.takesRequests ∧ ¬ all.opened.callKeyNamed 2 ∧ all.opened.portAnswer 2 0 1 all.opened.paths.length = .live) := by
  refine ⟨State.takesRequests_of rfl (by decide), free_of (by decide +kernel), by decide +kernel, by decide +kernel, by decide +kernel,
    by decide +kernel, ?_, by decide +kernel, by decide +kernel, State.takesRequests_of rfl (by decide), free_of (by decide +kernel),
    by decide +kernel⟩
  simp only [State.aimed]; decide +kernel

/-- Key 2 finds its own port, a port marked AWAY and then the earpiece; with the earpiece full it waits, or is refused. -/
theorem witness_PressHuntsForAMember :
    (board.takesRequests ∧ ¬ board.opened.callKeyNamed 2 ∧ board.opened.keys[(2 : KeyId)] = keyTo 0 (.group 0) ∧
      board.opened.groups[(0 : GroupId)].lru = [0, 3] ++ 1 :: [] ∧ board.opened.presenceOf 1 = some .available ∧
      board.opened.presenceOf 3 = some .away ∧
      (board.opened.ears[(1 : PortId)]).map (fun e => decide (e.entries.length < 4)) = some true) ∧
    ((fullBoard 0).takesRequests ∧ (fullBoard 0).opened.groups[(0 : GroupId)].waiters.length < 4 ∧
      ((fullBoard 0).opened.ears[(1 : PortId)]).map (fun e => decide (e.entries.length < 4)) = some false) ∧
    (let s := (fullBoard 0).setGroup 0 { board.groups[(0 : GroupId)] with waiters := [11, 12, 13, 14] }
    s.takesRequests ∧ 4 ≤ s.opened.groups[(0 : GroupId)].waiters.length) :=
  ⟨⟨board_takes, free_of (by decide +kernel), by decide +kernel⟩, ⟨fullBoard_takes _, by decide +kernel⟩,
    State.takesRequests_of rfl (by decide), by decide +kernel⟩
/-- An ALL group whose first member owns the key, whose second finds the table full and whose third has a list with a talker; a
group without members. -/
theorem witness_PressHuntsForAMember_all :
    let row (i : Nat) : Path := ⟨i, ⟨.bus 0, .port 47, .talk⟩, [], true, 1, 1, 8, false, false, false⟩
    let s := ({ board with paths := (List.range 512).map row }).setGroup 0 ⟨.all, [⟨0, none⟩, ⟨3, none⟩, ⟨1, none⟩], [0, 3, 1], [], 100⟩
    s.takesRequests ∧ ¬ s.opened.callKeyNamed 2 ∧ s.opened.keys[(2 : KeyId)] = keyTo 0 (.group 0) ∧
      s.opened.groups[(0 : GroupId)].mode = .all ∧ (s.opened.groups[(0 : GroupId)].members.map Member.port).Nodup ∧
      s.opened.portAnswer 2 0 3 s.opened.paths.length = .denied .noSpace ∧ board.opened.portAnswer 2 0 3 0 = .live ∧
      board.opened.portAnswer 2 0 1 1 = .heldBack ∧ board.opened.groups[(9 : GroupId)].members = [] :=
  ⟨State.takesRequests_of rfl (by decide), free_of (by decide +kernel), by decide +kernel⟩
/-- The premise on the interrupt lists: key 2 stands in none. -/
theorem witness_PressHuntsForAMember_unlisted : ∀ p : PortId,
    (board.opened.ears[p]).all (fun e => e.entries.all fun x => decide (x.key ≠ 2)) = true ∧
    ((fullBoard 0).opened.ears[p]).all (fun e => e.entries.all fun x => decide (x.key ≠ 2)) = true := by decide +kernel

/-- A boundary that is not due, one in CONFIG, one in RUN with a channel that is not CLOSED, and one in RUN with a running check
whose channel holds pattern block 1 as its next block. -/
theorem witness_BoundaryComputesABlock :
    let ready (s : State) : State := { s with lanes := { s.lanes with
      clockPresent := true, input := List.replicate 48 (Vector.replicate 48 1) } }
    board.stepsQuiet = true ∧ board.lanes.clockPresent = false ∧ (ready desk).stepsQuiet = true ∧ (ready desk).mode = .config ∧
      (ready board).rstnLow = false ∧ (ready board).stepsQuiet = true ∧ (ready board).lanes.clockPresent = true ∧
      48 ≤ (ready board).lanes.input.length ∧ (ready board).mode = .run ∧
      (ready board).rx.channels[(0 : ChanId)].state ≠ .closed := by decide +kernel
/-- A yield that is concealed and sets the DEGRADED flag; a governor that is OFF; a port that is not governed. -/
theorem witness_BoundaryComputesABlock_degrades :
    let c := { linked .running with nextSeq := some 5, quality := 88 }
    let s := boardWith c
    let ready : State := { s with lanes := ⟨true, 0, List.replicate 48 (Vector.replicate 48 1), none, none⟩ }
    ready.stepsQuiet = true ∧ ready.lanes.clockPresent = true ∧ ready.mode = .run ∧ c.yieldBlock.1.degraded = true ∧
      c.degraded = false ∧ ready.gov.config.mode = .off ∧ ready.ports[(2 : PortId)].kind = .field ∧
      ready.ports[(4 : PortId)].kind = .source := by decide +kernel
theorem witness_BoundaryComputesABlock_examines :
    let returning := { linked .priming with config := none }.primeStore 65535 (patternBlock 1)
    let s := ((boardWith { returning with state := .running, config := (linked .running).config, nextSeq := some 65535 }).setCheck 0
      { Check.reset with state := .running, sent := 2, history := [(0, 4), (1, 5)] })
    s.stepsQuiet = true ∧ s.checks[(0 : ChanId)].state = .running ∧ s.rx.channels[(0 : ChanId)].nextSeq = some 65535 ∧
      (s.rx.channels[(0 : ChanId)].ring[ringPlace 65535]).map RingBlock.seq = some 65535 ∧
      ((patternBlock 1)[(0 : Fin 48)]).toInt = 1 * 256 ∧
      s.checks[(0 : ChanId)].history.find? (fun e => decide (e.1 = 1)) = some (1, 5) := by decide +kernel
theorem witness_YieldFollowsTheRing :
    let c := (linked .priming).primeStore 65535 (patternBlock 0)
    let r := { c with state := .running, nextSeq := some 65535 }
    (r.ring[ringPlace 65535]).map RingBlock.seq = some 65535 ∧ r.ring[ringPlace 0] = none ∧ r.state = .running ∧
      (linked .priming).state ≠ .running := by decide +kernel
theorem witness_ListenerNeverHearsItself :
    let ps := [rested (.port 5) (.bus 2) .talk 4096]
    (ps.filter fun q : Path => decide (q.ident.dst = .bus 2)).length ≤ 32 ∧ ∀ q ∈ ps, q.level ≤ 8192 := by decide
theorem witness_OutputIsRoundedOnceAndSaturated : (0 < 4096 ∧ 4096 % 2 = 0) ∧ (List.replicate 48 (9000000 : Int)).length = 48 := by
  decide
theorem witness_RampsAndDipsMoveByBlocks : (8 : Nat) ≤ 8 ∧ (⟨64, 256, 8⟩ : Dip).start ≤ 256 ∧ (⟨64, 256, 8⟩ : Dip).target ≤ 256 ∧
    (⟨64, 256, 8⟩ : Dip).count ≤ 8 ∧ (3 : Nat) ≠ (rested (.port 0) (.port 1) .feed 1000).target := by decide
/-- A window that ends, governed by CLOSED, and one that does not. -/
theorem witness_WindowEndDecidesTheLevel :
    let s : State := { board with gov := ⟨{ GovConfig.reset with mode := .closed }, Vector.replicate 48 ⟨0, 4194305, 13, [], none⟩, true⟩ }
    s.rstnLow = false ∧ s.gov.windowDue = true ∧ s.gov.config.mode ≠ .off ∧ s.ports[(0 : PortId)].kind = .panel ∧
      s.ports[(2 : PortId)].kind = .field ∧ board.gov.windowDue = false := by decide +kernel

/-- Distances 31, 32, 32,767 and 32,768 from the next expected sequence; qualities 246 and 247. -/
theorem witness_ChannelTakesAudioByItsState :
    ((31 - 0 : Seq).toNat ≤ 31) ∧ (31 < (32 - 0 : Seq).toNat ∧ (32767 - 0 : Seq).toNat < 32768) ∧ 32768 ≤ (32768 - 0 : Seq).toNat ∧
      min 255 (246 + 8) < 255 ∧ min 255 (247 + 8) = 255 ∧ ({ linked .running with nextSeq := some 0 }).nextSeq = some 0 ∧
      (linked .waiting).state = .waiting ∧ (linked .dropped).state = .dropped ∧ Channel.reset.state = .closed := by decide
/-- Filter 0 takes id 9 to channel 0; with no filter enabled nothing takes it; a CLOSED channel takes nothing. -/
theorem witness_AudioFrameReachesItsChannel :
    let accepts (s : State) (i : FilterId) := s.settle.rx.filters[i].enabled = true ∧
      ((9 : LinkId) ^^^ s.settle.rx.filters[i].value) &&& ~~~s.settle.rx.filters[i].mask = 0
    (board.rstnLow = false ∧ board.mode = .run ∧ accepts board 0 ∧ (∀ j : FilterId, j < 0 → ¬ accepts board j) ∧
      board.settle.rx.channels[(0 : ChanId)].state = .running) ∧ desk.mode = .config ∧
    (let s := { board with rx := Receiver.reset }
    ∀ i, ¬ accepts s i) ∧ (boardWith Channel.reset).settle.rx.channels[(0 : ChanId)].state = .closed ∧
    (boardWith (linked .waiting)).settle.rx.channels[(0 : ChanId)].state = .waiting := by decide +kernel
/-- A payload of 144 bytes and one of 143. -/
theorem witness_AudioFrameReachesItsChannel_payloads : carries (List.replicate 144 0) (some silence) ∧
    carries (List.replicate 143 0) none := by
  simp only [carries]; decide +kernel
/-- Channel 0, PRIMING with one block, takes a second one and enters RUNNING; port 2 is bound to it, and group 0 has port 2 for a
member and key 2 for a waiter that port 2 may take. -/
theorem witness_AudioFrameReachesItsChannel_running :
    let primed : Machine.Channel := { linked .priming with nextSeq := some 5, ring := (Vector.replicate 32 none).set 5 (some ⟨5, silence⟩) }
    let s := ((boardWith primed).setGroup 0 ⟨.hunt, [⟨2, none⟩], [2], [2], 100⟩).setKey 2
      { keyTo 0 (.group 0) with activation := .held, delivered := true, deadline := some 100 }
    let new := primed.takeAudio 6 (some silence)
    let told := State.report (.link 0) (s.settle.setChannel 0 new)
    s.settle.rx.channels[(0 : ChanId)] = primed ∧ new.state = .running ∧ s.settle.ports[(2 : PortId)].kind = .field ∧
      s.settle.ports[(2 : PortId)].channel = some 0 ∧ told.servedBy 2 0 ∧ told.canTake 0 2 2 := by
  simp only [← State.eligible_iff, State.servedBy]; decide +kernel

/-- Channel 0 RUNNING with its call key IDLE and LATCHED, WAITING, and CLOSED; no filter; CONFIG. -/
theorem witness_CueFrameWorksTheCallKey :
    board.rstnLow = false ∧ board.mode = .run ∧ board.settle.rx.filters[(0 : FilterId)].enabled = true ∧
      ((9 : LinkId) ^^^ board.settle.rx.filters[(0 : FilterId)].value) &&& ~~~board.settle.rx.filters[(0 : FilterId)].mask = 0 ∧
      board.settle.rx.channels[(0 : ChanId)].config = some ⟨77, 2, 250, some 5⟩ ∧
      board.settle.rx.channels[(0 : ChanId)].state = .running ∧ board.settle.keys[(5 : KeyId)] = keyTo 2 (.port 0) ∧
      (board.setKey 5 { keyTo 2 (.port 0) with activation := .latched }).settle.keys[(5 : KeyId)].activation = .latched ∧
      (boardWith (linked .waiting)).settle.rx.channels[(0 : ChanId)].state = .waiting ∧
      (boardWith Channel.reset).settle.rx.channels[(0 : ChanId)].state = .closed ∧ desk.mode = .config ∧
      ∀ i : FilterId, ({ board with rx := Receiver.reset } : State).settle.rx.filters[i].enabled = false := by decide +kernel
/-- The call key LATCHED and waiting in the group it aims at. -/
theorem witness_CueFrameWorksTheCallKey_withdraws :
    let s := (board.setKey 5 { keyTo 2 (.group 0) with activation := .latched, delivered := true, deadline := some 100 }).setGroup 0
      ⟨.hunt, [⟨3, none⟩], [3], [5], 100⟩
    s.rstnLow = false ∧ s.mode = .run ∧ s.settle.keys[(5 : KeyId)].activation = .latched ∧
      s.settle.keys[(5 : KeyId)].target = some (.group 0) ∧ s.settle.keys[(5 : KeyId)].deadline.isSome ∧
      s.settle.groups[(0 : GroupId)].waiters = [5] ∧ ∀ g : GroupId, g ≠ 0 → s.settle.groups[g].waiters = [] := by decide +kernel
theorem witness_ConcealLimitAndRecovery :
    let limit := boardWith { linked .running with conceal := 4 }
    let back := boardWith { linked .dropped with run := 128, quality := 255, held := some ⟨9, silence⟩ }
    limit.rstnLow = false ∧ limit.rx.channels[(0 : ChanId)].conceal = 4 ∧ limit.rx.channels[(0 : ChanId)].quality ≠ 255 ∧
      back.rx.channels[(0 : ChanId)].state = .dropped ∧ back.rx.channels[(0 : ChanId)].run = 128 ∧
      back.rx.channels[(0 : ChanId)].held = some ⟨9, silence⟩ ∧ board.rx.channels[(0 : ChanId)].conceal = 0 := by decide +kernel
theorem witness_DropAndIdleLimitLeaveTheLiveStates :
    let drop := boardWith { linked .running with quality := 255 }
    let idle := boardWith { linked .priming with idle := 500, quality := 254 }
    drop.rstnLow = false ∧ drop.gov.windowDue = false ∧ drop.rx.channels[(0 : ChanId)].quality = 255 ∧
      idle.gov.windowDue = false ∧ idle.rx.channels[(0 : ChanId)].state = .priming ∧ 500 ≤ idle.rx.channels[(0 : ChanId)].idle ∧
      idle.rx.channels[(0 : ChanId)].quality ≠ 255 ∧ board.rx.channels[(0 : ChanId)].quality = 0 := by decide +kernel
/-- Channel 0's call key 5 LATCHED and waiting in group 0, its check RUNNING, and a window end due. -/
theorem witness_DropAndIdleLimitLeaveTheLiveStates_forced :
    let s := (((boardWith { linked .running with quality := 255 }).setKey 5 { keyTo 2 (.group 0) with
      activation := .latched, delivered := true, deadline := some 100 }).setGroup 0 ⟨.hunt, [⟨3, none⟩], [3], [5], 100⟩).setCheck 0
        { Check.reset with state := .running }
    s.rx.channels[(0 : ChanId)].config.bind ChannelConfig.callKey = some 5 ∧ s.keys[(5 : KeyId)].activation = .latched ∧
      s.checks[(0 : ChanId)].state = .running ∧ s.groups[(0 : GroupId)].waiters = [5] ∧ s.keys[(5 : KeyId)].deadline.isSome ∧
      (∀ g : GroupId, g ≠ 0 → s.groups[g].waiters = []) ∧
      ({ s with gov := { s.gov with windowDue := true } }).gov.windowDue = true := by decide +kernel

theorem witness_SpentPathsAndLateWaitersLeave :
    let s := (board.setGroup 0 { board.groups[(0 : GroupId)] with waiters := [2] }).setKey 2
      { keyTo 0 (.group 0) with delivered := true, deadline := some 0 }
    s.rstnLow = false ∧ s.keys[(2 : KeyId)].target = some (.group 0) ∧ s.mode = .run ∧ 2 ∈ s.groups[(0 : GroupId)].waiters ∧
      s.keys[(2 : KeyId)].deadline = some s.blockCount ∧ s.keys[(0 : KeyId)].target = some (.port 1) ∧
      board.keys[(2 : KeyId)].deadline = none := by decide +kernel
theorem witness_ClockIsLostAndReturns :
    let present := { board with lanes := { board.lanes with clockPresent := true } }
    let counted := { board with lanes := { board.lanes with syncCount := 48 } }
    board.rstnLow = false ∧ present.settle.lanes.clockPresent = true ∧ board.settle.lanes.clockPresent = false ∧
      counted.stepsQuiet = true ∧ counted.lanes.clockPresent = false ∧ 48 ≤ counted.lanes.syncCount ∧ board.lanes.syncCount < 48 := by
  decide +kernel
theorem witness_FrameSyncCapturesAndDrives :
    let s := { board with lanes := ⟨true, 0, [], some (Vector.replicate 48 silence), none⟩ }
    s.rstnLow = false ∧ s.settle.lanes.clockPresent = true ∧ s.settle.lanes.input.length < 48 ∧ s.settle.lanes.outBlock.isSome ∧
      s.settle.ports[(0 : PortId)].outSlot = some ⟨0, 0⟩ ∧ (∀ q : PortId, q ≠ 0 → s.settle.ports[q].outSlot ≠ some ⟨0, 0⟩) ∧
      (∀ p : PortId, s.settle.ports[p].outSlot.map Slot.place ≠ some 47) ∧ board.settle.lanes.clockPresent = false := by decide +kernel
/-- 48 frames are captured and the boundary waits. -/
def waiting : State := { board with lanes := ⟨true, 0, List.replicate 48 (Vector.replicate 48 0), none, none⟩ }
theorem witness_FrameSyncCapturesAndDrives_boundary :
    waiting.rstnLow = false ∧ waiting.settle.lanes.clockPresent = true ∧ waiting.settle.lanes.input.length = 48 ∧
      waiting.settle.stepsQuiet = true := by decide +kernel
theorem witness_LinkFramesGoOutOneByOne :
    let cue := { board with tx := { board.tx with cues := [⟨0, 1, true⟩, ⟨0, 2, false⟩] } }
    let audio := { board with tx := { board.tx with ready := [⟨2, 77, 0, silence⟩, ⟨5, 78, 9, silence⟩] } }
    let busy := { board with tx := { board.tx with sending := some (.cue 77 0 1) } }
    board.rstnLow = false ∧ cue.settle.tx.sending = none ∧ cue.settle.tx.cues = [⟨0, 1, true⟩] ++ ⟨0, 2, false⟩ :: [] ∧
      cue.settle.rx.channels[(0 : ChanId)].config = some ⟨77, 2, 250, some 5⟩ ∧ audio.settle.tx.sending = none ∧
      audio.settle.tx.ready = [⟨2, 77, 0, silence⟩, ⟨5, 78, 9, silence⟩] ∧
      audio.settle.tx.ready.Pairwise (fun a b : AudioFrame => a.channel < b.channel) ∧
      (∀ x ∈ audio.settle.tx.ready, (2 : ChanId) ≤ x.channel) ∧ busy.settle.tx.sending = some (.cue 77 0 1) := by decide +kernel
theorem witness_StartEntersRun : desk.takesRequests ∧ desk.mode = .config ∧ board.takesRequests ∧ board.mode = .run ∧
    (let s := { desk with routes := { desk.routes with active := [⟨⟨.port 4, .port 1, .feed⟩, 4096⟩] } }
    s.takesRequests ∧ s.opened.paths = [] ∧ s.opened.routes.active.length ≤ 256 ∧
      (s.opened.routes.active.map Route.ident).Nodup ∧ (watched s).takesRequests ∧ (watched s).opened.gov.config.mode ≠ .off) :=
  ⟨desk_takes, rfl, board_takes, rfl, State.takesRequests_of rfl (by decide), by decide +kernel, by decide +kernel,
    by decide +kernel, State.takesRequests_of rfl (by decide), by decide +kernel⟩
theorem witness_StopEntersConfig : desk.takesRequests ∧ desk.mode = .config ∧ board.takesRequests ∧ board.mode = .run :=
  ⟨desk_takes, rfl, board_takes, rfl⟩
theorem witness_RequestFramesDecodeToTheirRequests : (Instr.press 1 65535).wellFormed = true ∧
    (encodeFrame (.press 1 65535)).isSome := by decide
/-- The state with the leading key has paths, talkers and delivered keys, and meets every condition that a step keeps. -/
theorem leader_lists : (leader 2).listsWf := by
  have ears : ∀ p : PortId, ((leader 2).ears[p]).all (fun e => decide (e.entries.length ≤ 4 ∧
      e.entries.Pairwise fun a b : TalkEntry => b.priority ≤ a.priority)) = true := by decide +kernel
  refine ⟨fun p e h => ?_, by decide +kernel⟩
  have := ears p
  rw [h] at this
  exact of_decide_eq_true (p := e.entries.length ≤ 4 ∧ _) this
theorem leader_deliveries : (leader 2).deliveriesWf := by
  constructor <;> decide +kernel
theorem witness_EveryStepKeepsThePathTable : pathTableWf (leader 2).paths ∧ (∀ q ∈ (leader 2).paths, q.wf) ∧ (leader 2).listsWf ∧
    (leader 2).deliveriesWf ∧ (leader 2).aimed ∧ ∃ t, step { leader 2 with pending := [.release 1 7] } = .next t := by
  refine ⟨⟨by decide +kernel, by decide +kernel, by decide +kernel, ?_⟩, fun q h => ?_, leader_lists, leader_deliveries, leader_aimed.1,
    _, rfl⟩
  · exact fun d => Nat.le_trans (List.length_filter_le _ _) (by decide +kernel)
  · have h : q ∈ [_, _] := h
    simp only [List.mem_cons, List.not_mem_nil, or_false] at h
    rcases h with rfl | rfl <;> exact ⟨by decide, by decide, by decide, by decide⟩
theorem witness_EveryStepKeepsQueuesListsAndRanges : (leader 2).link.wf ∧ (leader 2).listsWf ∧ (leader 2).rangesWf := by
  refine ⟨?_, leader_lists, ?_⟩
  · simp only [ControlLink.wf]; decide +kernel
  · simp only [State.rangesWf, Protection.wf]; decide +kernel

/-! ## Single steps -/

/-- The state that a command leaves. -/
def after (i : Instr) (s : State) : State :=
  match exec i s with
  | .next t => t
  | .fault _ => s
  | .refused _ => s

/-- The keys in the earpiece's list. -/
def listed (s : State) : Option (List KeyId) := (s.ears[(1 : PortId)]).map fun e => e.entries.map TalkEntry.key

/-- R177: the status byte is the one of the moment CSN fell; a RESTART does not change the one that its own transaction sent. -/
theorem test_status_byte_of_a_write :
    let s := { board with link := { board.link with fresh := false, replies := [⟨1, 0, .ok, []⟩] } }
    let w := after (.otherTransaction 0x3C) s
    w.link.writing = true ∧ w.link.statusOut = 0x11 ∧ (after (.stop 1) w).link.statusOut = 0x11 ∧
      (after (.stop 1) w).link.writing = false ∧ (after (.restart 1) w).link.statusOut = 0x11 ∧
      (after (.readTransactionEnd true) w).link.writing = false := by decide +kernel
/-- R176: zero bytes follow the status byte of a transaction that is no READ, and the frame of one that is. -/
theorem test_sdo :
    let s := { board with link := { board.link with replies := [⟨0x02, 7, .ok, []⟩] } }
    ((List.range 8).map (after .readTransaction s).link.sdo = [0x91, 0, 4, 0x01, 0x02, 7, 0, 0]) ∧
      (List.range 3).map (after (.otherTransaction 0x00) s).link.sdo = [0x91, 0, 0] := by decide +kernel
/-- R17, R177. -/
theorem test_reset_status_byte : State.reset.statusByte = 0x80 ∧ State.reset.attn = false := by decide +kernel
/-- R100: equal priority stands behind. -/
theorem test_press_equal_priority_behind : listed (after (.press 1 0) board) = some [7, 0] := by decide +kernel
/-- R102, R103: the fourth entry is evicted and the new talker leads. -/
theorem test_press_evicts_the_last : listed (after (.press 1 0) (fullBoard 0)) = some [0, 7, 8, 9] := by decide +kernel
/-- R102: a full list of the same priority refuses. -/
theorem test_press_full_list_refuses : listed (after (.press 1 0) (fullBoard 1)) = some [7, 8, 9, 10] := by decide +kernel
/-- R105, R110: the last talker leaves, and the dip returns from where it was: 256 − 96 = 160. -/
theorem test_release_empties_the_list :
    let s := (board.setKey 7 { keyTo 3 (.port 1) with
      activation := .held, delivered := true, entries := [⟨some (.port 1), .live⟩] })
    (after (.release 1 7) s).ears[(1 : PortId)] = some ⟨[], 0, ⟨256, 160, 0⟩⟩ := by decide +kernel
/-- R105, R32, R35: the head leaves; its path is suspended under key 9, and key 8 is heard, its opening counted. -/
theorem test_release_promotes :
    let t := after (.release 1 7) (leader 2)
    (t.paths.map fun q => (q.keys, q.suspended, q.target, q.start, q.index)) = [([9], true, 0, 4096, 0), ([8], false, 4096, 0, 0)] ∧
      t.gov.records[(1 : PortId)].openings = 1 ∧ t.link.notices = [.key 7, .earpiece 1, .key 8] := by decide +kernel
/-- R86: the owner and a port marked AWAY are passed over. -/
theorem test_hunt_moves_the_member_to_the_end : (after (.press 1 2) board).groups[(0 : GroupId)].lru = [0, 3, 1] ∧
    (after (.press 1 2) board).groups[(0 : GroupId)].members = [⟨0, none⟩, ⟨3, none⟩, ⟨1, some 2⟩] := by decide +kernel
/-- R89, R90: a port that becomes AVAILABLE is given to the waiter. -/
theorem test_presence_serves_the_waiter :
    let t := after (.presence 1 3 0) queue
    t.groups[(0 : GroupId)].waiters = [] ∧ t.groups[(0 : GroupId)].lru = [0, 1, 3] ∧
      t.keys[(2 : KeyId)].entries = [⟨some (.port 3), .live⟩] := by decide +kernel
/-- R41: a route of the active set is opened at START; R35, R158: an OFF governor counts no opening. -/
theorem test_start_opens_the_active_set :
    let s := { desk with routes := { desk.routes with active := [⟨⟨.port 4, .port 1, .feed⟩, 4096⟩] } }
    (after (.start 1) s).paths = [⟨0, ⟨.port 4, .port 1, .feed⟩, [], true, 4096, 0, 0, false, false, false⟩] ∧
      (after (.start 1) s).gov.records[(1 : PortId)].openings = 0 := by decide +kernel
/-- R30: a path that closes at rest at 0 is spent by one more block. -/
theorem test_closing_path_is_spent :
    let q : Path := ⟨0, ⟨.port 0, .bus 0, .talk⟩, [], false, 0, 0, 8, false, true, false⟩
    q.advance.spent = true ∧ ({ q with index := 6 }).advance.spent = false := by decide
/-- R129: a full-scale block is concealed at half its level, and the quality count rises by 8. -/
theorem test_conceal : ((linked .running).quality = 0) ∧
    let y := ({ linked .running with nextSeq := some 5, prevYield := Vector.replicate 48 0x7FFFFF } : Machine.Channel).yieldBlock.1
    y.prevYield[0] = 4194304#24 ∧ y.quality = 8 ∧ y.nextSeq = some 6 ∧ y.conceal = 1 := by decide +kernel
/-- R123: prime level 2 is reached by the second block. -/
theorem test_prime_level :
    let c := (linked .waiting).takeAudio 65535 (some silence)
    c.state = .priming ∧ (c.takeAudio 1 (some silence)).state = .running ∧
      (c.takeAudio 1 (some silence)).nextSeq = some 65535 := by decide +kernel
/-- R133: the 128th consecutive frame is the base. -/
theorem test_recovery :
    let c := { linked .dropped with run := 127, nextSeq := some 9, quality := 255, degraded := true }
    let t := after (.channelRecovery 0) (boardWith (c.takeAudio 9 (some silence)))
    let r := t.rx.channels[(0 : ChanId)]
    r.state = .priming ∧ r.nextSeq = some 9 ∧ r.quality = 0 ∧ r.degraded = false ∧ r.heldCount = 1 := by decide +kernel
/-- R134, R68: CUE_IN stands ahead of the call key's notice. -/
theorem test_call_cue : (after (.cueFrameArrival 9 0 [1]) board).link.notices = [.cueIn 0 1 0, .key 5] ∧
    (after (.cueFrameArrival 9 0 [1]) board).keys[(5 : KeyId)].activation = .latched := by decide +kernel
/-- R144: the lowest channel's audio goes before a cue. -/
theorem test_audio_before_cue :
    let s := { board with tx := { board.tx with ready := [⟨0, 77, 4, silence⟩], cues := [⟨0, 1, false⟩] } }
    (after (.linkFrameBegin true) s).tx.sending = some (.audio ⟨0, 77, 4, silence⟩) ∧
      (after (.linkFrameBegin true) (after .linkFrameSent (after (.linkFrameBegin true) s))).tx.sending = some (.cue 77 0 1) := by
  decide +kernel
/-- R7: the last 8 bits of a slot are disregarded; R9: zero follows the sample. -/
theorem test_frame_sync :
    let s := { board with lanes := ⟨true, 0, [], some (Vector.replicate 48 (Vector.replicate 48 0x123456)), none⟩ }
    let t := after (.frameSync false (Vector.replicate 48 0xABCDEF99)) s
    (t.lanes.input.map fun f => f[0]) = [0xABCDEF#24] ∧
      (t.lanes.tdmOut.map fun f => (f[0], f[1], f[2])) = some (0x12345600#32, 0x12345600#32, 0#32) := by decide +kernel
/-- R10, R16: a STOP after the 48th frame sync and before the boundary leaves the block uncomputed; the boundary in CONFIG then discards
its input. -/
theorem test_stop_before_the_boundary :
    let t := after .blockBoundary (after (.stop 1) waiting)
    (after (.stop 1) waiting).blockCount = 0 ∧ (after (.stop 1) waiting).lanes.input.length = 48 ∧
      t.blockCount = 0 ∧ t.lanes.input = [] ∧ (after .blockBoundary waiting).blockCount = 1 := by decide +kernel
/-- R151: nothing returned. -/
theorem test_check_no_return :
    let t := after (.checkCompletion 0) (checked { Check.reset with state := .running, duration := 100, sent := 100 })
    t.checks[(0 : ChanId)].state = .failed ∧ t.checks[(0 : ChanId)].reason = some .noReturn := by decide +kernel
/-- R170: the judgement of a swap with room. -/
theorem test_swap_done :
    (after .swapJudgement (changeover true true)).link.notices = [.swap .done 0 1 (some 1) none] ∧
      ((after .swapJudgement (changeover true true)).paths.map Path.ident) = [⟨.port 4, .port 1, .feed⟩] := by decide +kernel
/-- R186: a change of the entry being sent puts a new entry at the tail. -/
theorem test_marked_notice_returns :
    let s := after .readTransaction { board with link := { board.link with notices := [.key 0, .key 1] } }
    (after (.readTransactionEnd true) (s.report (.key 0))).link.notices = [.key 1, .key 0] ∧
      (after (.readTransactionEnd true) s).link.notices = [.key 1] := by decide +kernel
/-- R12: the CLOCK notice carries the block count. -/
theorem test_clock_lost :
    let s := { board with blockCount := 7, lanes := { board.lanes with clockPresent := true } }
    (after .clockLost s).link.notices = [.clock false 7] ∧ (after .clockLost s).lanes.clockPresent = false := by decide +kernel

end Sys2Proof.Tests
end

section
/-! PROOFS. Requests in general (1.5, 1.6, 11.2, 11.3): every command with a request header is taken by `State.request` under that header,
and none of them touches the reset pin, the queue of commands or the replies that wait. -/

namespace Sys2Proof.Proofs

open Sys2Proof.Machine

/-! ## The state that a reply leaves -/

@[simp] theorem replied_rstnLow (kind tag : Byte) (st : Status) (body : List Field) (s : State) :
    (s.replied kind tag st body).rstnLow = s.rstnLow := rfl
@[simp] theorem replied_fresh (kind tag : Byte) (st : Status) (body : List Field) (s : State) :
    (s.replied kind tag st body).link.fresh = false := rfl
@[simp] theorem replied_replies (kind tag : Byte) (st : Status) (body : List Field) (s : State) :
    (s.replied kind tag st body).link.replies = s.link.replies ++ [⟨kind, tag, st, body⟩] := rfl

/-- What executing a request leaves alone until its own reply is queued. -/
structure SameReplies (s t : State) : Prop where
  rstnLow : t.rstnLow = s.rstnLow
  pending : t.pending = s.pending
  replies : t.link.replies = s.link.replies

theorem SameReplies.refl (s : State) : SameReplies s s := ⟨rfl, rfl, rfl⟩

theorem SameReplies.trans {s t u : State} (h : SameReplies s t) (h' : SameReplies t u) : SameReplies s u :=
  ⟨h'.1.trans h.1, h'.2.trans h.2, h'.3.trans h.3⟩

/-- The same where the first state is one that differs in other fields alone. -/
theorem SameReplies.of_eq {s t u : State} (h : SameReplies t u) (low : t.rstnLow = s.rstnLow) (pending : t.pending = s.pending)
    (replies : t.link.replies = s.link.replies) : SameReplies s u :=
  .trans ⟨low, pending, replies⟩ h

theorem sameReplies_of_sameOutside {s t : State} (h : s.sameOutside t) : SameReplies s t :=
  ⟨h.rstnLow, h.pending, h.link.replies⟩

theorem sameReplies_of_changes {s t : State} (h : Changes s t) : SameReplies s t := sameReplies_of_sameOutside h.sameOutside

/-! ## Requests executed in CONFIG -/

theorem putChannel_sameReplies (c : ChanId) (r : Channel) (s : State) : SameReplies s (s.putChannel c r) :=
  sameReplies_of_sameOutside (s.putChannel_outside c r)

theorem closeChannel_sameReplies (c : ChanId) (s : State) : SameReplies s (s.closeChannel c) := by
  unfold State.closeChannel
  split
  · exact .refl s
  · exact putChannel_sameReplies _ _ _

theorem writePort_sameReplies (p : PortId) (k : PortKind) (i o : Option Slot) (c : Option ChanId) (s : State) :
    SameReplies s (s.writePort p k i o c) := by
  unfold State.writePort
  dsimp only
  have written : SameReplies s (if k = s.ports[p].kind then s.setPort p (s.ports[p].configure k i o c)
      else ((s.setPort p (s.ports[p].configure k i o c)).setEar p
        (if k = .earpiece then some Ear.empty else none)).setProtection p Protection.reset) := by
    split <;> exact ⟨rfl, rfl, rfl⟩
  split
  · split
    · exact written
    · exact written.trans (closeChannel_sameReplies _ _)
  · exact written

theorem portRequest_sameReplies (n k : Nat) (i o c : Option Nat) (s : State) : SameReplies s (s.portRequest n k i o c).1 := by
  unfold State.portRequest
  dsimp only
  split
  · split
    · iterate 5 (split; · exact .refl s)
      exact writePort_sameReplies _ _ _ _ _ _
    · exact .refl s
  · exact .refl s

theorem closeRequest_sameReplies (c : Nat) (s : State) : SameReplies s (s.closeRequest c).1 := by
  unfold State.closeRequest
  split
  · exact closeChannel_sameReplies _ _
  · exact .refl s

theorem channelRequest_sameReplies (c op : Nat) (id : LinkId) (pr md ck : Option Nat) (s : State) :
    SameReplies s (s.channelRequest c op id pr md ck).1 := by
  unfold State.channelRequest
  split
  · exact closeRequest_sameReplies _ _
  · split
    · split
      · exact .refl s
      · exact putChannel_sameReplies _ _ _
    · exact .refl s
  · exact .refl s

theorem filterRequest_sameReplies (n e : Nat) (v m : LinkId) (c : Nat) (s : State) :
    SameReplies s (s.filterRequest n e v m c).1 := by
  unfold State.filterRequest
  split <;> exact ⟨rfl, rfl, rfl⟩

theorem governorRequest_sameReplies (m : Nat) (tl tm c1 c2 l : Option Nat) (s : State) :
    SameReplies s (s.governorRequest m tl tm c1 c2 l).1 := by
  unfold State.governorRequest
  split <;> exact ⟨rfl, rfl, rfl⟩

/-! ## Definitions and routes -/

theorem retargetDip_sameReplies (p : PortId) (s : State) : SameReplies s (s.retargetDip p) := by
  unfold State.retargetDip
  split
  · exact .refl s
  · split
    · exact .refl s
    · split
      · exact .refl s
      · exact (sameReplies_of_sameOutside (State.report_outside _ _)).of_eq rfl rfl rfl

theorem writeTrim_sameReplies (p : PortId) (n : Nat) (dip : Option Nat) (s : State) : SameReplies s (s.writeTrim p n dip) := by
  unfold State.writeTrim
  dsimp only
  have gain (r : PortRecord) : SameReplies s ((s.setPort p r).retargetGain p) :=
    (sameReplies_of_sameOutside (State.retargetGain_outside _ _)).of_eq rfl rfl rfl
  split
  · exact (gain _).trans (retargetDip_sameReplies _ _)
  · exact gain _

theorem trimRequest_sameReplies (n v : Nat) (dip : Option Nat) (s : State) : SameReplies s (s.trimRequest n v dip).1 := by
  unfold State.trimRequest
  split
  · split
    · exact writeTrim_sameReplies _ _ _ _
    · exact .refl s
  · exact .refl s

theorem removeRequest_sameReplies (n : Nat) (s : State) : SameReplies s (s.removeRequest n).1 := by
  unfold State.removeRequest
  repeat' split
  all_goals exact ⟨rfl, rfl, rfl⟩

theorem keyRequest_sameReplies (n o tt tn : Nat) (l pr m : Option Nat) (s : State) :
    SameReplies s (s.keyRequest n o tt tn l pr m).1 := by
  unfold State.keyRequest
  split
  · exact removeRequest_sameReplies _ _
  · repeat' split
    all_goals exact ⟨rfl, rfl, rfl⟩

theorem groupRequest_sameReplies (n m : Nat) (t : Option Nat) (ms : List Nat) (s : State) :
    SameReplies s (s.groupRequest n m t ms).1 := by
  unfold State.groupRequest
  repeat' split
  all_goals exact ⟨rfl, rfl, rfl⟩

theorem writePresence_sameReplies (p : PortId) (v : Presence) (s : State) : SameReplies s (s.writePresence p v) := by
  unfold State.writePresence
  dsimp only
  split
  · exact (sameReplies_of_changes (State.runPasses_changes _ _)).of_eq rfl rfl rfl
  · exact ⟨rfl, rfl, rfl⟩

theorem presenceRequest_sameReplies (n v : Nat) (s : State) : SameReplies s (s.presenceRequest n v).1 := by
  unfold State.presenceRequest
  split
  · split
    · exact writePresence_sameReplies _ _ _
    · exact .refl s
  · exact .refl s

theorem routeAddRequest_sameReplies (a d c : Nat) (l : Option Nat) (s : State) : SameReplies s (s.routeAddRequest a d c l).1 := by
  unfold State.routeAddRequest
  repeat' split
  all_goals exact ⟨rfl, rfl, rfl⟩

theorem routeDropRequest_sameReplies (a d c : Nat) (s : State) : SameReplies s (s.routeDropRequest a d c).1 := by
  unfold State.routeDropRequest
  repeat' split
  all_goals exact ⟨rfl, rfl, rfl⟩

theorem routeCopyRequest_sameReplies (s : State) : SameReplies s s.routeCopyRequest.1 := by
  unfold State.routeCopyRequest
  split <;> exact ⟨rfl, rfl, rfl⟩

theorem swapRequest_sameReplies (s : State) : SameReplies s s.swapRequest.1 := by
  unfold State.swapRequest
  repeat' split
  all_goals exact ⟨rfl, rfl, rfl⟩

/-! ## Requests executed in RUN, and queries -/

theorem keyPressRequest_sameReplies (n : Nat) (f : State → KeyId → Option (Activation × KeyAction)) (s : State) :
    SameReplies s (s.keyPressRequest n f).1 := by
  unfold State.keyPressRequest
  split
  · split
    · exact .refl s
    · dsimp only [State.keyTransition]
      split
      · exact .refl s
      · exact (sameReplies_of_sameOutside (State.setActivation_outside _ _ _)).trans
          (sameReplies_of_changes (State.keyAction_changes _ _ _))
  · exact .refl s

theorem cueSendRequest_sameReplies (c q : Nat) (s : State) : SameReplies s (s.cueSendRequest c q).1 := by
  unfold State.cueSendRequest
  repeat' split
  all_goals exact ⟨rfl, rfl, rfl⟩

theorem checkStartRequest_sameReplies (c : Nat) (d f : Option Nat) (s : State) : SameReplies s (s.checkStartRequest c d f).1 := by
  unfold State.checkStartRequest
  repeat' split
  all_goals exact ⟨rfl, rfl, rfl⟩

theorem checkStopRequest_sameReplies (c : Nat) (s : State) : SameReplies s (s.checkStopRequest c).1 := by
  unfold State.checkStopRequest
  split
  · exact sameReplies_of_sameOutside (State.abortCheck_outside _ _ _ _ _)
  · exact .refl s

theorem query_sameReplies {α : Type} (x : Option α) (f : α → Except Status (List Field)) (s : State) :
    SameReplies s (s.query x f).1 := by
  unfold State.query
  repeat' split
  all_goals exact .refl s

/-! ## START and STOP -/

theorem openRoutes_changes (s : State) : Changes s s.openRoutes :=
  Changes.foldl (fun s (r : Route) => (s.addHolder r.ident .route false).1)
    (fun s r => s.addHolder_changes r.ident .route false) s.routes.active s

theorem startRun_sameReplies (s : State) : SameReplies s s.startRun :=
  (sameReplies_of_changes (openRoutes_changes _)).of_eq rfl rfl rfl

theorem reportAll_sameReplies (ns : List Notice) (s : State) : SameReplies s (s.reportAll ns) :=
  sameReplies_of_sameOutside (s.reportAll_outside ns)

theorem stopChannels_outside (s : State) : s.sameOutside s.stopChannels := by
  refine State.sameOutside_foldl _ (fun s ch => ?_) _ s
  split
  · exact s.sameOutside_refl
  · exact State.putChannel_outside _ _ _

theorem stopChecks_outside (s : State) : s.sameOutside s.stopChecks :=
  State.sameOutside_foldl _ (fun s ch => s.abortCheck_outside ch _ _ _) _ s

theorem abandonSwap_sameReplies (s : State) : SameReplies s s.abandonSwap := by
  unfold State.abandonSwap
  split
  · exact (sameReplies_of_sameOutside (State.report_outside _ _)).of_eq rfl rfl rfl
  · exact .refl s

theorem stopRun_sameReplies (s : State) : SameReplies s s.stopRun := by
  have keys (s : State) : SameReplies s s.stopKeys := (reportAll_sameReplies _ _).of_eq rfl rfl rfl
  have ears (s : State) : SameReplies s s.stopEars := (reportAll_sameReplies _ _).of_eq rfl rfl rfl
  have governor (s : State) : SameReplies s s.stopGovernor := (reportAll_sameReplies _ _).of_eq rfl rfl rfl
  unfold State.stopRun
  refine .trans ?_ (abandonSwap_sameReplies _)
  refine .trans ?_ (governor _)
  refine .trans ?_ (sameReplies_of_sameOutside (stopChecks_outside _))
  refine .trans ?_ (sameReplies_of_sameOutside (stopChannels_outside _))
  refine .trans ?_ (ears _)
  exact (keys _).of_eq rfl rfl rfl

/-! ## Every request -/

/-- 11.3: the meaning of a command that has a request header is the taking of a request of that kind, tag and mode; executing it leaves
the replies alone. -/
theorem exec_of_requestHeader {c : Instr} {h : Header} (header : requestHeader c = some h) :
    ∃ act : State → Answer, (∀ s, exec c s = .next (s.request h.kind h.tag h.allowed act)) ∧ ∀ s, SameReplies s (act s).1 := by
  cases c with
  | start t =>
      cases header
      refine ⟨_, fun _ => rfl, fun s => ?_⟩
      dsimp only
      split
      · exact startRun_sameReplies s
      · exact .refl s
  | stop t =>
      cases header
      refine ⟨_, fun _ => rfl, fun s => ?_⟩
      dsimp only
      split
      · exact stopRun_sameReplies s
      · exact .refl s
  | port => cases header; exact ⟨_, fun _ => rfl, portRequest_sameReplies _ _ _ _ _⟩
  | channel => cases header; exact ⟨_, fun _ => rfl, channelRequest_sameReplies _ _ _ _ _ _⟩
  | channelClose => cases header; exact ⟨_, fun _ => rfl, closeRequest_sameReplies _⟩
  | filter => cases header; exact ⟨_, fun _ => rfl, filterRequest_sameReplies _ _ _ _ _⟩
  | governor => cases header; exact ⟨_, fun _ => rfl, governorRequest_sameReplies _ _ _ _ _ _⟩
  | trim => cases header; exact ⟨_, fun _ => rfl, trimRequest_sameReplies _ _ _⟩
  | key => cases header; exact ⟨_, fun _ => rfl, keyRequest_sameReplies _ _ _ _ _ _ _⟩
  | keyRemove => cases header; exact ⟨_, fun _ => rfl, removeRequest_sameReplies _⟩
  | group => cases header; exact ⟨_, fun _ => rfl, groupRequest_sameReplies _ _ _ _⟩
  | presence => cases header; exact ⟨_, fun _ => rfl, presenceRequest_sameReplies _ _⟩
  | routeAdd => cases header; exact ⟨_, fun _ => rfl, routeAddRequest_sameReplies _ _ _ _⟩
  | routeDrop => cases header; exact ⟨_, fun _ => rfl, routeDropRequest_sameReplies _ _ _⟩
  | routeCopy => cases header; exact ⟨_, fun _ => rfl, routeCopyRequest_sameReplies⟩
  | swap => cases header; exact ⟨_, fun _ => rfl, swapRequest_sameReplies⟩
  | notify => cases header; exact ⟨_, fun _ => rfl, fun _ => ⟨rfl, rfl, rfl⟩⟩
  | resync => cases header; exact ⟨_, fun _ => rfl, fun _ => ⟨rfl, rfl, rfl⟩⟩
  | press => cases header; exact ⟨_, fun _ => rfl, keyPressRequest_sameReplies _ _⟩
  | release => cases header; exact ⟨_, fun _ => rfl, keyPressRequest_sameReplies _ _⟩
  | cueSend => cases header; exact ⟨_, fun _ => rfl, cueSendRequest_sameReplies _ _⟩
  | checkStart => cases header; exact ⟨_, fun _ => rfl, checkStartRequest_sameReplies _ _ _⟩
  | checkStop => cases header; exact ⟨_, fun _ => rfl, checkStopRequest_sameReplies _⟩
  | queryPort | queryPaths | queryKey | queryGroup | queryEarpiece | queryChannel | queryProtect | queryRoutes =>
      cases header; exact ⟨_, fun _ => rfl, fun s => query_sameReplies _ _ s⟩
  | _ => cases header

/-- Settles O6: the mode of the state that a request is executed in is the mode of the state it is sent to. -/
theorem wrongModeIsRefused : Obligations.WrongModeIsRefused := by
  unfold Obligations.WrongModeIsRefused
  intro c h s header takes wrong
  obtain ⟨act, meaning, -⟩ := exec_of_requestHeader header
  have mode : h.allowed.admits s.opened.mode = false := by
    rw [s.opened_outside.2.1]
    obtain ⟨allowed, mode⟩ | ⟨allowed, mode⟩ := wrong <;> rw [allowed, mode] <;> rfl
  exact ⟨h, header, by rw [meaning, State.request_wrongMode takes mode]⟩

/-- Settles O8: whether the mode admits the request or not, its answer is the opened state's replies and one more. -/
theorem executedRequestQueuesOneReply : Obligations.ExecutedRequestQueuesOneReply := by
  unfold Obligations.ExecutedRequestQueuesOneReply
  intro c h s header takes
  obtain ⟨act, meaning, same⟩ := exec_of_requestHeader header
  obtain ⟨openedLow, -, -, -, openedReplies⟩ := s.opened_outside
  cases mode : h.allowed.admits s.opened.mode with
  | false =>
      refine ⟨s.opened.replied h.kind h.tag .wrongMode [], .wrongMode, [], ?_, ?_, replied_fresh _ _ _ _ _, ?_⟩
      · rw [meaning, State.request_wrongMode takes mode]
      · rw [replied_replies, openedReplies]
      · rw [replied_rstnLow, openedLow, takes.1]
  | true =>
      have kept := same s.opened
      refine ⟨(act s.opened).1.replied h.kind h.tag (act s.opened).2.1 (act s.opened).2.2, (act s.opened).2.1, (act s.opened).2.2,
        ?_, ?_, replied_fresh _ _ _ _ _, ?_⟩
      · rw [meaning, State.request_executed takes mode]
      · rw [replied_replies, kept.replies, openedReplies]
      · rw [replied_rstnLow, kept.rstnLow, openedLow, takes.1]

end Sys2Proof.Proofs
end

section
/-! PROOFS. PORT and TRIM (1.1.8, 1.1.9). -/

namespace Sys2Proof.Proofs

open Sys2Proof.Machine

/-! ## Reading the operands of PORT -/

/-- R189: a field that is absent, or whose value is the code of an object, is read back. -/
theorem optionally_map {α : Type} {f : Nat → Option α} {code : α → Nat} (back : ∀ x, f (code x) = some x) (x : Option α) :
    optionally f (x.map code) = some x := by
  cases x with
  | none => rfl
  | some x => simp [optionally, back]

/-- R180: a field whose value is out of range. -/
theorem optionally_of_none {α : Type} {f : Nat → Option α} {raw : Nat} (h : f raw = none) : optionally f (some raw) = none := by
  simp [optionally, h]

/-- R3: the raw value that a request of a kind goes by: none where the kind does not use the field. -/
def usedField (used : Bool) (raw : Option Nat) : Option Nat := if used then raw else none

theorem reads_input {k : PortKind} {rawIn rawOut rawChan : Option Nat} {i o : Option Slot} {c : Option ChanId}
    (h : k.reads rawIn rawOut rawChan i o c) : optionally slotOf (usedField k.usesInput rawIn) = some i := by
  obtain ⟨fits, input, -, -⟩ := h
  cases k with
  | unused => rw [fits.1]; rfl
  | field => rw [fits.1]; rfl
  | _ => rw [input (by simp)]; exact optionally_map slotOf_code i

theorem reads_output {k : PortKind} {rawIn rawOut rawChan : Option Nat} {i o : Option Slot} {c : Option ChanId}
    (h : k.reads rawIn rawOut rawChan i o c) : optionally slotOf (usedField k.usesOutput rawOut) = some o := by
  obtain ⟨fits, -, output, -⟩ := h
  cases k with
  | unused => rw [fits.2.1]; rfl
  | field => rw [fits.2.1]; rfl
  | source => rw [fits.1]; rfl
  | _ => rw [output (by simp)]; exact optionally_map slotOf_code o

theorem reads_channel {k : PortKind} {rawIn rawOut rawChan : Option Nat} {i o : Option Slot} {c : Option ChanId}
    (h : k.reads rawIn rawOut rawChan i o c) :
    optionally (objectNumber 8) (usedField (decide (k = .field)) rawChan) = some c := by
  obtain ⟨fits, -, -, channel⟩ := h
  cases k with
  | field => rw [channel rfl]; exact optionally_map objectNumber_val c
  | unused => rw [fits.2.2]; rfl
  | source => rw [fits.2]; rfl
  | panel => rw [show c = none from fits]; rfl
  | earpiece => rw [show c = none from fits]; rfl

/-- R3: a FIELD port is given a channel. -/
theorem reads_fieldChannel {k : PortKind} {rawIn rawOut rawChan : Option Nat} {i o : Option Slot} {c : Option ChanId}
    (h : k.reads rawIn rawOut rawChan i o c) : ¬ (k = .field ∧ c = none) := by
  rintro ⟨rfl, rfl⟩
  exact absurd h.fits.2.2 (by decide)

/-! ## The checks of PORT -/

theorem slotTaken_iff (u : State) (p : PortId) (o : Option Slot) :
    (o.isSome && u.anotherPort p fun r : PortRecord => decide (r.outSlot = o)) = true ↔ u.slotTaken p o := by
  simp [State.slotTaken, State.anotherPort_iff]

theorem channelTaken_iff (u : State) (p : PortId) (k : PortKind) (c : Option ChanId) :
    (decide (k = .field) && u.anotherPort p
      fun r : PortRecord => decide (r.kind = .field) && decide (r.channel = c)) = true ↔ u.channelTaken p k c := by
  simp [State.channelTaken, State.anotherPort_iff]

theorem busyPort_iff (u : State) (p : PortId) (k : PortKind) :
    (decide (k ≠ u.ports[p].kind) && u.portNamed p) = true ↔ k ≠ u.ports[p].kind ∧ u.named p := by
  rw [Bool.and_eq_true, decide_eq_true_eq, State.portNamed_iff]

/-- R3: what PORT answers in CONFIG once its operands have been read. -/
theorem portRequest_of_reads {k : PortKind} {rawIn rawOut rawChan : Option Nat} {i o : Option Slot} {c : Option ChanId}
    (h : k.reads rawIn rawOut rawChan i o c) (u : State) (p : PortId) :
    u.portRequest p.val k.code rawIn rawOut rawChan =
      open Classical in
      if u.slotTaken p o then refuse .badArg u
      else if u.channelTaken p k c then refuse .badArg u
      else if u.poolUsedUp p k then refuse .noSpace u
      else if k ≠ u.ports[p].kind ∧ u.named p then refuse .busy u
      else accept (u.writePort p k i o c) := by
  have input := reads_input h
  have output := reads_output h
  have channel := reads_channel h
  unfold usedField at input output channel
  simp only [State.portRequest, objectNumber_val, portKindOf_code, input, output, channel, if_neg (reads_fieldChannel h)]
  classical
  exact if_congr (slotTaken_iff u p o) rfl (if_congr (channelTaken_iff u p k c) rfl (if_congr Iff.rfl rfl
    (if_congr (busyPort_iff u p k) rfl rfl)))

/-! ## The record that PORT writes -/

/-- R3, R99, R155: the record, the interrupt list and the protection record that an accepted request writes. -/
theorem configured_eq_portWritten (u : State) (p : PortId) (k : PortKind) (i o : Option Slot) (c : Option ChanId) :
    (if k = u.ports[p].kind then u.setPort p (u.ports[p].configure k i o c)
      else ((u.setPort p (u.ports[p].configure k i o c)).setEar p
        (if k = .earpiece then some Ear.empty else none)).setProtection p Protection.reset) = u.portWritten p k i o c := by
  unfold State.portWritten PortRecord.configure
  dsimp only
  split
  · rfl
  · cases k <;> rfl

/-- R3: a request under which the port leaves no channel. -/
theorem writePort_of_kept {u : State} {p : PortId} {c : Option ChanId} (k : PortKind) (i o : Option Slot)
    (kept : u.ports[p].channel = none ∨ u.ports[p].channel = c) : u.writePort p k i o c = u.portWritten p k i o c := by
  rw [← configured_eq_portWritten]
  unfold State.writePort
  dsimp only
  split
  · rename_i old bound
    rw [bound] at kept
    rw [if_pos (by simpa [eq_comm] using kept)]
  · rfl

/-- R4: a request under which the port leaves the channel `old`. -/
theorem writePort_of_left {u : State} {p : PortId} {c : Option ChanId} {old : ChanId} (k : PortKind) (i o : Option Slot)
    (bound : u.ports[p].channel = some old) (left : c ≠ some old) :
    u.writePort p k i o c = (u.portWritten p k i o c).closeChannel old := by
  rw [← configured_eq_portWritten]
  unfold State.writePort
  simp only [bound, if_neg left]

@[simp] theorem portWritten_rx (u : State) (p : PortId) (k : PortKind) (i o : Option Slot) (c : Option ChanId) :
    (u.portWritten p k i o c).rx = u.rx := by
  unfold State.portWritten; dsimp only; split <;> rfl

/-- R4, log 28: a CLOSED channel is left alone. -/
theorem closeChannel_of_closed {u : State} {c : ChanId} (h : u.rx.channels[c].state = .closed) : u.closeChannel c = u := if_pos h

/-- R4, R137: a channel that was not CLOSED is reset and reported. -/
theorem closeChannel_of_open {u : State} {c : ChanId} (h : u.rx.channels[c].state ≠ .closed) :
    u.closeChannel c = (u.setChannel c Channel.reset).report (.link c) := by
  have changed : decide (u.rx.channels[c].state = Channel.reset.state) = false := decide_eq_false h
  rw [State.closeChannel, if_neg h, State.putChannel, changed, Bool.false_and, Bool.false_and]
  rfl

/-! ## PORT -/

/-- R3: a PORT request that passes its checks. -/
theorem portRequest_accepted {k : PortKind} {rawIn rawOut rawChan : Option Nat} {i o : Option Slot} {c : Option ChanId} {u : State}
    {p : PortId} (h : k.reads rawIn rawOut rawChan i o c) (slot : ¬ u.slotTaken p o) (channel : ¬ u.channelTaken p k c)
    (pool : ¬ u.poolUsedUp p k) (free : k = u.ports[p].kind ∨ ¬ u.named p) :
    u.portRequest p.val k.code rawIn rawOut rawChan = accept (u.writePort p k i o c) := by
  rw [portRequest_of_reads h, if_neg slot, if_neg channel, if_neg pool, if_neg]
  rintro ⟨changed, named⟩
  exact free.elim changed fun n => n named

/-- Settles O10. -/
theorem portWritesTheRecord : Obligations.PortWritesTheRecord := by
  unfold Obligations.PortWritesTheRecord
  rintro s tag p k rawIn rawOut rawChan i o c u rfl takes mode reads slot channel pool free kept
  refine AcceptedWith.of takes rfl rfl (by rw [mode]; rfl) ?_
  rw [portRequest_accepted reads slot channel pool free, writePort_of_kept k i o kept, accept]

/-- Settles O11: the record is written first, then the channel that the port has left is closed. -/
theorem portUnbindsAChannel : Obligations.PortUnbindsAChannel := by
  unfold Obligations.PortUnbindsAChannel
  rintro s tag p k rawIn rawOut rawChan i o c ch u rfl closed takes mode reads slot channel pool free bound left written
  have answer : s.opened.portRequest p.val k.code rawIn rawOut rawChan = accept (written.closeChannel ch) := by
    rw [portRequest_accepted reads slot channel pool free, writePort_of_left k i o bound left]
  have rx : written.rx = s.opened.rx := portWritten_rx _ _ _ _ _ _
  constructor
  · intro shut
    refine AcceptedWith.of takes rfl rfl (by rw [mode]; rfl) (answer.trans ?_)
    rw [closeChannel_of_closed (by rw [rx]; exact shut), accept]
  · intro live
    refine AcceptedWith.of takes rfl rfl (by rw [mode]; rfl) (answer.trans ?_)
    rw [closeChannel_of_open (by rw [rx]; exact live), accept, State.setChannel, rx]
    rfl

/-- R3: how a PORT request in CONFIG comes to be refused. -/
theorem port_refused {s : State} {st : Status} {tag : Byte} {n k : Nat} {i o c : Option Nat} (takes : s.takesRequests)
    (mode : s.mode = .config) (answer : s.opened.portRequest n k i o c = refuse st s.opened) :
    RefusedWith (.port tag n k i o c) st s :=
  RefusedWith.of takes rfl rfl (by rw [mode]; rfl) answer

/-- R3 checks 1 and 2: a port, a kind or an operand that cannot be read. -/
theorem portRequest_of_unread (u : State) {n : Nat} {k : PortKind} {i o c : Option Nat}
    (unread : optionally slotOf (usedField k.usesInput i) = none ∨ optionally slotOf (usedField k.usesOutput o) = none ∨
      optionally (objectNumber 8) (usedField (decide (k = .field)) c) = none ∨ (k = .field ∧ c = none)) :
    u.portRequest n k.code i o c = refuse .badArg u := by
  unfold State.portRequest
  rw [portKindOf_code]
  cases objectNumber 48 n with
  | none => rfl
  | some p =>
      unfold usedField at unread
      dsimp only
      split
      · rename_i readIn readOut readChan
        rw [readIn, readOut, readChan] at unread
        obtain unread | unread | unread | ⟨rfl, rfl⟩ := unread
        · cases unread
        · cases unread
        · cases unread
        · cases readChan
          exact if_pos ⟨rfl, rfl⟩
      · rfl

theorem portRequest_of_noPort (u : State) {n : Nat} (h : 48 ≤ n) (k : Nat) (i o c : Option Nat) :
    u.portRequest n k i o c = refuse .badArg u := by
  unfold State.portRequest
  rw [objectNumber_eq_none.2 h]

theorem portRequest_of_noKind (u : State) (n : Nat) {k : Nat} (h : 5 ≤ k) (i o c : Option Nat) :
    u.portRequest n k i o c = refuse .badArg u := by
  have none : portKindOf k = none := by
    rw [portKindOf]
    all_goals omega
  unfold State.portRequest
  rw [none]
  cases objectNumber 48 n <;> rfl

/-- Settles O12: check by check; the last four clauses follow the order of the checks on operands that can be read. -/
theorem portRefusals : Obligations.PortRefusals := by
  unfold Obligations.PortRefusals
  rintro s tag takes mode u rfl
  refine ⟨?_, ?_, ?_, ?_, ?_, ?_, ?_⟩
  · intro n k i o c far
    exact port_refused takes mode (portRequest_of_noPort _ far _ _ _ _)
  · intro n k i o c far
    exact port_refused takes mode (portRequest_of_noKind _ _ far _ _ _)
  · intro n k x o c notField notUnused far
    have uses : k.usesInput = true := by cases k <;> simp_all [PortKind.usesInput]
    refine port_refused takes mode (portRequest_of_unread _ (.inl ?_))
    rw [uses]; exact optionally_of_none (slotOf_none far)
  · intro n k i x c speaks far
    have uses : k.usesOutput = true := by obtain rfl | rfl := speaks <;> rfl
    refine port_refused takes mode (portRequest_of_unread _ (.inr (.inl ?_)))
    rw [uses]; exact optionally_of_none (slotOf_none far)
  · intro n i o
    exact port_refused takes mode (portRequest_of_unread (k := .field) _ (.inr (.inr (.inr ⟨rfl, rfl⟩))))
  · intro n i o x far
    exact port_refused takes mode (portRequest_of_unread (k := .field) _
      (.inr (.inr (.inl (optionally_of_none (objectNumber_eq_none.2 far))))))
  · intro p k rawIn rawOut rawChan i o c reads req
    refine ⟨fun slot => ?_, fun channel => ?_, fun slot channel pool => ?_, fun slot channel pool changed named => ?_⟩
    · exact port_refused takes mode (by rw [portRequest_of_reads reads, if_pos slot])
    · exact port_refused takes mode (by rw [portRequest_of_reads reads, if_pos channel, ite_self])
    · exact port_refused takes mode (by rw [portRequest_of_reads reads, if_neg slot, if_neg channel, if_pos pool])
    · exact port_refused takes mode (by
        rw [portRequest_of_reads reads, if_neg slot, if_neg channel, if_neg pool, if_pos ⟨changed, named⟩])

end Sys2Proof.Proofs
end

section
/-! PROOFS. TRIM (1.1.9, R54, R111). -/

namespace Sys2Proof.Proofs

open Sys2Proof.Machine

theorem tableSet_getElem_self {α : Type} {n : Nat} (v : Vector α n) (i : Fin n) : tableSet v i v[i] = v := by
  ext j hj
  rw [tableSet_getElem]
  split
  · rename_i h; subst h; rfl
  · rfl

theorem clampTo_zero (hi n : Nat) : clampTo 0 hi n = min n hi := by
  rw [clampTo, Nat.zero_max, Nat.min_comm]

/-- R54: retargeting a gain changes the gain records alone, and of these the port's own. -/
theorem retargetGain_eq (p : PortId) (s : State) : s.retargetGain p =
    s.setGain p ((s.mix.gains[p]).map fun g : Gain => g.aim (s.wantedGain p)) := by
  unfold State.retargetGain
  cases h : s.mix.gains[p] with
  | none =>
      have same := tableSet_getElem_self s.mix.gains p
      rw [h] at same
      rw [Option.map_none, State.setGain, same]
  | some g => rfl

/-- R54: a change of target restarts the ramp from the present gain. -/
theorem gain_aim_eq (target : Nat) (g : Gain) : g.aim target = if target = g.target then g else ⟨target, g.level, 0⟩ := rfl

/-- The record that TRIM writes into the port table. -/
def trimmed (r : PortRecord) (trim : Nat) (dip : Option Nat) : PortRecord :=
  { r with
    trim := some (min trim 4096)
    dipDepth := match dip with
      | some d => some (min d 256)
      | none => r.dipDepth }

/-- R53: the target gain of a port whose record TRIM has written. -/
theorem wantedGain_of_trimmed (s : State) (p : PortId) (trim : Nat) (dip : Option Nat) :
    (s.setPort p (trimmed s.ports[p] trim dip)).wantedGain p = min (min trim 4096) (s.capOf p) := by
  unfold State.wantedGain State.capOf
  rw [State.setPort_ports, tableSet_self]
  rfl

/-- R109, R111: retargeting a dip changes one interrupt list and the control link alone, and these where the list is not empty and its
target changes. -/
theorem retargetDip_eq (p : PortId) (s : State) : ∃ ears link, s.retargetDip p = { s with ears := ears, link := link } ∧
    (∀ q : PortId, q ≠ p → ears[q] = s.ears[q]) ∧
    ∀ e, s.ears[p] = some e →
      let retargeted := e.entries ≠ [] ∧ e.dip.target ≠ s.dipDepth p
      (retargeted → ears[p] = some { e with dip := ⟨s.dipDepth p, e.dip.factor, 0⟩ } ∧ link = s.link.report (.earpiece p)) ∧
        (¬ retargeted → ears[p] = some e ∧ link = s.link) := by
  unfold State.retargetDip
  cases h : s.ears[p] with
  | none => exact ⟨s.ears, s.link, rfl, fun _ _ => rfl, fun e he => by cases he⟩
  | some e =>
      dsimp only
      by_cases moved : e.entries ≠ [] ∧ e.dip.target ≠ s.dipDepth p
      · rw [if_neg (by simpa using moved.1), if_neg moved.2]
        refine ⟨tableSet s.ears p (some { e with dip := e.dip.aim (s.dipDepth p) }), s.link.report (.earpiece p), rfl,
          fun q hq => tableSet_ne _ _ (Ne.symm hq), ?_⟩
        intro e' he'
        cases he'
        refine ⟨fun _ => ⟨?_, rfl⟩, fun still => absurd moved still⟩
        rw [tableSet_self, Dip.aim, if_neg (Ne.symm moved.2)]
      · refine ⟨s.ears, s.link, ?_, fun _ _ => rfl, ?_⟩
        · by_cases empty : e.entries = []
          · rw [if_pos (by simp [empty])]
          · rw [if_neg (by simpa using empty), if_pos (not_not.1 fun other => moved ⟨empty, other⟩)]
        · intro e' he'
          cases he'
          exact ⟨fun now => absurd now moved, fun _ => ⟨h, rfl⟩⟩

/-- R5, R54: TRIM's first half, the record and the gain. -/
def withTrim (u : State) (p : PortId) (trim : Nat) (dip : Option Nat) : State :=
  (u.setPort p (trimmed u.ports[p] trim dip)).setGain p
    ((u.mix.gains[p]).map fun g : Gain => g.aim (min (min trim 4096) (u.capOf p)))

theorem writeTrim_eq (u : State) (p : PortId) (trim : Nat) (dip : Option Nat) :
    u.writeTrim p trim dip = if dip.isSome then (withTrim u p trim dip).retargetDip p else withTrim u p trim dip := by
  have gain : (u.setPort p (trimmed u.ports[p] trim dip)).retargetGain p = withTrim u p trim dip := by
    rw [retargetGain_eq, wantedGain_of_trimmed]; rfl
  unfold State.writeTrim
  cases dip with
  | none => dsimp only; rw [clampTo_zero]; exact gain
  | some d => dsimp only; rw [clampTo_zero, clampTo_zero]; exact congrArg (State.retargetDip p) gain

theorem withTrim_ears (u : State) (p : PortId) (trim : Nat) (dip : Option Nat) : (withTrim u p trim dip).ears = u.ears := rfl

theorem withTrim_gains (u : State) (p q : PortId) (trim : Nat) (dip : Option Nat) : (withTrim u p trim dip).mix.gains[q] =
    if p = q then (u.mix.gains[p]).map fun g : Gain => g.aim (min (min trim 4096) (u.capOf p)) else u.mix.gains[q] :=
  tableSet_get _ _ _ _

theorem withTrim_dipDepth (u : State) (p : PortId) (trim d : Nat) : (withTrim u p trim (some d)).dipDepth p = min d 256 := by
  unfold State.dipDepth withTrim
  rw [State.setGain_ports, State.setPort_ports, tableSet_self]
  rfl

/-- R5, R111: what TRIM does to the interrupt lists and the control link. -/
theorem writeTrim_lists (u : State) (p : PortId) (trim : Nat) (dip : Option Nat) : ∃ ears link,
    u.writeTrim p trim dip = { withTrim u p trim dip with ears := ears, link := link } ∧
    (∀ q : PortId, q ≠ p → ears[q] = u.ears[q]) ∧ (dip = none → ears = u.ears ∧ link = u.link) ∧
    ∀ d e, dip = some d → u.ears[p] = some e →
      let retargeted := e.entries ≠ [] ∧ e.dip.target ≠ min d 256
      (retargeted → ears[p] = some { e with dip := ⟨min d 256, e.dip.factor, 0⟩ } ∧ link = u.link.report (.earpiece p)) ∧
        (¬ retargeted → ears[p] = some e ∧ link = u.link) := by
  cases dip with
  | none => exact ⟨u.ears, u.link, writeTrim_eq _ _ _ _, fun _ _ => rfl, fun _ => ⟨rfl, rfl⟩, nofun⟩
  | some d =>
      obtain ⟨ears, link, eq, others, own⟩ := retargetDip_eq p (withTrim u p trim (some d))
      rw [withTrim_dipDepth, withTrim_ears] at own
      refine ⟨ears, link, (writeTrim_eq _ _ _ _).trans eq, others, nofun, ?_⟩
      intro d' e hd he
      cases hd
      exact own e he

/-- R5: the refusals of TRIM. -/
theorem trim_refused {s : State} {tag : Byte} {n trim : Nat} {dip : Option Nat} (takes : s.takesRequests)
    (answer : s.opened.trimRequest n trim dip = refuse .badArg s.opened) : RefusedWith (.trim tag n trim dip) .badArg s :=
  RefusedWith.of takes rfl rfl rfl answer

/-- Settles O13: the refusals by the checks of R5, the acceptance by what `writeTrim` does to the record, the gain and the list. -/
theorem trimWritesAndRetargets : Obligations.TrimWritesAndRetargets := by
  unfold Obligations.TrimWritesAndRetargets
  constructor
  · intro s tag takes
    refine ⟨?_, ?_, ?_⟩
    · intro n trim dip far
      refine trim_refused takes ?_
      rw [State.trimRequest, objectNumber_eq_none.2 far]
    · intro p trim dip deaf
      have silent : s.opened.ports[p].kind.hasOutput = false := by
        obtain kind | kind := deaf <;> rw [kind] <;> rfl
      refine trim_refused takes ?_
      rw [State.trimRequest, objectNumber_val]
      dsimp only
      rw [silent, Bool.false_and]
      rfl
    · intro p trim d kind
      refine trim_refused takes ?_
      rw [State.trimRequest, objectNumber_val]
      dsimp only
      rw [decide_eq_false kind, Option.isNone_some, Bool.or_false, Bool.and_false]
      rfl
  · rintro s tag p trim dip u opened r depth takes listens earpiece
    have answer : u.trimRequest p.val trim dip = accept (u.writeTrim p trim dip) := by
      have passes : (u.ports[p].kind.hasOutput && (decide (u.ports[p].kind = .earpiece) || dip.isNone)) = true := by
        rw [(PortKind.hasOutput_iff _).2 listens, Bool.true_and, Bool.or_eq_true, decide_eq_true_eq]
        cases dip with
        | none => exact .inr rfl
        | some d => exact .inl (earpiece rfl)
      rw [State.trimRequest, objectNumber_val]
      exact if_pos passes
    obtain ⟨ears, link, eq, others, unchanged, own⟩ := writeTrim_lists u p trim dip
    have gain := withTrim_gains u p p trim dip
    rw [if_pos rfl] at gain
    refine ⟨{ withTrim u p trim dip with ears := ears, link := link },
      AcceptedWith.of takes rfl rfl rfl (by rw [opened, answer, eq, accept]), rfl, ?_, rfl, ?_, ?_, others, unchanged, own,
      rfl, rfl, rfl, rfl, rfl, rfl, rfl, rfl, rfl, rfl, rfl⟩
    · intro q hq
      exact (withTrim_gains _ _ _ _ _).trans (if_neg (Ne.symm hq))
    · intro none
      rw [none] at gain
      exact gain
    · intro g hg
      rw [hg] at gain
      exact gain

end Sys2Proof.Proofs
end

section
/-! PROOFS. Steps taken by every channel in ascending order (the yields of a block, the clock's return, STOP), and what is due in a
quiet state. -/

namespace Sys2Proof.Proofs

open Sys2Proof.Machine

/-! ## Reports -/

/-- Several notices, reported in order. -/
def reported (ns : List Notice) (l : ControlLink) : ControlLink := ns.foldl (fun l n => l.report n) l

@[simp] theorem reported_nil (l : ControlLink) : reported [] l = l := rfl
@[simp] theorem reported_append (ns ms : List Notice) (l : ControlLink) : reported (ns ++ ms) l = reported ms (reported ns l) :=
  List.foldl_append ..

theorem reportAll_eq (ns : List Notice) (s : State) : s.reportAll ns = { s with link := reported ns s.link } := by
  unfold State.reportAll
  induction ns generalizing s with
  | nil => rfl
  | cons n ns ih => exact ih (s.report n)

/-! ## One step per channel -/

/-- What a step of one channel does: its record by `f`, its check by `g`, and notices. -/
def stepChannel (f : Channel → Channel) (g : Channel → Check → Check) (ns : ChanId → Channel → Check → List Notice) (ch : ChanId)
    (s : State) : State :=
  let c := s.rx.channels[ch]
  let k := s.checks[ch]
  { s with
    rx := { s.rx with channels := tableSet s.rx.channels ch (f c) }
    checks := tableSet s.checks ch (g c k)
    link := reported (ns ch c k) s.link }

/-- What the steps of the channels `chs` have done. -/
def steppedChannels (f : Channel → Channel) (g : Channel → Check → Check) (ns : ChanId → Channel → Check → List Notice)
    (chs : List ChanId) (s : State) : State :=
  { s with
    rx := { s.rx with channels := tableOf fun c : ChanId => if c ∈ chs then f s.rx.channels[c] else s.rx.channels[c] }
    checks := tableOf fun c : ChanId => if c ∈ chs then g s.rx.channels[c] s.checks[c] else s.checks[c]
    link := reported (chs.flatMap fun c => ns c s.rx.channels[c] s.checks[c]) s.link }

theorem tableOf_self {α : Type} {n : Nat} (v : Vector α n) : (tableOf fun i : Fin n => v[i]) = v := by
  ext j hj; simp

/-- The steps of distinct channels do not disturb each other. -/
theorem foldl_stepChannel (f : Channel → Channel) (g : Channel → Check → Check) (ns : ChanId → Channel → Check → List Notice)
    {chs : List ChanId} (distinct : chs.Nodup) (s : State) :
    chs.foldl (fun s ch => stepChannel f g ns ch s) s = steppedChannels f g ns chs s := by
  induction chs generalizing s with
  | nil =>
      have none_stepped : ∀ {α : Type} (v : Vector α 8) (w : ChanId → α),
          (tableOf fun c : ChanId => if c ∈ ([] : List ChanId) then w c else v[c]) = v := by
        intro α v w
        rw [← tableOf_self v]
        exact congrArg tableOf (funext fun c => (if_neg List.not_mem_nil).trans (by rw [tableOf_self]))
      rw [steppedChannels, none_stepped, none_stepped]
      rfl
  | cons ch chs ih =>
      obtain ⟨absent, distinct⟩ := List.nodup_cons.1 distinct
      have channels : ∀ c : ChanId, c ≠ ch → (stepChannel f g ns ch s).rx.channels[c] = s.rx.channels[c] :=
        fun c other => tableSet_ne _ _ other.symm
      have checks : ∀ c : ChanId, c ≠ ch → (stepChannel f g ns ch s).checks[c] = s.checks[c] :=
        fun c other => tableSet_ne _ _ other.symm
      have own : (stepChannel f g ns ch s).rx.channels[ch] = f s.rx.channels[ch] ∧
          (stepChannel f g ns ch s).checks[ch] = g s.rx.channels[ch] s.checks[ch] := ⟨tableSet_self _ _ _, tableSet_self _ _ _⟩
      have later : (chs.flatMap fun c => ns c (stepChannel f g ns ch s).rx.channels[c] (stepChannel f g ns ch s).checks[c]) =
          chs.flatMap fun c => ns c s.rx.channels[c] s.checks[c] := by
        refine List.flatMap_congr fun c mem => ?_
        have other : c ≠ ch := ne_of_mem_of_not_mem mem absent
        rw [channels c other, checks c other]
      rw [List.foldl_cons, ih distinct, steppedChannels, steppedChannels, later, List.flatMap_cons, reported_append]
      have tables : (tableOf fun c : ChanId => if c ∈ chs then f (stepChannel f g ns ch s).rx.channels[c]
            else (stepChannel f g ns ch s).rx.channels[c]) =
          (tableOf fun c : ChanId => if c ∈ ch :: chs then f s.rx.channels[c] else s.rx.channels[c]) ∧
        (tableOf fun c : ChanId => if c ∈ chs then g (stepChannel f g ns ch s).rx.channels[c] (stepChannel f g ns ch s).checks[c]
            else (stepChannel f g ns ch s).checks[c]) =
          tableOf fun c : ChanId => if c ∈ ch :: chs then g s.rx.channels[c] s.checks[c] else s.checks[c] := by
        constructor <;> refine congrArg tableOf (funext fun c => ?_)
        all_goals
          by_cases same : c = ch
          · subst same
            rw [if_neg absent, if_pos List.mem_cons_self]
            simp only [own]
          · simp only [channels c same, checks c same, List.mem_cons, same, false_or]
      rw [tables.1, tables.2]
      rfl

/-- The steps of all channels in ascending order. -/
theorem foldl_channels (f : Channel → Channel) (g : Channel → Check → Check) (ns : ChanId → Channel → Check → List Notice)
    (s : State) : (List.finRange 8).foldl (fun s ch => stepChannel f g ns ch s) s =
      { s with
        rx := { s.rx with channels := tableOf fun c : ChanId => f s.rx.channels[c] }
        checks := tableOf fun c : ChanId => g s.rx.channels[c] s.checks[c]
        link := reported ((List.finRange 8).flatMap fun c => ns c s.rx.channels[c] s.checks[c]) s.link } := by
  rw [foldl_stepChannel f g ns (List.nodup_finRange 8), steppedChannels]
  simp only [List.mem_finRange, if_true]

/-- Notices that single channels bring about, at most one each. -/
theorem flatMap_ite_singleton {α β : Type} (xs : List α) (p : α → Bool) (f : α → β) :
    (xs.flatMap fun x => if p x then [f x] else []) = (xs.filter p).map f := by
  induction xs with
  | nil => rfl
  | cons x xs ih =>
      rw [List.flatMap_cons, ih]
      cases h : p x <;> simp [h]

/-! ## A channel's record rewritten -/

/-- R137: the state or one of the two flags differs. -/
def linkChanged (c c' : Channel) : Bool :=
  !(decide (c.state = c'.state) && c.degraded == c'.degraded && c.excess == c'.excess)

@[simp] theorem linkChanged_self (c : Channel) : linkChanged c c = false := by simp [linkChanged]

theorem putChannel_eq (ch : ChanId) (c : Channel) (s : State) :
    s.putChannel ch c = { s.setChannel ch c with
      link := reported (if linkChanged s.rx.channels[ch] c then [.link ch] else []) s.link } := by
  unfold State.putChannel linkChanged
  dsimp only
  cases decide (s.rx.channels[ch].state = c.state) && s.rx.channels[ch].degraded == c.degraded && s.rx.channels[ch].excess == c.excess
    <;> rfl

/-- R137: a record rewritten as it stands changes nothing and is not reported. -/
theorem putChannel_self (ch : ChanId) (s : State) : s.putChannel ch s.rx.channels[ch] = s := by
  rw [putChannel_eq, linkChanged_self, State.setChannel, tableSet_getElem_self]
  rfl

/-- A channel's record rewritten by `f` and reported where that shows, as the step of a channel. -/
theorem putChannel_eq_stepChannel (f : Channel → Channel) (ch : ChanId) (s : State) :
    s.putChannel ch (f s.rx.channels[ch]) =
      stepChannel f (fun _ k => k) (fun ch c _ => if linkChanged c (f c) then [.link ch] else []) ch s := by
  rw [putChannel_eq, stepChannel, tableSet_getElem_self]
  rfl

/-- R137: the LINK notices of channels whose records `f` rewrites. -/
theorem reported_links (f : Channel → Channel) (s : State) (l : ControlLink) :
    reported ((List.finRange 8).flatMap fun c : ChanId =>
        if linkChanged s.rx.channels[c] (f s.rx.channels[c]) then [.link c] else []) l =
      ((List.finRange 8).filter fun c : ChanId => linkChanged s.rx.channels[c] (f s.rx.channels[c])).foldl
        (fun l c => l.report (.link c)) l := by
  rw [flatMap_ite_singleton, reported, List.foldl_map]

/-! ## Quiet states -/

/-- What the quiet of a state says step by step. -/
theorem stepsQuiet_iff (s : State) : s.stepsQuiet = true ↔ s.gov.windowDue = false ∧ (∀ ch : ChanId, s.channelQuiet ch = true) ∧
    (∀ p ∈ s.paths, p.spent = false) ∧ (∀ g : GroupId, s.groupQuiet g = true) ∧ s.routes.judgementDue = false := by
  simp only [State.stepsQuiet, Bool.and_eq_true, Bool.not_eq_true', List.all_eq_true, List.mem_finRange, true_implies,
    List.any_eq_false, Bool.not_eq_true, and_assoc]

theorem settleChannel_of_quiet {ch : ChanId} {s : State} (quiet : s.channelQuiet ch = true) : s.settleChannel ch = s := by
  simp only [State.channelQuiet, Bool.and_eq_true, Bool.not_eq_true'] at quiet
  obtain ⟨⟨⟨⟨drop, idle⟩, conceal⟩, recovery⟩, -⟩ := quiet
  rw [State.settleChannel, State.takeDrop_of_not_due drop, State.takeIdleLimit_of_not_due idle,
    State.takeConcealLimit_of_not_due conceal, State.takeRecovery_of_not_due recovery]

theorem takeCompletion_of_quiet {ch : ChanId} {s : State} (quiet : s.channelQuiet ch = true) : s.takeCompletion ch = s := by
  simp only [State.channelQuiet, Bool.and_eq_true, Bool.not_eq_true'] at quiet
  exact State.takeCompletion_of_not_due quiet.2

/-- R92: no deadline has been reached in any group. -/
theorem timeoutDue_of_quiet {g : GroupId} {s : State} (quiet : s.groupQuiet g = true) (k : KeyId) : s.timeoutDue g k = false := by
  by_contra due
  simp only [State.timeoutDue, Bool.not_eq_false, Bool.and_eq_true, decide_eq_true_eq, List.contains_iff_mem] at due
  obtain ⟨⟨run, waits⟩, deadline⟩ := due
  simp only [State.groupQuiet, List.all_eq_true, Bool.or_eq_true, decide_eq_true_eq] at quiet
  exact (quiet k waits).elim (fun other => other run) fun other => other deadline

theorem takeTimeouts_of_quiet {s : State} (quiet : ∀ g : GroupId, s.groupQuiet g = true) (g : GroupId) : s.takeTimeouts g = s :=
  List.foldl_fixed' (fun k => State.takeTimeout_of_not_due fun g => timeoutDue_of_quiet (quiet g) k) _

theorem endWindow_of_not_due {s : State} (h : s.gov.windowDue = false) : s.endWindow = s := if_neg (by rw [h]; decide)

theorem takeJudgement_of_not_due {s : State} (h : s.routes.judgementDue = false) : s.takeJudgement = s := if_neg (by rw [h]; decide)

theorem removeSpent_of_none {s : State} (h : ∀ p ∈ s.paths, p.spent = false) (which : Path → Bool) : s.removeSpent which = s := by
  rw [State.removeSpent, List.filter_eq_self.2 fun p mem => by rw [h p mem]; rfl]

/-- A state in which no step is due is left alone by settling's steps. -/
theorem settleSteps_of_quiet {s : State} (quiet : s.stepsQuiet = true) : s.settleSteps = s := by
  obtain ⟨window, channels, unspent, groups, judgement⟩ := (stepsQuiet_iff s).1 quiet
  unfold State.settleSteps
  dsimp only
  rw [endWindow_of_not_due window, removeSpent_of_none unspent,
    List.foldl_fixed' (f := fun s ch => State.settleChannel ch s) fun ch => settleChannel_of_quiet (channels ch),
    List.foldl_fixed' (f := fun s ch => State.takeCompletion ch s) fun ch => takeCompletion_of_quiet (channels ch),
    List.foldl_fixed' (f := fun s g => State.takeTimeouts g s) (takeTimeouts_of_quiet groups),
    takeJudgement_of_not_due judgement]

end Sys2Proof.Proofs
end

section
/-! PROOFS. The block (1.3, 2.2, 3.1 to 3.5, 7.5, 8.1, 8.5, 8.6, 9.4): what BLOCK_BOUNDARY computes. -/

namespace Sys2Proof.Proofs

open Sys2Proof.Machine

/-! ## The yields -/

/-- R128 to R130: a channel's record after its yield for a block. -/
def afterYield (c : Channel) : Channel := if c.state = .closed then c else c.yieldBlock.1

/-- R149: a check after the yield of its channel for block `n`. -/
def afterExamination (n : BlockCount) (c : Channel) (k : Check) : Check :=
  if c.state = .closed then k
  else if k.state = .running then k.examine n c.yieldBlock.2 c.yieldBlock.1.prevYield else k

/-- The yields of block `n`. -/
def yielded (n : BlockCount) (s : State) : State :=
  { s with
    eventBlock := n
    rx := { s.rx with channels := tableOf fun c : ChanId => afterYield s.rx.channels[c] }
    checks := tableOf fun c : ChanId => afterExamination n s.rx.channels[c] s.checks[c]
    link := ((List.finRange 8).filter fun c : ChanId => linkChanged s.rx.channels[c] (afterYield s.rx.channels[c])).foldl
      (fun l c => l.report (.link c)) s.link }

theorem yieldChannel_eq_stepChannel (n : BlockCount) (ch : ChanId) (s : State) : s.yieldChannel n ch =
    stepChannel afterYield (afterExamination n) (fun ch c _ => if linkChanged c (afterYield c) then [.link ch] else []) ch s := by
  unfold State.yieldChannel
  dsimp only
  by_cases closed : s.rx.channels[ch].state = .closed
  · have still : afterYield s.rx.channels[ch] = s.rx.channels[ch] := if_pos closed
    have check : afterExamination n s.rx.channels[ch] s.checks[ch] = s.checks[ch] := if_pos closed
    rw [if_pos closed, stepChannel, still, check, tableSet_getElem_self, tableSet_getElem_self, linkChanged_self]
    rfl
  · have moved : afterYield s.rx.channels[ch] = s.rx.channels[ch].yieldBlock.1 := if_neg closed
    rw [if_neg closed, putChannel_eq, stepChannel, moved, afterExamination, if_neg closed]
    by_cases running : s.checks[ch].state = .running
    · rw [if_pos running]; exact if_pos running
    · rw [if_neg running, tableSet_getElem_self]; exact if_neg running

theorem foldl_yieldChannel (n : BlockCount) (s : State) :
    (List.finRange 8).foldl (fun s ch => s.yieldChannel n ch) { s with eventBlock := n } = yielded n s := by
  have step : (fun (s : State) ch => s.yieldChannel n ch) = fun s ch => stepChannel afterYield (afterExamination n)
      (fun ch c _ => if linkChanged c (afterYield c) then [.link ch] else []) ch s :=
    funext fun s => funext fun ch => yieldChannel_eq_stepChannel n ch s
  rw [step, foldl_channels, reported_links]
  rfl

/-- A yield leaves a channel's state, its configuration, its excess-delay flag alone. -/
theorem yieldBlock_keeps (c : Channel) : c.yieldBlock.1.state = c.state ∧ c.yieldBlock.1.config = c.config ∧
    c.yieldBlock.1.excess = c.excess := by
  unfold Channel.yieldBlock
  split
  · split
    · refine ⟨?_, ?_, ?_⟩ <;> (simp only [Channel.lower]; split <;> rfl)
    · exact ⟨rfl, rfl, rfl⟩
  · exact ⟨rfl, rfl, rfl⟩
  · exact ⟨rfl, rfl, rfl⟩

theorem afterYield_keeps (c : Channel) : (afterYield c).state = c.state ∧ (afterYield c).config = c.config ∧
    (afterYield c).excess = c.excess := by
  unfold afterYield
  split
  · exact ⟨rfl, rfl, rfl⟩
  · exact yieldBlock_keeps c

/-- R130, R137: of what a LINK notice reports, a yield changes the DEGRADED flag alone. -/
theorem linkChanged_afterYield (c : Channel) : linkChanged c (afterYield c) = decide ((afterYield c).degraded ≠ c.degraded) := by
  obtain ⟨state, -, excess⟩ := afterYield_keeps c
  rw [linkChanged, state, excess]
  cases c.degraded <;> cases (afterYield c).degraded <;> simp

/-- R128: a yield is taken where the channel is RUNNING and holds the block of the next sequence. -/
theorem yieldBlock_taken_iff (c : Channel) : c.yieldBlock.2 = .taken ↔
    c.state = .running ∧ ∃ e, c.nextSeq = some e ∧ (c.ring[ringPlace e]).map RingBlock.seq = some e := by
  have holds (e : Seq) : (c.holds e).isSome = true ↔ (c.ring[ringPlace e]).map RingBlock.seq = some e := by
    rw [Channel.holds]
    cases c.ring[ringPlace e] with
    | none => simp
    | some b => by_cases h : b.seq = e <;> simp [Option.filter, h]
  unfold Channel.yieldBlock
  split
  · rename_i e running next
    rw [next]
    split
    · rename_i b held
      have : (c.holds e).isSome = true := by rw [held]; rfl
      simpa [running] using (holds e).1 this
    · rename_i held
      have : ¬ (c.holds e).isSome = true := by rw [held]; decide
      simpa [running] using fun h => this ((holds e).2 h)
  · rename_i priming
    simp [priming]
  · rename_i live
    refine ⟨nofun, fun ⟨running, e, next, _⟩ => (live e running next).elim⟩

/-! ## The examination -/

/-- R149: what an examination leaves alone. -/
theorem afterExamination_keeps (n : BlockCount) (c : Channel) (k : Check) :
    (afterExamination n c k).state = k.state ∧ (afterExamination n c k).forward = k.forward ∧
      (afterExamination n c k).startBlock = k.startBlock ∧ (afterExamination n c k).sent = k.sent ∧
      (afterExamination n c k).history = k.history := by
  unfold afterExamination Check.examine
  repeat' split
  all_goals exact ⟨rfl, rfl, rfl, rfl, rfl⟩

theorem afterExamination_of_idle (n : BlockCount) (c : Channel) {k : Check} (h : k.state ≠ .running) :
    afterExamination n c k = k := by
  unfold afterExamination
  rw [if_neg h, ite_self]

/-- R149: the block that a channel has yielded is pattern block `q`'s return or a damaged copy of it, and its entry gives `m`. -/
def Returns (k : Check) (mark : Marker) (x : Block) (q : Nat) (m : BlockCount) : Prop :=
  mark = .taken ∧ (∃ j : Fin 48, x[j] ≠ 0) ∧ (x[(0 : Fin 48)]).toInt = (q : Int) * 256 ∧
    k.history.find? (fun e : Nat × BlockCount => decide (e.1 = q)) = some (q, m)

theorem allZero_eq_false_iff (x : Block) : allZero x = false ↔ ∃ j : Fin 48, x[j] ≠ 0 := by
  rw [← Bool.not_eq_true, allZero, List.all_eq_true]
  simp only [decide_eq_true_eq, not_forall]
  constructor
  · rintro ⟨y, mem, other⟩
    obtain ⟨j, hj, rfl⟩ := List.getElem_of_mem mem
    exact ⟨⟨j, by simpa using hj⟩, by simpa using other⟩
  · rintro ⟨j, other⟩
    exact ⟨x[j], by simp, other⟩

theorem spelledPattern_eq_some_iff (x : Block) (q : Nat) : spelledPattern x = some q ↔ (x[(0 : Fin 48)]).toInt = (q : Int) * 256 := by
  unfold spelledPattern
  dsimp only
  rw [show x[0] = x[(0 : Fin 48)] from rfl]
  split
  · rw [Option.some.injEq]; omega
  · rename_i other
    refine ⟨nofun, fun spelled => absurd ?_ other⟩
    omega

/-- The history entry that a search by number finds bears that number. -/
theorem find?_number {h : List (Nat × BlockCount)} {q : Nat} {e : Nat × BlockCount}
    (found : h.find? (fun e => decide (e.1 = q)) = some e) : e = (q, e.2) := by
  have : e.1 = q := by simpa using List.find?_some found
  rw [← this]

/-- R149: a return is matched or mismatched. -/
theorem examine_of_returns {k : Check} {mark : Marker} {x : Block} {q : Nat} {m : BlockCount} (h : Returns k mark x q m)
    (n : BlockCount) : k.examine n mark x =
      if x = patternBlock q then
        { k with
          matched := k.matched + 1
          lastDelay := some (n - m).toNat
          maxDelay := some (max (k.maxDelay.getD 0) (n - m).toNat) }
      else { k with mismatched := k.mismatched + 1 } := by
  obtain ⟨taken, sound, spelled, found⟩ := h
  unfold Check.examine
  rw [(allZero_eq_false_iff x).2 sound, (spelledPattern_eq_some_iff x q).2 spelled, if_pos (by simp [taken])]
  dsimp only
  rw [found]
  dsimp only
  split
  · cases k.maxDelay with
    | none => simp
    | some d => rfl
  · rfl

/-- R149: any other yield leaves the check alone. -/
theorem examine_of_none {k : Check} {mark : Marker} {x : Block} (h : ∀ q m, ¬ Returns k mark x q m) (n : BlockCount) :
    k.examine n mark x = k := by
  unfold Check.examine
  split
  · rename_i sound
    simp only [Bool.and_eq_true, decide_eq_true_eq, Bool.not_eq_true', allZero_eq_false_iff] at sound
    split
    · rfl
    · rename_i q spelled
      split
      · rfl
      · rename_i e found
        rw [find?_number found] at found
        exact absurd ⟨sound.1, sound.2, (spelledPattern_eq_some_iff x q).1 spelled, found⟩ (h q e.2)
  · rfl

end Sys2Proof.Proofs
end

section
/-! PROOFS. The outbound AUDIO frames of a block (8.1, R141, R148). -/

namespace Sys2Proof.Proofs

open Sys2Proof.Machine

/-! ## One channel's frame -/

/-- R141, R148: the AUDIO frame that a channel makes for block `n`; a channel without a configuration makes none. -/
def frameOf (n : BlockCount) (s : State) (ch : ChanId) : List AudioFrame :=
  match s.rx.channels[ch].config with
  | none => []
  | some cfg => [⟨ch, cfg.linkId, s.tx.outSeq[ch],
      if s.patternFor ch then patternBlock (s.checks[ch].patternNumber n) else s.fieldOutput ch⟩]

/-- R148: a channel's check once its frame for block `n` has been made. -/
def checkAfterFrame (n : BlockCount) (s : State) (ch : ChanId) : Check :=
  if s.rx.channels[ch].config.isSome ∧ s.patternFor ch = true then s.checks[ch].record n else s.checks[ch]

/-- R141: a channel's outbound sequence once its frame has been made. -/
def seqAfterFrame (s : State) (ch : ChanId) : Seq :=
  if s.rx.channels[ch].config.isSome then s.tx.outSeq[ch] + 1 else s.tx.outSeq[ch]

theorem makeFrame_eq (n : BlockCount) (ch : ChanId) (s : State) : s.makeFrame n ch =
    { s with
      checks := tableSet s.checks ch (checkAfterFrame n s ch)
      tx := { s.tx with
        ready := s.tx.ready ++ frameOf n s ch
        outSeq := tableSet s.tx.outSeq ch (seqAfterFrame s ch) } } := by
  unfold State.makeFrame frameOf checkAfterFrame seqAfterFrame
  cases s.rx.channels[ch].config with
  | none => simp only [Option.isSome_none, Bool.false_eq_true, false_and, if_false, tableSet_getElem_self, List.append_nil]
  | some cfg =>
      cases s.patternFor ch
      · simp only [Bool.false_eq_true, and_false, if_false, Option.isSome_some, if_true, tableSet_getElem_self]
      · rfl

/-! ## Every channel's frame -/

/-- What the frames of the channels `chs` have done. -/
def framed (n : BlockCount) (chs : List ChanId) (s : State) : State :=
  { s with
    checks := tableOf fun c : ChanId => if c ∈ chs then checkAfterFrame n s c else s.checks[c]
    tx := { s.tx with
      ready := s.tx.ready ++ chs.flatMap (frameOf n s)
      outSeq := tableOf fun c : ChanId => if c ∈ chs then seqAfterFrame s c else s.tx.outSeq[c] } }

/-- R148: whether a pattern goes out depends on the channel's own record and check. -/
theorem patternFor_congr {s t : State} {c : ChanId} (rx : t.rx = s.rx) (check : t.checks[c] = s.checks[c]) :
    t.patternFor c = s.patternFor c := by
  rw [State.patternFor, State.patternFor, rx, check]

/-- R57: a field port's output is read from the port table and the computed block. -/
theorem fieldOutput_congr {s t : State} (ports : t.ports = s.ports) (lanes : t.lanes = s.lanes) (c : ChanId) :
    t.fieldOutput c = s.fieldOutput c := by
  rw [State.fieldOutput, State.fieldOutput, State.fieldPort, State.fieldPort, ports, lanes]

/-- The frame of one channel does not disturb another's. -/
theorem makeFrame_other (n : BlockCount) {ch c : ChanId} (other : c ≠ ch) (s : State) :
    (s.makeFrame n ch).checks[c] = s.checks[c] ∧ (s.makeFrame n ch).tx.outSeq[c] = s.tx.outSeq[c] ∧
      frameOf n (s.makeFrame n ch) c = frameOf n s c ∧ checkAfterFrame n (s.makeFrame n ch) c = checkAfterFrame n s c ∧
      seqAfterFrame (s.makeFrame n ch) c = seqAfterFrame s c := by
  have rx : (s.makeFrame n ch).rx = s.rx := by rw [makeFrame_eq]
  have ports : (s.makeFrame n ch).ports = s.ports := by rw [makeFrame_eq]
  have lanes : (s.makeFrame n ch).lanes = s.lanes := by rw [makeFrame_eq]
  have check : (s.makeFrame n ch).checks[c] = s.checks[c] := by rw [makeFrame_eq]; exact tableSet_ne _ _ other.symm
  have seq : (s.makeFrame n ch).tx.outSeq[c] = s.tx.outSeq[c] := by rw [makeFrame_eq]; exact tableSet_ne _ _ other.symm
  refine ⟨check, seq, ?_, ?_, ?_⟩
  · rw [frameOf, frameOf, patternFor_congr rx check, fieldOutput_congr ports lanes, rx, check, seq]
  · rw [checkAfterFrame, checkAfterFrame, patternFor_congr rx check, rx, check]
  · rw [seqAfterFrame, seqAfterFrame, rx, seq]

theorem foldl_makeFrame (n : BlockCount) {chs : List ChanId} (distinct : chs.Nodup) (s : State) :
    chs.foldl (fun s ch => s.makeFrame n ch) s = framed n chs s := by
  induction chs generalizing s with
  | nil => simp only [List.foldl_nil, framed, List.not_mem_nil, if_false, tableOf_self, List.flatMap_nil, List.append_nil]
  | cons ch chs ih =>
      obtain ⟨absent, distinct⟩ := List.nodup_cons.1 distinct
      have later : chs.flatMap (frameOf n (s.makeFrame n ch)) = chs.flatMap (frameOf n s) :=
        List.flatMap_congr fun c mem => (makeFrame_other n (ne_of_mem_of_not_mem mem absent) s).2.2.1
      have own : (s.makeFrame n ch).checks[ch] = checkAfterFrame n s ch ∧
          (s.makeFrame n ch).tx.outSeq[ch] = seqAfterFrame s ch := by
        rw [makeFrame_eq]; exact ⟨tableSet_self _ _ _, tableSet_self _ _ _⟩
      have checks : (tableOf fun c : ChanId => if c ∈ chs then checkAfterFrame n (s.makeFrame n ch) c else (s.makeFrame n ch).checks[c]) =
          tableOf fun c : ChanId => if c ∈ ch :: chs then checkAfterFrame n s c else s.checks[c] := by
        refine congrArg tableOf (funext fun c => ?_)
        by_cases same : c = ch
        · subst same
          rw [if_neg absent, if_pos List.mem_cons_self, own.1]
        · obtain ⟨check, -, -, framed, -⟩ := makeFrame_other n same s
          simp only [check, framed, List.mem_cons, same, false_or]
      have seqs : (tableOf fun c : ChanId => if c ∈ chs then seqAfterFrame (s.makeFrame n ch) c else (s.makeFrame n ch).tx.outSeq[c]) =
          tableOf fun c : ChanId => if c ∈ ch :: chs then seqAfterFrame s c else s.tx.outSeq[c] := by
        refine congrArg tableOf (funext fun c => ?_)
        by_cases same : c = ch
        · subst same
          rw [if_neg absent, if_pos List.mem_cons_self, own.2]
        · obtain ⟨-, seq, -, -, framed⟩ := makeFrame_other n same s
          simp only [seq, framed, List.mem_cons, same, false_or]
      rw [List.foldl_cons, ih distinct, framed, framed, later, checks, seqs, makeFrame_eq, List.flatMap_cons, List.append_assoc]

/-- R141, R144: the frames of block `n`, in channel order. -/
theorem makeFrames_eq (n : BlockCount) (s : State) : s.makeFrames n =
    { s with
      checks := tableOf fun c : ChanId => checkAfterFrame n s c
      tx := { s.tx with
        ready := (List.finRange 8).flatMap (frameOf n s)
        outSeq := tableOf fun c : ChanId => seqAfterFrame s c } } := by
  rw [State.makeFrames, foldl_makeFrame n (List.nodup_finRange 8), framed]
  simp only [List.mem_finRange, if_true, List.nil_append]
  rfl

/-! ## Finding a channel's frame -/

theorem frameOf_channel {n : BlockCount} {s : State} {ch : ChanId} {f : AudioFrame} (mem : f ∈ frameOf n s ch) : f.channel = ch := by
  unfold frameOf at mem
  split at mem
  · cases mem
  · rw [List.mem_singleton.1 mem]

/-- What one element of a list of distinct elements alone contributes. -/
theorem flatMap_ite_eq {α β : Type} [DecidableEq α] {xs : List α} (distinct : xs.Nodup) {x : α} (mem : x ∈ xs) (f : α → List β) :
    (xs.flatMap fun y => if y = x then f y else []) = f x := by
  induction xs with
  | nil => cases mem
  | cons y ys ih =>
      obtain ⟨absent, distinct⟩ := List.nodup_cons.1 distinct
      rw [List.flatMap_cons]
      by_cases same : y = x
      · subst same
        have rest : (ys.flatMap fun z => if z = y then f z else []) = [] :=
          List.flatMap_eq_nil_iff.2 fun z later => if_neg (ne_of_mem_of_not_mem later absent)
        rw [if_pos rfl, rest, List.append_nil]
      · rw [if_neg same, List.nil_append, ih distinct (List.mem_of_ne_of_mem (Ne.symm same) mem)]

/-- The frames of one channel among those of a block. -/
theorem filter_frames (n : BlockCount) (s : State) (c : ChanId) :
    ((List.finRange 8).flatMap (frameOf n s)).filter (fun f => decide (f.channel = c)) = frameOf n s c := by
  have one (ch : ChanId) : (frameOf n s ch).filter (fun f => decide (f.channel = c)) = if ch = c then frameOf n s ch else [] := by
    split
    · rename_i same
      exact List.filter_eq_self.2 fun f mem => decide_eq_true ((frameOf_channel mem).trans same)
    · rename_i other
      exact List.filter_eq_nil_iff.2 fun f mem found => other ((frameOf_channel mem).symm.trans (of_decide_eq_true found))
  rw [List.filter_flatMap]
  simp only [one]
  exact flatMap_ite_eq (List.nodup_finRange 8) (List.mem_finRange c) (frameOf n s)

end Sys2Proof.Proofs
end

section
/-! PROOFS. The mix engine's arithmetic for a block (3.2 to 3.5). -/

namespace Sys2Proof.Proofs

open Sys2Proof.Machine

theorem tableOf_get {α : Type} {n : Nat} (f : Fin n → α) (i : Fin n) : (tableOf f)[i] = f i := tableOf_getElem f i.val i.isLt

theorem tableMap_get {α β : Type} {n : Nat} (f : α → β) (v : Vector α n) (i : Fin n) : (tableMap f v)[i] = f v[i] :=
  tableMap_getElem f v i.val i.isLt

/-! ## Buses and accumulators -/

theorem sat24_eq (x : Int) : sat24 x = max (-8388608) (min 8388607 x) := by
  unfold sat24 sampleMax sampleMin
  by_cases high : 8388607 < x
  · rw [if_pos high]; omega
  · by_cases low : x < -8388608
    · rw [if_neg high, if_pos low]; omega
    · rw [if_neg high, if_neg low]; omega

theorem sampleOf_sat24_toInt (x : Int) : (sampleOf (sat24 x)).toInt = sat24 x := by
  rw [sampleOf, BitVec.toInt_ofInt, sat24_eq]
  exact Int.bmod_eq_of_le (by omega) (by omega)

/-- R46: what is left of the bus accumulator once a listener's own contribution has been taken away is the other sources' sum. -/
theorem busAcc_sub_ownContribution (paths : List Path) (inp : Vector Block 48) (k : PortId) (b : BusId) (j : Fin 48) :
    busAcc paths inp b j - ownContribution paths inp k b j =
      ((paths.filter fun q : Path => decide (q.ident.dst = .bus b ∧ q.ident.src ≠ .port k)).map (busTerm inp j)).sum := by
  unfold busAcc ownContribution sumInt
  induction paths with
  | nil => simp
  | cons q qs ih =>
      by_cases into : q.ident.dst = .bus b
      · by_cases own : q.ident.src = .port k
        · have term : busTerm inp j q = sourceSample inp k j * (q.level : Int) := by rw [busTerm, own]
          simp only [into, own, List.filter_cons, decide_true, Bool.and_self, if_true, List.map_cons, List.foldr_cons, ne_eq,
            not_true_eq_false, and_false, decide_false, Bool.false_eq_true, if_false, term, mul_add] at ih ⊢
          rw [← ih]; ring
        · simp only [into, own, List.filter_cons, decide_true, decide_false, Bool.true_and, Bool.false_eq_true, if_true, if_false,
            List.map_cons, List.foldr_cons, ne_eq, not_false_eq_true, and_self, List.sum_cons] at ih ⊢
          rw [← ih]; ring
      · simp only [into, List.filter_cons, decide_false, Bool.false_and, false_and, Bool.false_eq_true, if_false] at ih ⊢
        exact ih

/-- R46: the bus value that a listener hears, formed from the other sources alone. -/
theorem busValue_eq {paths : List Path} {inp : Vector Block 48} {k : PortId} {b : BusId} {j : Fin 48} {term : Path → Int}
    (same : ∀ q, term q = busTerm inp j q) : busValue paths inp k b j = max (-8388608) (min 8388607 (roundDiv 4096
      ((paths.filter fun q : Path => decide (q.ident.dst = .bus b ∧ q.ident.src ≠ .port k)).map term).sum)) := by
  rw [busValue, busAcc_sub_ownContribution, sat24_eq, funext same]

/-- R49: an output accumulator. -/
theorem outputAcc_eq {paths : List Path} {inp : Vector Block 48} {cls : PathClass} {k : PortId} {j : Fin 48} {term : Path → Int}
    (same : ∀ q, term q = pathValue paths inp k j q * (q.level : Int)) : outputAcc paths inp cls k j =
      ((paths.filter fun q : Path => decide (q.ident.dst = .port k ∧ q.ident.cls = cls)).map term).sum := by
  simp only [outputAcc, Bool.decide_and, funext same]
  rfl

/-! ## Output samples, clips, peaks -/

theorem measures_getD (s : State) (inp : Vector Block 48) (p : PortId) (j : Fin 48) :
    (s.measures inp p).getD j.val 0 = measured s.paths inp (s.dipOf p) p j := by
  simp [State.measures]

theorem outputBlock_toInt (s : State) (inp : Vector Block 48) (p : PortId) (gain : Nat) (j : Fin 48) :
    ((outputBlock (s.measures inp p) gain)[j]).toInt = sat24 (gained (measured s.paths inp (s.dipOf p) p j) gain) := by
  rw [outputBlock, tableOf_get, measures_getD, sampleOf_sat24_toInt]

theorem clips24_eq (x : Int) : clips24 x = decide (x < -8388608 ∨ 8388607 < x) := by
  rw [Bool.eq_iff_iff, clips24, Bool.or_eq_true, decide_eq_true_eq, decide_eq_true_eq, decide_eq_true_eq]
  exact or_comm

theorem clipCount_measures (s : State) (inp : Vector Block 48) (p : PortId) (gain : Nat) : clipCount (s.measures inp p) gain =
    ((List.finRange 48).filter fun j => decide (gained (measured s.paths inp (s.dipOf p) p j) gain < -8388608 ∨
      8388607 < gained (measured s.paths inp (s.dipOf p) p j) gain)).length := by
  simp only [clipCount, State.measures, List.filter_map, List.length_map, Function.comp_def, clips24_eq]

theorem peakOf_measures (s : State) (inp : Vector Block 48) (p : PortId) : peakOf (s.measures inp p) =
    ((List.finRange 48).map fun j => (measured s.paths inp (s.dipOf p) p j).natAbs).foldl max 0 := by
  simp only [peakOf, State.measures, List.map_map, Function.comp_def]

/-! ## The pattern -/

theorem patternBlock_get (q : Nat) (j : Fin 48) : (patternBlock q)[j] = BitVec.ofInt 24
    (if j.val = 0 then (q : Int) * 256 else ((((q * 48 + j.val) * 40503 % 65536 : Nat) : Int) - 32768) * 128) := by
  rw [patternBlock, tableOf_get, sampleOf, patternValue]

/-- Two blocks are one where their samples are. -/
theorem block_eq_iff (x y : Block) : x = y ↔ ∀ j : Fin 48, x[j] = y[j] :=
  ⟨fun same _ => same ▸ rfl, fun same => Vector.ext fun j hj => same ⟨j, hj⟩⟩

end Sys2Proof.Proofs
end

section
/-! PROOFS. BLOCK_BOUNDARY (1.3): the computed block field by field. -/

namespace Sys2Proof.Proofs

open Sys2Proof.Machine

/-! ## The state that a boundary leaves -/

/-- R42: block `n` mixed, its frames not yet made. -/
def mixed (n : BlockCount) (s : State) : State := (yielded n s).advanceRamps.mixBlock n

/-- R42 to R57: what the mix engine computes for each port in block `n`. -/
def portMixes (n : BlockCount) (s : State) : Vector PortMix 48 :=
  tableOf fun p : PortId => (yielded n s).advanceRamps.mixPort (yielded n s).advanceRamps.inputs p

/-- R10, R11, R42: what a boundary that is due leaves in RUN. -/
def afterBlock (n : BlockCount) (s : State) : State :=
  { mixed n s with
    blockCount := n + 1
    lanes := { s.lanes with input := [], outBlock := some (tableMap PortMix.out (portMixes n s)) }
    checks := tableOf fun c : ChanId => checkAfterFrame n (mixed n s) c
    tx := { s.tx with
      ready := (List.finRange 8).flatMap (frameOf n (mixed n s))
      outSeq := tableOf fun c : ChanId => seqAfterFrame (mixed n s) c }
    gov := { (mixed n s).gov with windowDue := endsWindow n && decide (s.gov.config.mode ≠ .off) }
    routes := { s.routes with judgementDue := s.routes.swapPending } }

theorem computeBlock_eq (n : BlockCount) (s : State) : s.computeBlock n = (mixed n s).makeFrames n := by
  unfold State.computeBlock mixed
  dsimp only
  rw [foldl_yieldChannel]

theorem takeBoundary_of_not_due {s : State} (h : s.boundaryDue = false) : s.takeBoundary = s := if_neg (by rw [h]; decide)

theorem takeBoundary_of_config {s : State} (due : s.boundaryDue = true) (mode : s.mode = .config) :
    s.takeBoundary = { s with lanes := { s.lanes with input := [] } } := by
  unfold State.takeBoundary
  rw [if_pos due]
  split
  · rfl
  · rename_i run
    rw [mode] at run
    cases run

theorem takeBoundary_of_run {s : State} (due : s.boundaryDue = true) (mode : s.mode = .run) :
    s.takeBoundary = afterBlock s.blockCount s := by
  rw [State.takeBoundary, if_pos due, mode]
  dsimp only
  rw [computeBlock_eq, makeFrames_eq]
  rfl

theorem boundaryDue_iff (s : State) : s.boundaryDue = true ↔ s.lanes.clockPresent = true ∧ 48 ≤ s.lanes.input.length := by
  rw [State.boundaryDue, Bool.and_eq_true, decide_eq_true_eq]

/-! ## Ramps, channels and source samples -/

theorem path_advance_eq (q : Path) : q.advance =
    { q with index := min 8 (q.index + 1), spent := q.closing && decide (8 ≤ q.index + 1) } := by
  have full : decide (min 8 (q.index + 1) = 8) = decide (8 ≤ q.index + 1) := by rw [decide_eq_decide]; omega
  rw [Path.advance, full]

theorem afterBlock_channel (n : BlockCount) (s : State) (c : ChanId) :
    (afterBlock n s).rx.channels[c] = afterYield s.rx.channels[c] := tableOf_get _ c

theorem mixed_check (n : BlockCount) (s : State) (c : ChanId) :
    (mixed n s).checks[c] = afterExamination n s.rx.channels[c] s.checks[c] := tableOf_get _ c

theorem mixed_channel (n : BlockCount) (s : State) (c : ChanId) : (mixed n s).rx.channels[c] = afterYield s.rx.channels[c] :=
  tableOf_get _ c

/-- R8, R150: whether a check silences its channel's field port in block `n`. -/
theorem silenced_iff (n : BlockCount) (s : State) (c : ChanId) : (yielded n s).advanceRamps.silenced c = true ↔
    s.checks[c].state = .running ∧ s.checks[c].forward = .silent := by
  obtain ⟨state, forward, -⟩ := afterExamination_keeps n s.rx.channels[c] s.checks[c]
  have check : (yielded n s).advanceRamps.checks[c] = afterExamination n s.rx.channels[c] s.checks[c] := tableOf_get _ c
  rw [State.silenced, check, state, forward, Bool.and_eq_true, decide_eq_true_eq, decide_eq_true_eq]

/-- R7: a sample of a slot. -/
theorem slotSamples_get (frames : List TdmFrame) (slot : Option Slot) (j : Fin 48) :
    (match slot with
      | some x => slotBlock frames x
      | none => silence)[j] =
    match slot, frames[j.val]? with
    | some x, some f => f[x.place]
    | _, _ => 0 := by
  cases slot with
  | none => simp [silence]
  | some x =>
      dsimp only
      rw [slotBlock, tableOf_get]
      cases frames[j.val]? <;> rfl

/-! ## What a port hears and sends -/

/-- R48 to R52: the measured value of a port in block `n`. -/
def measuredAt (n : BlockCount) (s : State) (p : PortId) (j : Fin 48) : Int :=
  measured (afterBlock n s).paths (yielded n s).advanceRamps.inputs ((yielded n s).advanceRamps.dipOf p) p j

theorem portMix_of_listens (n : BlockCount) {s : State} {p : PortId} (listens : s.ports[p].kind.listens) : (portMixes n s)[p] =
    let r := (yielded n s).advanceRamps
    ⟨outputBlock (r.measures r.inputs p) (r.gainOf p), clipCount (r.measures r.inputs p) (r.gainOf p),
      peakOf (r.measures r.inputs p)⟩ := by
  rw [portMixes, tableOf_get]
  exact if_pos ((PortKind.hasOutput_iff _).2 listens)

theorem portMix_of_deaf (n : BlockCount) {s : State} {p : PortId} (deaf : ¬ s.ports[p].kind.listens) :
    (portMixes n s)[p] = ⟨silence, 0, 0⟩ := by
  rw [portMixes, tableOf_get]
  exact if_neg (fun h => deaf ((PortKind.hasOutput_iff _).1 h))

theorem afterBlock_clips (n : BlockCount) (s : State) (p : PortId) : (afterBlock n s).mix.clips[p] =
    (if n.toNat % 100 = 0 then 0 else s.mix.clips[p]) + (portMixes n s)[p].clips := by
  refine (tableOf_get _ p).trans (congrArg (· + _) ?_)
  exact if_congr (decide_eq_true_iff (p := n.toNat % 100 = 0)) rfl rfl

theorem afterBlock_record (n : BlockCount) (s : State) (p : PortId) : (afterBlock n s).gov.records[p] =
    if s.ports[p].kind.governed && decide (s.gov.config.mode ≠ .off) then
      { s.gov.records[p] with peak := max s.gov.records[p].peak (portMixes n s)[p].peak }
    else s.gov.records[p] := tableOf_get _ p

/-! ## Frames and checks -/

theorem frame_sends_iff (n : BlockCount) (s : State) (c : ChanId) : (mixed n s).patternFor c = true ↔
    s.checks[c].state = .running ∧ ¬ (afterBlock n s).rx.channels[c].dropDue ∧ ¬ (afterBlock n s).rx.channels[c].idleDue := by
  rw [State.patternFor, mixed_check, (afterExamination_keeps n s.rx.channels[c] s.checks[c]).1, mixed_channel, afterBlock_channel]
  simp [and_assoc]

theorem afterBlock_check (n : BlockCount) (s : State) (c : ChanId) :
    (afterBlock n s).checks[c] = checkAfterFrame n (mixed n s) c := tableOf_get _ c

/-- R148: making a frame changes a check's history and its sent count alone. -/
theorem checkAfterFrame_keeps (n : BlockCount) (s : State) (c : ChanId) :
    (checkAfterFrame n s c).matched = s.checks[c].matched ∧ (checkAfterFrame n s c).mismatched = s.checks[c].mismatched ∧
      (checkAfterFrame n s c).lastDelay = s.checks[c].lastDelay ∧ (checkAfterFrame n s c).maxDelay = s.checks[c].maxDelay := by
  unfold checkAfterFrame
  split <;> exact ⟨rfl, rfl, rfl, rfl⟩

/-- One element of a list that alone meets a test is the one found. -/
theorem find?_of_unique {α : Type} {xs : List α} {f : α → Bool} {x : α} (mem : x ∈ xs) (hit : f x = true)
    (only : ∀ y ∈ xs, f y = true → y = x) : xs.find? f = some x := by
  cases found : xs.find? f with
  | none => exact absurd hit (List.find?_eq_none.1 found x mem)
  | some y => rw [only y (List.mem_of_find?_eq_some found) (List.find?_some found)]

/-- The one record of a table that meets a test is the one found. -/
theorem findRow_of_unique {α : Type} {n : Nat} {v : Vector α n} {f : Fin n × α → Bool} {i : Fin n} (hit : f (i, v[i]) = true)
    (only : ∀ j, f (j, v[j]) = true → j = i) : ((tableRows v).find? f).map Prod.fst = some i := by
  rw [find?_of_unique (x := (i, v[i])) ((tableRows_mem _ _).2 rfl) hit]
  · rfl
  · rintro ⟨j, x⟩ mem hitting
    obtain rfl : x = v[j] := (tableRows_mem _ _).1 mem
    rw [only j hitting]

/-- 7.3.2: the one FIELD port bound to a channel. -/
theorem fieldPort_of_unique {s : State} {p : PortId} {c : ChanId} (kind : s.ports[p].kind = .field)
    (channel : s.ports[p].channel = some c) (only : ∀ q : PortId, q ≠ p → s.ports[q].channel ≠ some c) :
    s.fieldPort c = some p := by
  refine findRow_of_unique ?_ fun q hit => ?_
  · simp only [kind, channel, decide_true, Bool.and_self]
  · by_contra other
    exact only q other (of_decide_eq_true (Bool.and_eq_true_iff.1 hit).2)

end Sys2Proof.Proofs
end

section
/-! PROOFS. BLOCK_BOUNDARY (1.3): the clauses of the computed block, and the statement. -/

namespace Sys2Proof.Proofs

open Sys2Proof.Machine

/-! ## Source samples -/

/-- R43: a port's source sample in block `n`. -/
theorem inputs_get (n : BlockCount) (s : State) (p : PortId) (j : Fin 48) :
    (yielded n s).advanceRamps.inputs[p][j] = ((yielded n s).advanceRamps.portInput p)[j] := by
  rw [State.inputs, tableOf_get]

/-- R8, R150: the source samples of a FIELD port. -/
theorem fieldInput_get (n : BlockCount) {s : State} {p : PortId} (kind : s.ports[p].kind = .field) (j : Fin 48) :
    ((yielded n s).advanceRamps.portInput p)[j] =
      match s.ports[p].channel with
      | some c =>
          if s.checks[c].state = .running ∧ s.checks[c].forward = .silent then 0
          else (afterBlock n s).rx.channels[c].prevYield[j]
      | none => 0 := by
  have ports : (yielded n s).advanceRamps.ports = s.ports := rfl
  cases channel : s.ports[p].channel with
  | none => simp only [State.portInput, ports, kind, channel]; simp [silence]
  | some c =>
      simp only [State.portInput, ports, kind, channel, silenced_iff]
      split
      · simp [silence]
      · rfl

/-- R1, R7: the source samples of a port that takes a slot's. -/
theorem slotInput_get (n : BlockCount) {s : State} {p : PortId} (uses : s.ports[p].kind.usesInput = true) (j : Fin 48) :
    ((yielded n s).advanceRamps.portInput p)[j] =
      match s.ports[p].inSlot, s.lanes.input[j.val]? with
      | some x, some f => f[x.place]
      | _, _ => 0 := by
  have slots : (yielded n s).advanceRamps.portInput p =
      match s.ports[p].inSlot with
      | some x => slotBlock s.lanes.input x
      | none => silence := by
    have ports : (yielded n s).advanceRamps.ports = s.ports := rfl
    unfold State.portInput
    simp only [ports]
    cases kind : s.ports[p].kind with
    | unused => rw [kind] at uses; cases uses
    | field => rw [kind] at uses; cases uses
    | _ => rfl
  rw [slots]
  exact slotSamples_get s.lanes.input s.ports[p].inSlot j

theorem unusedInput_get (n : BlockCount) {s : State} {p : PortId} (kind : s.ports[p].kind = .unused) (j : Fin 48) :
    ((yielded n s).advanceRamps.portInput p)[j] = 0 := by
  have ports : (yielded n s).advanceRamps.ports = s.ports := rfl
  unfold State.portInput
  simp only [ports, kind]
  simp [silence]

/-! ## Checks -/

/-- R149: what the examination of a yield has done to a running check. -/
theorem afterBlock_examined (n : BlockCount) {s : State} {c : ChanId} (running : s.checks[c].state = .running)
    (configured : s.rx.channels[c].state ≠ .closed) :
    let e := s.checks[c].examine n s.rx.channels[c].yieldBlock.2 (afterBlock n s).rx.channels[c].prevYield
    let k := (afterBlock n s).checks[c]
    k.matched = e.matched ∧ k.mismatched = e.mismatched ∧ k.lastDelay = e.lastDelay ∧ k.maxDelay = e.maxDelay := by
  have yield : (afterBlock n s).rx.channels[c] = s.rx.channels[c].yieldBlock.1 := by
    rw [afterBlock_channel]; exact if_neg configured
  have examined : (mixed n s).checks[c] =
      s.checks[c].examine n s.rx.channels[c].yieldBlock.2 s.rx.channels[c].yieldBlock.1.prevYield := by
    rw [mixed_check, afterExamination, if_neg configured, if_pos running]
  dsimp only
  rw [yield, afterBlock_check, ← examined]
  exact checkAfterFrame_keeps n (mixed n s) c

/-- R148: the check of a channel that sends the pattern. -/
theorem afterBlock_sent (n : BlockCount) {s : State} {c : ChanId} (configured : s.rx.channels[c].config.isSome)
    (sends : (mixed n s).patternFor c = true) :
    (afterBlock n s).checks[c].sent = s.checks[c].sent + 1 ∧
      (afterBlock n s).checks[c].history = addHistory (n - s.checks[c].startBlock).toNat n s.checks[c].history := by
  obtain ⟨-, -, start, sent, history⟩ := afterExamination_keeps n s.rx.channels[c] s.checks[c]
  have config : (mixed n s).rx.channels[c].config.isSome := by rw [mixed_channel, (afterYield_keeps _).2.1]; exact configured
  rw [afterBlock_check, checkAfterFrame, if_pos ⟨config, sends⟩, mixed_check]
  exact ⟨congrArg (· + 1) sent, by rw [Check.record, Check.patternNumber, start, history]⟩

/-- R148: the check of a channel that does not send the pattern. -/
theorem afterBlock_notSent (n : BlockCount) {s : State} {c : ChanId} (silent : (mixed n s).patternFor c = false) :
    (afterBlock n s).checks[c] = afterExamination n s.rx.channels[c] s.checks[c] := by
  rw [afterBlock_check, checkAfterFrame, silent, if_neg (by simp), mixed_check]

/-! ## Frames -/

/-- R141, R148: the AUDIO frame of a channel in block `n`. -/
theorem frameOf_mixed (n : BlockCount) {s : State} {c : ChanId} {g : ChannelConfig} (config : s.rx.channels[c].config = some g) :
    frameOf n (mixed n s) c = [⟨c, g.linkId, s.tx.outSeq[c],
      if (mixed n s).patternFor c then patternBlock (n - s.checks[c].startBlock).toNat else (mixed n s).fieldOutput c⟩] := by
  have start := (afterExamination_keeps n s.rx.channels[c] s.checks[c]).2.2.1
  rw [frameOf, mixed_channel, (afterYield_keeps _).2.1, config, mixed_check, Check.patternNumber, start]
  rfl

theorem fieldOutput_mixed (n : BlockCount) {s : State} {c : ChanId} {p : PortId} (kind : s.ports[p].kind = .field)
    (channel : s.ports[p].channel = some c) (only : ∀ q : PortId, q ≠ p → s.ports[q].channel ≠ some c) :
    (mixed n s).fieldOutput c = (tableMap PortMix.out (portMixes n s))[p] := by
  rw [State.fieldOutput, show (mixed n s).fieldPort c = some p from fieldPort_of_unique kind channel only]
  rfl

theorem afterBlock_outSeq (n : BlockCount) (s : State) (c : ChanId) : (afterBlock n s).tx.outSeq[c] =
    if s.rx.channels[c].config.isSome then s.tx.outSeq[c] + 1 else s.tx.outSeq[c] := by
  refine (tableOf_get _ c).trans ?_
  rw [seqAfterFrame, mixed_channel, (afterYield_keeps _).2.1]
  rfl

/-! ## Outputs -/

/-- R48 to R55: the output of a port that listens, in terms of its measured values and its gain. -/
theorem afterBlock_output (n : BlockCount) {s : State} {p : PortId} (listens : s.ports[p].kind.listens) :
    let gain := (yielded n s).advanceRamps.gainOf p
    let y (j : Fin 48) := gained (measuredAt n s p j) gain
    (∀ j : Fin 48, ((tableMap PortMix.out (portMixes n s))[p][j]).toInt = sat24 (y j)) ∧
      (portMixes n s)[p].clips = ((List.finRange 48).filter fun j => decide (y j < -8388608 ∨ 8388607 < y j)).length ∧
      (portMixes n s)[p].peak = ((List.finRange 48).map fun j => (measuredAt n s p j).natAbs).foldl max 0 := by
  have mix := portMix_of_listens n listens
  dsimp only at mix ⊢
  rw [tableMap_get, mix]
  exact ⟨fun j => outputBlock_toInt _ _ _ _ _, clipCount_measures _ _ _ _, peakOf_measures _ _ _⟩

/-- R155, R157: the record of a governed port under a governor that is not OFF. -/
theorem afterBlock_governed (n : BlockCount) {s : State} {p : PortId} (listens : s.ports[p].kind.listens)
    (kind : s.ports[p].kind ≠ .field) (on : s.gov.config.mode ≠ .off) : (afterBlock n s).gov.records[p] =
      { s.gov.records[p] with peak := max s.gov.records[p].peak (portMixes n s)[p].peak } := by
  have governed : s.ports[p].kind.governed = true :=
    (PortKind.governed_iff _).2 (listens.imp_right fun h => h.resolve_right kind)
  rw [afterBlock_record, governed, decide_eq_true on]
  rfl

theorem afterBlock_ungoverned (n : BlockCount) {s : State} {p : PortId}
    (h : s.gov.config.mode = .off ∨ (s.ports[p].kind ≠ .panel ∧ s.ports[p].kind ≠ .earpiece)) :
    (afterBlock n s).gov.records[p] = s.gov.records[p] := by
  rw [afterBlock_record, if_neg]
  rw [Bool.and_eq_true, PortKind.governed_iff, decide_eq_true_eq]
  rintro ⟨kind, on⟩
  exact h.elim on fun other => kind.elim other.1 other.2

end Sys2Proof.Proofs
end

section
/-! PROOFS. BLOCK_BOUNDARY (1.3): the statement. -/

namespace Sys2Proof.Proofs

open Sys2Proof.Machine

/-- The device's own boundary in a state where nothing else is due. -/
theorem exec_blockBoundary_of_quiet {s : State} (high : s.rstnLow = false) (quiet : s.stepsQuiet = true) :
    exec .blockBoundary s = .next s.takeBoundary :=
  congrArg Host.Outcome.next ((State.ownStep_of_high high _).trans (by rw [settleSteps_of_quiet quiet]))

/-- Settles O40: the computed block is `afterBlock`, whose clauses stand as lemmas above. -/
theorem boundaryComputesABlock : Obligations.BoundaryComputesABlock := by
  unfold Obligations.BoundaryComputesABlock
  intro s high quiet due n pattern
  rw [exec_blockBoundary_of_quiet high quiet]
  refine ⟨?_, ?_, ?_⟩
  · intro idle
    rw [takeBoundary_of_not_due (Bool.eq_false_iff.2 fun h => idle ((boundaryDue_iff s).1 h))]
  · intro isDue config
    rw [takeBoundary_of_config ((boundaryDue_iff s).2 isDue) config]
  · intro isDue run
    refine ⟨afterBlock n s, (yielded n s).advanceRamps.inputs, tableMap PortMix.out (portMixes n s),
      by rw [takeBoundary_of_run ((boundaryDue_iff s).2 isDue) run], run, rfl, rfl, rfl, ?_, fun p => tableMap_get _ _ p,
      fun p => tableMap_get _ _ p, fun c => afterBlock_channel n s c, ?_, ?_, fun p => afterBlock_ungoverned n, ?_, ?_, ?_, ?_, ?_, rfl,
      ?_, rfl, rfl, rfl, rfl, rfl, rfl, rfl, rfl, ?_⟩
    case refine_1 => exact congrArg (s.paths.map ·) (funext path_advance_eq)
    · -- R43: the source samples
      intro p j
      rw [inputs_get]
      split
      case h_1 kind => exact unusedInput_get n kind j
      case h_2 kind => exact fieldInput_get n kind j
      case h_3 notUnused notField =>
        refine slotInput_get n ?_ j
        revert notUnused notField
        cases s.ports[p].kind <;> simp [PortKind.usesInput]
    · -- R45 to R55, R157: outputs, clips and peaks of the ports that listen
      intro p listens d gain heard acc m y
      have hears (b : BusId) (j : Fin 48) :
          heard b j = busValue (afterBlock n s).paths (yielded n s).advanceRamps.inputs p b j := by
        refine (busValue_eq fun q => ?_).symm
        rw [busTerm]; cases q.ident.src <;> rfl
      have sums (c : PathClass) (j : Fin 48) :
          acc c j = outputAcc (afterBlock n s).paths (yielded n s).advanceRamps.inputs c p j := by
        refine (outputAcc_eq fun q => ?_).symm
        rw [pathValue]
        cases q.ident.src with
        | port a => rfl
        | bus b => exact congrArg (· * (q.level : Int)) (hears b j)
      have dips : d = ((yielded n s).advanceRamps.dipOf p : Int) := by
        have ports : (yielded n s).advanceRamps.ports = s.ports := rfl
        have ears : (yielded n s).advanceRamps.ears = (afterBlock n s).ears := rfl
        simp only [d, State.dipOf, ports, ears]
        cases s.ports[p].kind <;> cases (afterBlock n s).ears[p] <;> rfl
      have gains : gain = ((yielded n s).advanceRamps.gainOf p : Int) := by
        have same : (yielded n s).advanceRamps.mix.gains = (afterBlock n s).mix.gains := rfl
        simp only [gain, State.gainOf, same]
        cases (afterBlock n s).mix.gains[p] <;> rfl
      have measures (j : Fin 48) : m j = measuredAt n s p j := by
        simp only [m, sums, dips]
        rfl
      have samples (j : Fin 48) : y j = gained (measuredAt n s p j) ((yielded n s).advanceRamps.gainOf p) := by
        simp only [y, measures, gains]
        rfl
      obtain ⟨out, clips, peak⟩ := afterBlock_output n listens
      simp only [samples, measures]
      refine ⟨out, (afterBlock_clips n s p).trans (congrArg (_ + ·) clips), fun kind on => ?_⟩
      rw [afterBlock_governed n listens kind on, peak]
    · -- R56: the clip counts of the others
      intro p deaf
      rw [afterBlock_clips, portMix_of_deaf n deaf, Nat.add_zero]
    · -- R141: a channel without a configuration sends nothing
      intro c config
      constructor
      · rw [afterBlock_outSeq, config]; rfl
      · intro f mem same
        have frame : f ∈ frameOf n (mixed n s) c := by
          rw [← filter_frames]; exact List.mem_filter.2 ⟨mem, decide_eq_true same⟩
        rw [frameOf, mixed_channel, (afterYield_keeps _).2.1, config] at frame
        cases frame
    · -- R141, R148: a configured channel's frame and its check's record of it
      intro c g config _
      refine ⟨by rw [afterBlock_outSeq, config]; rfl, _, (filter_frames n (mixed n s) c).trans (frameOf_mixed n config), ?_⟩
      intro sends number history
      constructor
      · intro does
        have pattern := (frame_sends_iff n s c).2 does
        obtain ⟨sent, recorded⟩ := afterBlock_sent n (c := c) (by rw [config]; rfl) pattern
        refine ⟨sent, recorded, fun j => ?_⟩
        rw [if_pos pattern, patternBlock_get]
      · intro doesNot
        have pattern : (mixed n s).patternFor c = false :=
          Bool.eq_false_iff.2 fun h => doesNot ((frame_sends_iff n s c).1 h)
        obtain ⟨-, -, -, sent, kept⟩ := afterExamination_keeps n s.rx.channels[c] s.checks[c]
        rw [afterBlock_notSent n pattern]
        refine ⟨sent, kept, fun p kind channel only => ?_⟩
        rw [pattern, fieldOutput_mixed n kind channel only]
        rfl
    · -- R149: the examination
      intro c running configured r k k' x taken returned
      obtain ⟨matched, mismatched, lastDelay, maxDelay⟩ := afterBlock_examined n running configured
      have returns (q : Nat) (m : BlockCount) : returned q m ↔ Returns k r.yieldBlock.2 x q m := by
        rw [Returns, yieldBlock_taken_iff]
      have pattern_iff (q : Nat) : x = patternBlock q ↔ ∀ j : Fin 48, x[j] = pattern q j := by
        rw [block_eq_iff]
        exact forall_congr' fun j => by rw [patternBlock_get]
      refine ⟨fun q m h same => ?_, fun q m h other => ?_, fun none => ?_⟩
      · have examined := examine_of_returns ((returns q m).1 h) n
        rw [if_pos ((pattern_iff q).2 same)] at examined
        rw [examined] at matched mismatched lastDelay maxDelay
        exact ⟨matched, mismatched, lastDelay, maxDelay⟩
      · have examined := examine_of_returns ((returns q m).1 h) n
        rw [if_neg fun same => other.elim fun j differs => differs ((pattern_iff q).1 same j)] at examined
        rw [examined] at matched mismatched lastDelay maxDelay
        exact ⟨matched, mismatched, lastDelay, maxDelay⟩
      · have examined := examine_of_none (fun q m h => none q m ((returns q m).2 h)) n
        rw [examined] at matched mismatched lastDelay maxDelay
        exact ⟨matched, mismatched, lastDelay, maxDelay⟩
    · -- R156: the window end
      exact congrArg (· && decide (s.gov.config.mode ≠ .off)) (Bool.decide_or _ _).symm
    · -- a check that is not running
      intro c idle
      have pattern : (mixed n s).patternFor c = false := Bool.eq_false_iff.2 fun h => idle ((frame_sends_iff n s c).1 h).1
      rw [afterBlock_notSent n pattern, afterExamination_of_idle n _ idle]
    · -- R137: the LINK notices
      have shows : (fun c : ChanId => linkChanged s.rx.channels[c] (afterYield s.rx.channels[c])) =
          fun c : ChanId => decide ((afterBlock n s).rx.channels[c].degraded ≠ s.rx.channels[c].degraded) :=
        funext fun c => by rw [linkChanged_afterYield, afterBlock_channel]
      exact congrArg (fun shown => ((List.finRange 8).filter shown).foldl (fun l c => l.report (.link c)) s.link) shows

end Sys2Proof.Proofs
end

section
/-! PROOFS. The clock and the lanes (1.2 to 1.4): CLOCK_LOST, CLOCK_PRESENT, FRAME_SYNC. -/

namespace Sys2Proof.Proofs

open Sys2Proof.Machine

/-! ## Loss and return -/

theorem declareLost_of_lost {s : State} (h : s.lanes.clockPresent = false) : s.declareLost = s := if_neg (by rw [h]; decide)

theorem declareLost_of_present {s : State} (h : s.lanes.clockPresent = true) : s.declareLost =
    State.report (.clock false s.blockCount) { s with lanes := ⟨false, 0, [], none, none⟩ } := if_pos h

/-- R136: a channel's record after the declaration of presence. -/
def afterClockReturn (c : Channel) : Channel := if c.state = .running then c.clockReturn else c

/-- R136, R137: the return shows in a channel's LINK notice exactly where the channel was RUNNING. -/
theorem linkChanged_afterClockReturn (c : Channel) : linkChanged c (afterClockReturn c) = decide (c.state = .running) := by
  unfold afterClockReturn
  by_cases running : c.state = .running
  · have moved : decide (c.state = c.clockReturn.state) = false := by rw [running]; rfl
    rw [if_pos running, linkChanged, moved, decide_eq_true running]
    rfl
  · rw [if_neg running, linkChanged_self, decide_eq_false running]

theorem returnChannel_eq_stepChannel (ch : ChanId) (s : State) : s.returnChannel ch = stepChannel afterClockReturn (fun _ k => k)
    (fun ch c _ => if linkChanged c (afterClockReturn c) then [.link ch] else []) ch s := by
  rw [← putChannel_eq_stepChannel, State.returnChannel, afterClockReturn]
  split
  · rfl
  · exact (putChannel_self ch s).symm

/-- R13, R136: a declaration of presence that is due. -/
theorem takeClockPresent_of_due {s : State} (due : s.presenceDue = true) : s.takeClockPresent =
    { s with
      lanes := { s.lanes with clockPresent := true, syncCount := 0, input := [] }
      rx := { s.rx with channels := tableOf fun c : ChanId => afterClockReturn s.rx.channels[c] }
      link := ((List.finRange 8).filter fun c : ChanId => decide (s.rx.channels[c].state = .running)).foldl
        (fun l c => l.report (.link c)) (s.link.report (.clock true s.blockCount)) } := by
  have step : (fun (s : State) ch => s.returnChannel ch) = fun s ch => stepChannel afterClockReturn (fun _ k => k)
      (fun ch c _ => if linkChanged c (afterClockReturn c) then [.link ch] else []) ch s :=
    funext fun s => funext fun ch => returnChannel_eq_stepChannel ch s
  rw [State.takeClockPresent, if_pos due, step, foldl_channels, reported_links]
  simp only [linkChanged_afterClockReturn, tableOf_self]
  rfl

theorem takeClockPresent_of_not_due {s : State} (h : s.presenceDue = false) : s.takeClockPresent = s := if_neg (by rw [h]; decide)

theorem presenceDue_iff (s : State) : s.presenceDue = true ↔ s.lanes.clockPresent = false ∧ 48 ≤ s.lanes.syncCount := by
  rw [State.presenceDue, Bool.and_eq_true, Bool.not_eq_true', decide_eq_true_eq]
  rfl

/-- The declaration of presence in a state where nothing else is due. -/
theorem exec_clockPresent_of_quiet {s : State} (high : s.rstnLow = false) (quiet : s.stepsQuiet = true) :
    exec .clockPresent s = .next s.takeClockPresent :=
  congrArg Host.Outcome.next ((State.ownStep_of_high high _).trans (by rw [settleSteps_of_quiet quiet]))

theorem exec_clockLost {s : State} (high : s.rstnLow = false) : exec .clockLost s = .next s.settle.declareLost :=
  congrArg Host.Outcome.next (State.event_of_high high _)

/-- Settles O52. -/
theorem clockIsLostAndReturns : Obligations.ClockIsLostAndReturns := by
  unfold Obligations.ClockIsLostAndReturns
  intro s high v settled
  refine ⟨fun lost => ?_, fun present => ?_, fun quiet => ⟨fun early => ?_, fun lost counted => ?_⟩⟩
  · rw [exec_clockLost high, settled, declareLost_of_lost lost]
  · rw [exec_clockLost high, settled, declareLost_of_present present]
  · have notDue : s.presenceDue = false := by
      rw [Bool.eq_false_iff, ne_eq, presenceDue_iff]
      rintro ⟨lost, counted⟩
      obtain present | few := early
      · rw [lost] at present; cases present
      · exact absurd counted (Nat.not_le_of_lt few)
    rw [exec_clockPresent_of_quiet high quiet, takeClockPresent_of_not_due notDue]
  · have due := (presenceDue_iff s).2 ⟨lost, counted⟩
    refine ⟨_, (exec_clockPresent_of_quiet high quiet).trans (congrArg Host.Outcome.next (takeClockPresent_of_due due)), rfl,
      fun c => tableOf_get _ c, rfl, rfl, rfl, rfl, rfl, rfl, rfl, rfl, rfl, rfl, rfl, rfl, rfl, rfl, rfl⟩

/-! ## The lanes are left alone by every step that settling takes -/

theorem foldl_lanes {α : Type} {f : State → α → State} (hf : ∀ s x, (f s x).lanes = s.lanes) (xs : List α) (s : State) :
    (xs.foldl f s).lanes = s.lanes := by
  induction xs generalizing s with
  | nil => rfl
  | cons x xs ih => exact (ih (f s x)).trans (hf s x)

theorem changes_lanes {s t : State} (h : Changes s t) : t.lanes = s.lanes := h.sameRun.lanes

theorem putChannel_lanes (ch : ChanId) (c : Channel) (s : State) : (s.putChannel ch c).lanes = s.lanes := by rw [putChannel_eq]; rfl

theorem endWindow_lanes (s : State) : s.endWindow.lanes = s.lanes := by
  have port (p : PortId) (s : State) : (s.endWindowPort p).lanes = s.lanes := by
    unfold State.endWindowPort
    split
    · dsimp only
      rw [retargetGain_eq]
      split <;> rfl
    · rfl
  unfold State.endWindow
  split
  · exact foldl_lanes (fun s p => port p s) _ _
  · rfl

theorem abortCheck_lanes (ch : ChanId) (st : CheckState) (r : Option CheckReason) (n : BlockCount) (s : State) :
    (s.abortCheck ch st r n).lanes = s.lanes := by
  unfold State.abortCheck
  split <;> rfl

theorem forceCallKey_lanes (k : KeyId) (s : State) : (s.forceCallKey k).1.lanes = s.lanes := by
  unfold State.forceCallKey
  split
  · exact (changes_lanes (State.withdraw_changes k (s.setActivation k .idle))).trans rfl
  · rfl

theorem leaveLive_lanes (ch : ChanId) (c : Channel) (r : CheckReason) (s : State) : (s.leaveLive ch c r).lanes = s.lanes := by
  unfold State.leaveLive
  dsimp only
  rw [changes_lanes (State.runPasses_changes _ _), abortCheck_lanes]
  split
  · rw [forceCallKey_lanes, putChannel_lanes]
  · rw [putChannel_lanes]

theorem settleChannel_lanes (ch : ChanId) (s : State) : (s.settleChannel ch).lanes = s.lanes := by
  have drop (s : State) : (s.takeDrop ch).lanes = s.lanes := by
    unfold State.takeDrop
    split
    · exact (leaveLive_lanes _ _ _ _).trans (endWindow_lanes s)
    · rfl
  have idle (s : State) : (s.takeIdleLimit ch).lanes = s.lanes := by
    unfold State.takeIdleLimit
    split
    · exact (leaveLive_lanes _ _ _ _).trans (endWindow_lanes s)
    · rfl
  have conceal (s : State) : (s.takeConcealLimit ch).lanes = s.lanes := by
    unfold State.takeConcealLimit
    split
    · exact putChannel_lanes _ _ _
    · rfl
  have recovery (s : State) : (s.takeRecovery ch).lanes = s.lanes := by
    unfold State.takeRecovery
    split
    · exact putChannel_lanes _ _ _
    · rfl
  rw [State.settleChannel, recovery, conceal, idle, drop]

theorem takeCompletion_lanes (ch : ChanId) (s : State) : (s.takeCompletion ch).lanes = s.lanes := by
  unfold State.takeCompletion
  split
  · dsimp only
    rw [putChannel_lanes]
    rfl
  · rfl

theorem takeJudgement_lanes (s : State) : s.takeJudgement.lanes = s.lanes := by
  have judged (s : State) : s.judgeSwap.lanes = s.lanes := by
    unfold State.judgeSwap
    dsimp only
    split
    · rfl
    · rw [State.report_lanes, changes_lanes (State.exchange_changes _)]
  unfold State.takeJudgement
  split
  · exact (judged _).trans (endWindow_lanes s)
  · rfl

theorem settleSteps_lanes (s : State) : s.settleSteps.lanes = s.lanes := by
  unfold State.settleSteps
  dsimp only
  rw [takeJudgement_lanes, foldl_lanes fun s g => changes_lanes (s.takeTimeouts_changes g),
    foldl_lanes fun s ch => takeCompletion_lanes ch s, foldl_lanes fun s ch => settleChannel_lanes ch s]
  exact endWindow_lanes s

/-! ## Frames -/

theorem slotPlace_injective {x y : Slot} (h : x.place = y.place) : x = y := by
  obtain ⟨lane, slot⟩ := x
  obtain ⟨lane', slot'⟩ := y
  have places : 8 * lane.val + slot.val = 8 * lane'.val + slot'.val := congrArg Fin.val h
  have := slot.isLt
  have := slot'.isLt
  rw [Slot.mk.injEq, Fin.ext_iff, Fin.ext_iff]
  omega

/-- R9: a place whose slot one port alone has. -/
theorem portAtPlace_of_unique {s : State} {p : PortId} {x : Slot} (slot : s.ports[p].outSlot = some x)
    (only : ∀ q : PortId, q ≠ p → s.ports[q].outSlot ≠ some x) : s.portAtPlace x.place = some p := by
  refine findRow_of_unique ?_ fun q hit => ?_
  · simp only [slot, Option.map_some, decide_true]
  · by_contra other
    obtain ⟨y, there, same⟩ := Option.map_eq_some_iff.1 (of_decide_eq_true hit)
    exact only q other (there.trans (congrArg some (slotPlace_injective same)))

/-- R9: a place that no port has. -/
theorem portAtPlace_of_none {s : State} {place : Fin 48} (h : ∀ p : PortId, s.ports[p].outSlot.map Slot.place ≠ some place) :
    s.portAtPlace place = none := by
  rw [State.portAtPlace, List.find?_eq_none.2]
  · rfl
  · rintro ⟨p, r⟩ mem hit
    obtain rfl : r = s.ports[p] := (tableRows_mem _ _).1 mem
    exact h p (of_decide_eq_true hit)

theorem outputFrame_of_idle {s : State} (idle : s.lanes.outBlock = none) (j : Nat) (place : Fin 48) :
    (s.outputFrame j)[place] = 0 := by
  rw [State.outputFrame, tableOf_get, idle]

theorem outputFrame_of_none {s : State} {place : Fin 48} (free : s.portAtPlace place = none) (j : Nat) :
    (s.outputFrame j)[place] = 0 := by
  rw [State.outputFrame, tableOf_get, free]
  cases s.lanes.outBlock <;> rfl

theorem outputFrame_of_port {s : State} {place : Fin 48} {p : PortId} {block : Vector Block 48}
    (drives : s.lanes.outBlock = some block) (there : s.portAtPlace place = some p) (j : Fin 48) :
    (s.outputFrame j.val)[place] = block[p][j] ++ (0 : BitVec 8) := by
  rw [State.outputFrame, tableOf_get, drives, there]
  exact dif_pos j.isLt

theorem exec_frameSync {s : State} (high : s.rstnLow = false) (gap : Bool) (slots : SlotFrame) :
    exec (.frameSync gap slots) s = .next (s.settle.takeSync gap slots) :=
  congrArg Host.Outcome.next (State.event_of_high high _)

/-- R7, R9, R10: a frame sync while the clock is present, any boundary that waits having been taken. -/
theorem takeSync_of_present {v : State} (present : v.passBoundary.lanes.clockPresent = true) (slots : SlotFrame) :
    v.takeSync false slots = v.passBoundary.captureAndDrive slots := if_pos present

theorem passBoundary_of_not_due {v : State} (h : v.boundaryDue = false) : v.passBoundary = v := if_neg (by rw [h]; decide)

/-- R13: a frame sync once the clock is lost. -/
theorem takeSync_of_lost {v : State} (lost : v.lanes.clockPresent = false) (gap : Bool) (slots : SlotFrame) :
    v.takeSync gap slots = v.countSync gap := by
  have idle : v.boundaryDue = false := by rw [State.boundaryDue, lost]; rfl
  rw [State.takeSync, declareLost_of_lost lost, passBoundary_of_not_due idle, ite_self, if_neg (by rw [lost]; decide)]

/-- Settles O53. -/
theorem frameSyncCapturesAndDrives : Obligations.FrameSyncCapturesAndDrives := by
  unfold Obligations.FrameSyncCapturesAndDrives
  intro s slots high v settled drives
  have captured (w : State) (j : Fin 48) (length : w.lanes.input.length = j.val)
      (meaning : v.takeSync false slots = w.captureAndDrive slots) : drives w j := by
    refine ⟨captureFrame slots, w.outputFrame j.val, ?_, length, fun x => tableMap_get _ _ x,
      fun idle x => outputFrame_of_idle idle _ x, fun x free => outputFrame_of_none (portAtPlace_of_none free) _,
      fun p x block out slot only => outputFrame_of_port out (portAtPlace_of_unique slot only) j⟩
    rw [exec_frameSync high, settled, meaning, State.captureAndDrive, length]
  refine ⟨fun j present length => ?_, fun present full quiet => ?_, fun gap lost => ?_, fun present => ?_⟩
  · have idle : v.boundaryDue = false := by
      rw [Bool.eq_false_iff, ne_eq, boundaryDue_iff, length]
      exact fun due => absurd due.2 (Nat.not_le_of_lt j.isLt)
    have pass := passBoundary_of_not_due idle
    refine captured v j length ?_
    rw [takeSync_of_present (by rw [pass]; exact present), pass]
  · have due := (boundaryDue_iff v).2 ⟨present, full⟩
    have pass : v.passBoundary = v.takeBoundary.settleSteps := if_pos due
    have lanes : v.takeBoundary.settleSteps.lanes.clockPresent = true ∧ v.takeBoundary.settleSteps.lanes.input = [] := by
      rw [settleSteps_lanes]
      cases mode : v.mode with
      | config => rw [takeBoundary_of_config due mode]; exact ⟨present, rfl⟩
      | run => rw [takeBoundary_of_run due mode]; exact ⟨present, rfl⟩
    have vHigh : v.rstnLow = false := by rw [← settled, s.settle_outside.rstnLow, high]
    refine ⟨v.takeBoundary, exec_blockBoundary_of_quiet vHigh quiet, captured _ 0 (by rw [lanes.2]; rfl) ?_⟩
    rw [takeSync_of_present (by rw [pass]; exact lanes.1), pass]
  · rw [exec_frameSync high, settled, takeSync_of_lost lost, State.countSync]
    simp only [Bool.or_eq_true, decide_eq_true_eq]
  · rw [exec_frameSync high, settled, State.takeSync, if_pos rfl, declareLost_of_present present]
    rfl

end Sys2Proof.Proofs
end

section
/-! PROOFS. START (1.5, 2.4, 2.7, 10.4). -/

namespace Sys2Proof.Proofs

open Sys2Proof.Machine

/-! ## What opening routes can change -/

/-- `t` is `s` with other paths and, perhaps, other openings counts. -/
def OnlyOpens (s t : State) : Prop :=
  ∃ paths records, t = { s with paths := paths, gov := { s.gov with records := records } } ∧
    ∀ p : PortId, records[p].level = s.gov.records[p].level

theorem OnlyOpens.refl (s : State) : OnlyOpens s s := ⟨s.paths, s.gov.records, rfl, fun _ => rfl⟩

theorem OnlyOpens.trans {s t u : State} (h : OnlyOpens s t) (h' : OnlyOpens t u) : OnlyOpens s u := by
  obtain ⟨paths, records, rfl, levels⟩ := h
  obtain ⟨paths', records', rfl, levels'⟩ := h'
  exact ⟨paths', records', rfl, fun p => (levels' p).trans (levels p)⟩

theorem onlyOpens_paths (s : State) (paths : List Path) : OnlyOpens s { s with paths := paths } :=
  ⟨paths, s.gov.records, rfl, fun _ => rfl⟩

theorem openingIfRaised_onlyOpens (before after : Nat) (d : Endpoint) (s : State) :
    OnlyOpens s (s.openingIfRaised before after d) := by
  unfold State.openingIfRaised State.reportOpening
  split
  · split
    · exact .refl s
    · split
      · refine ⟨_, _, rfl, fun q => ?_⟩
        rw [tableSet_get]
        split
        · rename_i same; subst same; rfl
        · rfl
      · exact .refl s
  · exact .refl s

theorem addHolder_onlyOpens (id : PathId) (h : Holder) (asked : Bool) (s : State) :
    OnlyOpens s (s.addHolder id h asked).1 := by
  have touch (f : Path → Path) : OnlyOpens s (s.touchPath id f) := by
    unfold State.touchPath
    split
    · exact .refl s
    · exact (onlyOpens_paths s _).trans (openingIfRaised_onlyOpens _ _ _ _)
  unfold State.addHolder
  split
  · split
    · exact (onlyOpens_paths s _).trans (openingIfRaised_onlyOpens _ _ _ _)
    · exact .refl s
  · split <;> exact touch _

theorem openRoutes_onlyOpens (s : State) : OnlyOpens s s.openRoutes := by
  have fold (rs : List Route) (s : State) :
      OnlyOpens s (rs.foldl (fun s r => (s.addHolder r.ident .route false).1) s) := by
    induction rs generalizing s with
    | nil => exact .refl s
    | cons r rs ih => exact (addHolder_onlyOpens _ _ _ s).trans (ih _)
  exact fold s.routes.active s

/-! ## The paths of routes opened one after another -/

/-- The record that START gives to the `i`th route of the active set. -/
def routePath (i : Nat) (r : Route) : Path := ⟨i, r.ident, [], true, r.level, 0, 0, false, false, false⟩

/-- The path table once the routes `rs` have been opened in an empty one. -/
def routePaths (rs : List Route) : List Path := rs.mapIdx routePath

theorem routePaths_concat (rs : List Route) (r : Route) : routePaths (rs ++ [r]) = routePaths rs ++ [routePath rs.length r] :=
  List.mapIdx_concat

theorem mem_routePaths {rs : List Route} {q : Path} (mem : q ∈ routePaths rs) :
    q.pos < rs.length ∧ ∃ r ∈ rs, q.ident = r.ident := by
  obtain ⟨i, hi, rfl⟩ := List.mem_mapIdx.1 mem
  exact ⟨hi, rs[i], List.getElem_mem hi, rfl⟩

theorem routePaths_idents (rs : List Route) : (routePaths rs).map Path.ident = rs.map Route.ident :=
  List.ext_getElem (by simp [routePaths]) fun i h h' => by simp [routePaths, routePath]

/-- R40: in a table whose positions are 0, 1, ... the lowest free position is the next one. -/
theorem lowestFree_of_positions {ps : List Path} {k : Nat} (h : ps.map Path.pos = List.range' k ps.length) :
    lowestFree k ps = k + ps.length := by
  induction ps generalizing k with
  | nil => rfl
  | cons p ps ih =>
      rw [List.map_cons, List.length_cons, List.range'_succ, List.cons.injEq] at h
      rw [lowestFree, if_pos h.1, ih h.2, List.length_cons]
      omega

theorem lowestFree_routePaths (rs : List Route) : lowestFree 0 (routePaths rs) = rs.length := by
  have length : (routePaths rs).length = rs.length := List.length_mapIdx
  have positions : (routePaths rs).map Path.pos = List.range' 0 (routePaths rs).length := by
    refine List.ext_getElem (by simp) fun i h h' => ?_
    simp [routePaths, routePath]
  rw [lowestFree_of_positions positions, length, Nat.zero_add]

theorem insertByPos_last {q : Path} {ps : List Path} (h : ∀ p ∈ ps, p.pos < q.pos) : insertByPos q ps = ps ++ [q] := by
  induction ps with
  | nil => rfl
  | cons p ps ih =>
      have first := h p List.mem_cons_self
      rw [insertByPos, if_neg (by omega), ih fun p mem => h p (List.mem_cons_of_mem _ mem), List.cons_append]

/-! ## Openings counted -/

/-- R35, R158: how many of the routes open into port `p` at a level above 0. -/
def openingsInto (p : PortId) (rs : List Route) : Nat :=
  (rs.filter fun r : Route => decide (r.ident.dst = .port p ∧ 0 < r.level)).length

theorem openingsInto_concat (p : PortId) (rs : List Route) (r : Route) : openingsInto p (rs ++ [r]) =
    openingsInto p rs + if r.ident.dst = .port p ∧ 0 < r.level then 1 else 0 := by
  rw [openingsInto, openingsInto, List.filter_append, List.length_append, List.filter_cons, List.filter_nil]
  by_cases h : r.ident.dst = .port p ∧ 0 < r.level
  · rw [if_pos (decide_eq_true h), if_pos h]; rfl
  · rw [if_neg fun hit => h (of_decide_eq_true hit), if_neg h]; rfl

theorem withOpenings_zero (u : State) (p : PortId) : u.withOpenings p 0 = u.gov.records[p] :=
  if_neg fun h => absurd h.2.2 (Nat.lt_irrefl 0)

/-- R158: one more opening, saturating. -/
theorem withOpenings_succ {u : State} {p : PortId} (governed : u.ports[p].kind = .panel ∨ u.ports[p].kind = .earpiece)
    (on : u.gov.config.mode ≠ .off) (n : Nat) : u.withOpenings p (n + 1) =
      { u.withOpenings p n with openings := min Config.countMax ((u.withOpenings p n).openings + 1) } := by
  rw [State.withOpenings, if_pos ⟨governed, on, Nat.succ_pos n⟩]
  cases n with
  | zero => rw [withOpenings_zero]; rfl
  | succ n =>
      have count : min Config.countMax (min 65535 (u.gov.records[p].openings + (n + 1)) + 1) =
          min 65535 (u.gov.records[p].openings + (n + 1 + 1)) := by
        simp only [Config.countMax]; omega
      rw [State.withOpenings, if_pos ⟨governed, on, Nat.succ_pos n⟩]
      dsimp only
      rw [count]

theorem withOpenings_of_uncounted {u : State} {p : PortId}
    (h : ¬ ((u.ports[p].kind = .panel ∨ u.ports[p].kind = .earpiece) ∧ u.gov.config.mode ≠ .off)) (n : Nat) :
    u.withOpenings p n = u.gov.records[p] := if_neg fun all => h ⟨all.1, all.2.1⟩

/-! ## Opening the active set -/

/-- `u` with the routes `rs` opened in an empty path table. -/
def withRoutes (u : State) (rs : List Route) : State :=
  { u with
    paths := routePaths rs
    gov := { u.gov with records := tableOf fun p : PortId => u.withOpenings p (openingsInto p rs) } }

theorem withRoutes_record (u : State) (rs : List Route) (p : PortId) :
    (withRoutes u rs).gov.records[p] = u.withOpenings p (openingsInto p rs) := tableOf_get _ p

/-- A state that has the protection records of one more route. -/
theorem withRoutes_eq_of_records {u : State} {rs : List Route} {paths : List Path} {records : Vector Protection 48}
    (h : ∀ p : PortId, records[p] = u.withOpenings p (openingsInto p rs)) :
    { u with paths := paths, gov := { u.gov with records := records } } = { withRoutes u rs with paths := paths } := by
  have same : records = (withRoutes u rs).gov.records :=
    Vector.ext fun i hi => (h ⟨i, hi⟩).trans (withRoutes_record u rs ⟨i, hi⟩).symm
  rw [same]
  rfl

/-- R35, R158: the opening that a route of this level brings about. -/
theorem openingIfRaised_withRoutes {u : State} (run : u.mode = .run) (rs : List Route) (r : Route) (paths : List Path) :
    ({ withRoutes u rs with paths := paths }).openingIfRaised 0 r.level r.ident.dst =
      { withRoutes u (rs ++ [r]) with paths := paths } := by
  have other (p : PortId) (h : ¬ (r.ident.dst = .port p ∧ 0 < r.level)) :
      (withRoutes u rs).gov.records[p] = u.withOpenings p (openingsInto p (rs ++ [r])) := by
    rw [withRoutes_record, openingsInto_concat, if_neg h, Nat.add_zero]
  unfold State.openingIfRaised
  by_cases raised : 0 < r.level
  · rw [if_pos ⟨rfl, raised⟩]
    unfold State.reportOpening
    cases dst : r.ident.dst with
    | bus b => exact withRoutes_eq_of_records (u := u) (rs := rs ++ [r]) fun p => other p (by rw [dst]; rintro ⟨⟨⟩, -⟩)
    | port q =>
        have into : openingsInto q (rs ++ [r]) = openingsInto q rs + 1 := by
          rw [openingsInto_concat, if_pos ⟨dst, raised⟩]
        have elsewhere (p : PortId) (h : q ≠ p) := other p (by rw [dst]; rintro ⟨⟨⟩, -⟩; exact h rfl)
        dsimp only
        split
        · rename_i counted
          simp only [Bool.and_eq_true, PortKind.governed_iff, decide_eq_true_eq] at counted
          refine withRoutes_eq_of_records (u := u) (rs := rs ++ [r]) fun p => ?_
          rw [tableSet_get]
          split
          · rename_i same
            subst same
            rw [into, withOpenings_succ (u := u) counted.1.1 counted.1.2]
            exact congrArg (fun v : Protection => { v with openings := min Config.countMax (v.openings + 1) })
              (withRoutes_record u rs q)
          · rename_i differs
            exact elsewhere p differs
        · rename_i uncounted
          simp only [Bool.and_eq_true, PortKind.governed_iff, decide_eq_true_eq] at uncounted
          refine withRoutes_eq_of_records (u := u) (rs := rs ++ [r]) fun p => ?_
          by_cases same : q = p
          · subst same
            have off := fun n => withOpenings_of_uncounted (u := u) (fun h => uncounted ⟨h, run⟩) n
            exact (withRoutes_record u rs q).trans ((off _).trans (off _).symm)
          · exact elsewhere p same
  · rw [if_neg fun h => raised h.2]
    exact withRoutes_eq_of_records (u := u) (rs := rs ++ [r]) fun p => other p fun h => raised h.2

/-- R21: the level of the route of an identity. -/
theorem routeLevel_of_mem {u : State} {r : Route} (mem : r ∈ u.routes.active) (distinct : (u.routes.active.map Route.ident).Nodup) :
    u.routeLevel r.ident = r.level := by
  have found : u.routes.active.find? (fun x : Route => decide (x.ident = r.ident)) = some r :=
    find?_of_unique mem (decide_eq_true rfl) fun x there same =>
      List.inj_on_of_nodup_map distinct there mem (of_decide_eq_true same)
  rw [State.routeLevel, found]

/-- R24, R41: one more route opened, where its identity is new and there is room. -/
theorem addHolder_withRoutes {u : State} (run : u.mode = .run) {rs : List Route} {r : Route}
    (level : u.routeLevel r.ident = r.level) (fresh : ∀ x ∈ rs, x.ident ≠ r.ident) (few : rs.length < 512)
    (into : (rs.filter fun x : Route => decide (x.ident.dst = r.ident.dst)).length < 32) :
    ((withRoutes u rs).addHolder r.ident .route false).1 = withRoutes u (rs ++ [r]) := by
  have absent : (withRoutes u rs).findPath r.ident = none := by
    refine List.find?_eq_none.2 fun q mem same => ?_
    obtain ⟨-, x, there, ident⟩ := mem_routePaths mem
    exact fresh x there (ident.symm.trans (of_decide_eq_true same))
  have room : (withRoutes u rs).roomForNew r.ident = true := by
    have length : (routePaths rs).length = rs.length := List.length_mapIdx
    have dests : ((routePaths rs).filter fun q : Path => decide (q.ident.dst = r.ident.dst)).length =
        (rs.filter fun x : Route => decide (x.ident.dst = r.ident.dst)).length := by
      have same := congrArg (fun ids => (ids.filter fun id : PathId => decide (id.dst = r.ident.dst)).length) (routePaths_idents rs)
      simpa only [List.filter_map, List.length_map, Function.comp_def] using same
    rw [State.roomForNew, Bool.and_eq_true, decide_eq_true_eq, decide_eq_true_eq]
    exact ⟨length.trans_lt few, dests.trans_lt into⟩
  have target : (withRoutes u rs).wantedTarget (Path.fresh rs.length r.ident .route false) = r.level := by
    exact (Nat.max_eq_right (Nat.zero_le _)).trans level
  have last : insertByPos (routePath rs.length r) (routePaths rs) = routePaths (rs ++ [r]) := by
    rw [routePaths_concat]
    exact insertByPos_last fun q mem => (mem_routePaths mem).1
  rw [State.addHolder, absent]
  dsimp only
  rw [if_pos room, State.createPath]
  dsimp only
  rw [show (withRoutes u rs).paths = routePaths rs from rfl, lowestFree_routePaths, target]
  refine (openingIfRaised_withRoutes run rs r _).trans ?_
  exact congrArg (fun paths => { withRoutes u (rs ++ [r]) with paths := paths }) last

/-- R41, R173: the active set opened in order in an empty path table. -/
theorem foldl_addHolder_withRoutes {u : State} (run : u.mode = .run) (few : u.routes.active.length ≤ 256)
    (distinct : (u.routes.active.map Route.ident).Nodup)
    (into : ∀ d, (u.routes.active.filter fun r : Route => decide (r.ident.dst = d)).length ≤ 32)
    {later : List Route} (rs : List Route) (all : u.routes.active = rs ++ later) :
    later.foldl (fun s r => (s.addHolder r.ident .route false).1) (withRoutes u rs) = withRoutes u u.routes.active := by
  induction later generalizing rs with
  | nil => rw [all, List.append_nil]; rfl
  | cons r later ih =>
      have next : u.routes.active = (rs ++ [r]) ++ later := by rw [all, List.append_assoc]; rfl
      have level : u.routeLevel r.ident = r.level := routeLevel_of_mem (by rw [all]; simp) distinct
      have fresh : ∀ x ∈ rs, x.ident ≠ r.ident := by
        rw [all, List.map_append, List.map_cons, List.nodup_append] at distinct
        exact fun x mem => distinct.2.2 _ (List.mem_map_of_mem mem) _ List.mem_cons_self
      have short : rs.length < 512 := by
        have := congrArg List.length all
        rw [List.length_append] at this
        omega
      have room : (rs.filter fun x : Route => decide (x.ident.dst = r.ident.dst)).length < 32 := by
        have limit := into r.ident.dst
        rw [all, List.filter_append, List.length_append, List.filter_cons_of_pos (by simp), List.length_cons] at limit
        omega
      rw [List.foldl_cons, addHolder_withRoutes run level fresh short room]
      exact ih (rs ++ [r]) next

theorem withRoutes_nil {u : State} (empty : u.paths = []) : withRoutes u [] = u := by
  have records : (tableOf fun p : PortId => u.withOpenings p (openingsInto p [])) = u.gov.records :=
    (congrArg tableOf (funext fun p => withOpenings_zero u p)).trans (tableOf_self _)
  rw [withRoutes, records, show routePaths [] = u.paths from empty.symm]

/-! ## START -/

/-- R15, R53: the state that START opens the routes in. -/
def started (u : State) : State :=
  { u with
    mode := .run
    blockCount := 0
    lanes := { u.lanes with outBlock := none }
    mix := { gains := u.startGains, clips := Vector.replicate 48 0 }
    rx := { u.rx with unmatched := 0 }
    tx := { u.tx with outSeq := Vector.replicate 8 0 } }

/-- R41, R173: START where the active set fits the path table. -/
theorem startRun_eq {u : State} (empty : u.paths = []) (few : u.routes.active.length ≤ 256)
    (distinct : (u.routes.active.map Route.ident).Nodup)
    (into : ∀ d, (u.routes.active.filter fun r : Route => decide (r.ident.dst = d)).length ≤ 32) :
    u.startRun = withRoutes (started u) u.routes.active := by
  have opened := foldl_addHolder_withRoutes (u := started u) rfl few distinct into [] rfl
  rwa [withRoutes_nil (u := started u) empty] at opened

/-- R53: the gains that START makes. -/
theorem startGains_get (u : State) (p : PortId) : u.startGains[p] =
    if u.ports[p].kind = .panel ∨ u.ports[p].kind = .earpiece ∨ u.ports[p].kind = .field then
      let gain := min ((u.ports[p].trim).getD 4096) (u.capOf p)
      some ⟨gain, gain, 8⟩
    else none := by
  rw [State.startGains, tableOf_get]
  exact if_congr (PortKind.hasOutput_iff _) rfl rfl

/-- R15: START answers the mode and the block count of the state it leaves. -/
theorem start_accepted {s u t : State} (tag : Byte) (takes : s.takesRequests) (opened : s.opened = u)
    (config : u.mode = .config → u.startRun = t) (run : u.mode = .run → u = t) : AcceptedWith (.start tag) s t t.modeFields := by
  refine AcceptedWith.of takes rfl rfl rfl ?_
  rw [opened]
  dsimp only
  split
  · rename_i mode; rw [config mode]
  · rename_i mode; rw [← run mode]

/-- Settles O55: the frame holds for any active set; the paths, by induction along a set that fits the table. -/
theorem startEntersRun : Obligations.StartEntersRun := by
  unfold Obligations.StartEntersRun
  intro s tag takes u opened
  have sameMode : u.mode = s.mode := opened ▸ s.opened_outside.2.1
  constructor
  · intro run
    rw [← sameMode] at run
    have accepted := start_accepted (t := u) tag takes opened (fun config => by rw [run] at config; cases config) fun _ => rfl
    rw [State.modeFields, run] at accepted
    exact accepted
  · intro config
    rw [← sameMode] at config
    have accepted := start_accepted (t := u.startRun) tag takes opened (fun _ => rfl)
      fun run => by rw [config] at run; cases run
    obtain ⟨paths, records, eq, levels⟩ := openRoutes_onlyOpens (started u)
    have startEq : u.startRun = { started u with paths := paths, gov := { u.gov with records := records } } := eq
    refine ⟨u.startRun, ?_, ?_⟩
    · rw [State.modeFields, startEq] at accepted
      rw [startEq]
      exact accepted
    · refine ⟨by rw [startEq]; rfl, by rw [startEq]; rfl, by rw [startEq]; rfl, ?_, by rw [startEq]; rfl, by rw [startEq]; rfl,
        by rw [startEq]; rfl, by rw [startEq]; rfl, by rw [startEq]; rfl, by rw [startEq]; rfl, by rw [startEq]; rfl,
        by rw [startEq]; rfl, by rw [startEq]; rfl, by rw [startEq], ?_, ?_⟩
      · intro p
        rw [startEq]
        exact ⟨Vector.getElem_replicate .., startGains_get u p⟩
      · intro p
        rw [startEq]
        exact levels p
      · intro empty few distinct into
        rw [startRun_eq empty few distinct into]
        exact ⟨rfl, rfl, fun p => withRoutes_record (started u) u.routes.active p⟩

end Sys2Proof.Proofs
end

section
/-! PROOFS. STOP (1.5, 2.7, 3.7, 4.7, 5.8, 6.6, 7.11, 8.7, 9.7, 10.4). -/

namespace Sys2Proof.Proofs

open Sys2Proof.Machine

/-! ## The notices of a table -/

theorem tableRows_eq {α : Type} {n : Nat} (v : Vector α n) : tableRows v = (List.finRange n).map fun i => (i, v[i]) :=
  List.ext_getElem (by simp [tableRows]) fun i h h' => by simp [tableRows]

/-- The notices that the records of a table that meet a test bring about. -/
theorem tableRows_notices {α : Type} {n : Nat} (v : Vector α n) (f : Fin n × α → Bool) (g : Fin n → Notice) :
    (((tableRows v).filter f).map fun r => g r.1) = ((List.finRange n).filter fun i => f (i, v[i])).map g := by
  rw [tableRows_eq, List.filter_map, List.map_map]
  rfl

/-- R80: the KEY notices of STOP. -/
def stopKeyNotices (keys : Vector KeyRecord 256) : List Notice :=
  ((List.finRange 256).filter fun k : KeyId => decide (keys[k].activation ≠ .idle ∨ keys[k].delivered = true)).map Notice.key

/-- R115: the EARPIECE notices of STOP. -/
def stopEarNotices (ears : Vector (Option Ear) 48) : List Notice :=
  ((List.finRange 48).filter fun p : PortId => decide ((ears[p]).elim [] Ear.entries ≠ [])).map Notice.earpiece

/-- R137, R140: the LINK notices of STOP. -/
def stopLinkNotices (channels : Vector Machine.Channel 8) : List Notice :=
  ((List.finRange 8).filter fun c : ChanId => decide (channels[c].state ≠ .closed ∧
    (channels[c].state ≠ .waiting ∨ channels[c].degraded = true ∨ channels[c].excess = true))).map Notice.link

/-- R152, R153: the CHECK notices of STOP at block count `n`. -/
def stopCheckNotices (n : BlockCount) (checks : Vector Check 8) : List Notice :=
  ((List.finRange 8).filter fun c : ChanId => decide (checks[c].state = .running)).map fun c =>
    let k := checks[c]
    Notice.check ⟨c, .stopped, none, k.duration, k.startBlock, k.sent, k.matched, k.mismatched, k.lastDelay, k.maxDelay, n⟩

/-- R162, R165: the PROTECT notices of STOP. -/
def stopProtectNotices (ports : Vector PortRecord 48) (records : Vector Protection 48) : List Notice :=
  ((List.finRange 48).filter fun p : PortId => decide ((ports[p].kind = .panel ∨ ports[p].kind = .earpiece) ∧
    records[p].level ≠ 0)).map Notice.protect

/-- R173, R174: the SWAP notice of STOP at block count `n`. -/
def stopSwapNotices (n : BlockCount) (routes : RouteStore) : List Notice :=
  if routes.swapPending then [.swap .abandoned n routes.standby.length none none] else []

/-! ## The blocks one by one -/

theorem stopKeys_eq (s : State) : s.stopKeys =
    { s with keys := tableMap KeyRecord.stop s.keys, link := reported (stopKeyNotices s.keys) s.link } := by
  have test : (fun k : KeyId => (s.keys[k]).changedByStop) =
      fun k : KeyId => decide (s.keys[k].activation ≠ .idle ∨ s.keys[k].delivered = true) :=
    funext fun k => by rw [KeyRecord.changedByStop, Bool.decide_or, Bool.decide_eq_true]
  rw [State.stopKeys, reportAll_eq, tableRows_notices s.keys (fun r => r.2.changedByStop) Notice.key, stopKeyNotices, ← test]

theorem earOccupied_eq (e : Option Ear) : earOccupied e = decide (e.elim [] Ear.entries ≠ []) := by
  cases e with
  | none => rfl
  | some e => cases h : e.entries <;> simp [earOccupied, h]

theorem stopEars_eq (s : State) : s.stopEars =
    { s with
      ears := tableMap (Option.map fun _ => Ear.empty) s.ears
      link := reported (stopEarNotices s.ears) s.link } := by
  rw [State.stopEars, reportAll_eq, tableRows_notices s.ears (fun r => earOccupied r.2) Notice.earpiece, stopEarNotices]
  simp only [earOccupied_eq]

/-- R140: a channel's record after STOP. -/
def afterStop (c : Machine.Channel) : Machine.Channel := if c.state = .closed then c else c.restart

theorem linkChanged_afterStop (c : Machine.Channel) : linkChanged c (afterStop c) =
    decide (c.state ≠ .closed ∧ (c.state ≠ .waiting ∨ c.degraded = true ∨ c.excess = true)) := by
  unfold afterStop
  by_cases closed : c.state = .closed
  · rw [if_pos closed, linkChanged_self, decide_eq_false fun h => h.1 closed]
  · have fields : c.restart.state = .waiting ∧ c.restart.degraded = false ∧ c.restart.excess = false := ⟨rfl, rfl, rfl⟩
    rw [if_neg closed, linkChanged, fields.1, fields.2.1, fields.2.2]
    by_cases waiting : c.state = .waiting <;> cases c.degraded <;> cases c.excess <;> simp [waiting, closed]

theorem stopChannels_eq (s : State) : s.stopChannels =
    { s with
      rx := { s.rx with channels := tableOf fun c : ChanId => afterStop s.rx.channels[c] }
      link := reported (stopLinkNotices s.rx.channels) s.link } := by
  have step : (fun (s : State) (ch : ChanId) => if s.rx.channels[ch].state = .closed then s else s.putChannel ch s.rx.channels[ch].restart) =
      fun s ch => stepChannel afterStop (fun _ k => k) (fun ch c _ => if linkChanged c (afterStop c) then [.link ch] else []) ch s := by
    funext s ch
    rw [← putChannel_eq_stepChannel, afterStop]
    split
    · exact (putChannel_self ch s).symm
    · rfl
  rw [State.stopChannels, step, foldl_channels, flatMap_ite_singleton, tableOf_self, stopLinkNotices]
  simp only [linkChanged_afterStop]

/-- R152: a check after STOP. -/
def checkAfterStop (k : Check) : Check := if k.state = .running then { k with state := .stopped, reason := none } else k

theorem abortCheck_eq_stepChannel (n : BlockCount) (ch : ChanId) (s : State) : s.abortCheck ch .stopped none n =
    stepChannel id (fun _ => checkAfterStop)
      (fun ch _ k => if decide (k.state = .running) then [.check ((checkAfterStop k).report ch n)] else []) ch s := by
  rw [State.abortCheck, stepChannel, checkAfterStop]
  by_cases running : s.checks[ch].state = .running
  · rw [if_pos running, decide_eq_true running, id, tableSet_getElem_self, if_pos running]
    rfl
  · rw [if_neg running, decide_eq_false running, id, tableSet_getElem_self, if_neg running, tableSet_getElem_self]
    rfl

theorem stopChecks_eq (s : State) : s.stopChecks =
    { s with
      checks := tableOf fun c : ChanId => checkAfterStop s.checks[c]
      link := reported (stopCheckNotices s.blockCount s.checks) s.link } := by
  have fixed (chs : List ChanId) (s t : State) (same : t.blockCount = s.blockCount) :
      chs.foldl (fun s ch => s.abortCheck ch .stopped none s.blockCount) t =
        chs.foldl (fun t ch => t.abortCheck ch .stopped none s.blockCount) t := by
    induction chs generalizing t with
    | nil => rfl
    | cons ch chs ih =>
        rw [List.foldl_cons, List.foldl_cons, same, ih]
        rw [abortCheck_eq_stepChannel]
        exact same
  have step : (fun (t : State) ch => t.abortCheck ch .stopped none s.blockCount) = fun t ch => stepChannel id (fun _ => checkAfterStop)
      (fun ch _ k => if decide (k.state = .running) then [.check ((checkAfterStop k).report ch s.blockCount)] else []) ch t :=
    funext fun t => funext fun ch => abortCheck_eq_stepChannel s.blockCount ch t
  have notices : ((List.finRange 8).flatMap fun c : ChanId => if decide (s.checks[c].state = .running) then
      [Notice.check ((checkAfterStop s.checks[c]).report c s.blockCount)] else []) = stopCheckNotices s.blockCount s.checks := by
    rw [flatMap_ite_singleton (List.finRange 8) (fun c : ChanId => decide (s.checks[c].state = .running))
      fun c => Notice.check ((checkAfterStop s.checks[c]).report c s.blockCount), stopCheckNotices]
    refine List.map_congr_left fun c mem => ?_
    have running : s.checks[c].state = .running := of_decide_eq_true (List.mem_filter.1 mem).2
    rw [checkAfterStop, if_pos running]
    rfl
  rw [State.stopChecks, fixed _ s s rfl, step, foldl_channels, notices]
  simp only [id, tableOf_self]

theorem stopGovernor_eq (s : State) : s.stopGovernor =
    { s with
      gov := { s.gov with records := Vector.replicate 48 Protection.reset, windowDue := false }
      link := reported (stopProtectNotices s.ports s.gov.records) s.link } := by
  have test : (fun p : PortId => s.ports[p].kind.governed && decide (s.gov.records[p].level ≠ 0)) = fun p : PortId =>
      decide ((s.ports[p].kind = .panel ∨ s.ports[p].kind = .earpiece) ∧ s.gov.records[p].level ≠ 0) :=
    funext fun p => by
      rw [Bool.eq_iff_iff, Bool.and_eq_true, PortKind.governed_iff, decide_eq_true_eq, decide_eq_true_eq]
  rw [State.stopGovernor, reportAll_eq, tableRows_notices s.gov.records
    (fun r => s.ports[r.1].kind.governed && decide (r.2.level ≠ 0)) Notice.protect, stopProtectNotices, ← test]

theorem abandonSwap_eq (s : State) : s.abandonSwap =
    { s with
      routes := { s.routes with
        swapPending := false, judgementDue := if s.routes.swapPending then false else s.routes.judgementDue }
      link := reported (stopSwapNotices s.blockCount s.routes) s.link } := by
  unfold State.abandonSwap stopSwapNotices
  cases pending : s.routes.swapPending with
  | true => rfl
  | false =>
      have same : ({ s.routes with swapPending := false } : RouteStore) = s.routes := by rw [← pending]
      simp only [Bool.false_eq_true, if_false, same, reported_nil]

/-! ## STOP -/

/-- R16: every notice of STOP, the kinds in the order of R16's list (log 14). -/
def stopNotices (u : State) : List Notice :=
  stopKeyNotices u.keys ++ stopEarNotices u.ears ++ stopLinkNotices u.rx.channels ++ stopCheckNotices u.blockCount u.checks ++
    stopProtectNotices u.ports u.gov.records ++ stopSwapNotices u.blockCount u.routes

theorem reported_stopNotices (u : State) (l : ControlLink) : reported (stopNotices u) l =
    reported (stopSwapNotices u.blockCount u.routes) (reported (stopProtectNotices u.ports u.gov.records)
      (reported (stopCheckNotices u.blockCount u.checks) (reported (stopLinkNotices u.rx.channels)
        (reported (stopEarNotices u.ears) (reported (stopKeyNotices u.keys) l))))) := by
  generalize hk : stopKeyNotices u.keys = keys
  generalize he : stopEarNotices u.ears = ears
  rw [stopNotices, hk, he]
  exact (reported_append _ _ _).trans <| congrArg _ <| (reported_append _ _ _).trans <| congrArg _ <|
    (reported_append _ _ _).trans <| congrArg _ <| (reported_append _ _ _).trans <| congrArg _ <| reported_append _ _ _

/-- R16: what STOP leaves of a state in RUN. -/
def stopped (u : State) : State :=
  { u with
    mode := .config
    paths := []
    groups := tableMap GroupRecord.stop u.groups
    lanes := { u.lanes with outBlock := none }
    mix := Mix.reset
    tx := u.tx.stop
    keys := tableMap KeyRecord.stop u.keys
    ears := tableMap (Option.map fun _ => Ear.empty) u.ears
    rx := { u.rx with channels := tableOf fun c : ChanId => afterStop u.rx.channels[c] }
    checks := tableOf fun c : ChanId => checkAfterStop u.checks[c]
    gov := { u.gov with records := Vector.replicate 48 Protection.reset, windowDue := false }
    routes := { u.routes with
      swapPending := false, judgementDue := if u.routes.swapPending then false else u.routes.judgementDue }
    link := reported (stopNotices u) u.link }

theorem stopRun_eq (u : State) : u.stopRun = stopped u := by
  unfold State.stopRun
  dsimp only
  -- each record update is reduced before the next, which would otherwise repeat it in every field
  rw [stopKeys_eq]; dsimp only
  rw [stopEars_eq]; dsimp only
  rw [stopChannels_eq]; dsimp only
  rw [stopChecks_eq]; dsimp only
  rw [stopGovernor_eq]; dsimp only
  rw [abandonSwap_eq, stopped, reported_stopNotices]

/-- R16: STOP answers the mode and the block count of the state it leaves. -/
theorem stop_accepted {s u t : State} (tag : Byte) (takes : s.takesRequests) (opened : s.opened = u)
    (run : u.mode = .run → u.stopRun = t) (config : u.mode = .config → u = t) : AcceptedWith (.stop tag) s t t.modeFields := by
  refine AcceptedWith.of takes rfl rfl rfl ?_
  rw [opened]
  dsimp only
  split
  · rename_i mode; rw [run mode]
  · rename_i mode; rw [← config mode]

/-- Settles O56: STOP block by block, the notices of each behind those of the blocks before it. -/
theorem stopEntersConfig : Obligations.StopEntersConfig := by
  unfold Obligations.StopEntersConfig
  intro s tag takes u opened notices
  have sameMode : u.mode = s.mode := opened ▸ s.opened_outside.2.1
  constructor
  · intro config
    rw [← sameMode] at config
    have accepted := stop_accepted (t := u) tag takes opened (fun run => by rw [config] at run; cases run) fun _ => rfl
    rw [State.modeFields, config] at accepted
    exact accepted
  · intro run
    rw [← sameMode] at run
    have accepted := stop_accepted (t := stopped u) tag takes opened (fun _ => stopRun_eq u)
      fun config => by rw [run] at config; cases config
    exact ⟨stopped u, accepted, rfl, rfl, rfl, rfl, rfl, rfl, fun k => tableMap_get _ _ k, fun g => tableMap_get _ _ g,
      fun p => tableMap_get _ _ p, fun c => tableOf_get _ c, rfl, rfl, rfl, fun c => tableOf_get _ c, rfl, rfl, rfl, rfl, rfl⟩

end Sys2Proof.Proofs
end

section
/-! PROOFS. Ramps and dips (2.2, 6.4). -/

namespace Sys2Proof.Proofs

open Sys2Proof.Machine

/-! ## The ramp of a path (R22, R23) -/

/-- R22: a path aimed at the target that it has is left as it is. -/
theorem path_aim_same {p : Path} {n : Nat} (h : n = p.target) : p.aim n = p := if_pos h

/-- R22: another target restarts the ramp from the present level. -/
theorem path_aim_other {p : Path} {n : Nat} (h : n ≠ p.target) :
    p.aim n = { p with start := p.level, index := 0, target := n } := if_neg h

/-- R23: before its first block a ramp stands at its start. -/
theorem rampLevel_zero (e g : Nat) : rampLevel e g 0 = e := by simp [rampLevel]

/-- R23: a ramp's eighth block is at its target. -/
theorem rampLevel_eight (e g : Nat) : rampLevel e g 8 = g := by
  have whole : (((g : Int) - (e : Int)) * ((8 : Nat) : Int)).tdiv 8 = (g : Int) - (e : Int) :=
    Int.mul_tdiv_cancel _ (by decide)
  rw [rampLevel, whole]
  omega

/-- R23: the part of a rise or of a fall that `i` blocks make, its quotient truncated toward zero. -/
theorem rampPart_rise {e g : Nat} (up : e ≤ g) (i : Nat) :
    (((g : Int) - (e : Int)) * (i : Int)).tdiv 8 = (((g - e) * i / 8 : Nat) : Int) := by
  rw [← Int.natCast_sub up, ← Int.natCast_mul]
  exact Int.ofNat_tdiv _ _

theorem rampPart_fall {e g : Nat} (down : g ≤ e) (i : Nat) :
    (((g : Int) - (e : Int)) * (i : Int)).tdiv 8 = -(((e - g) * i / 8 : Nat) : Int) := by
  rw [← rampPart_rise down, ← Int.neg_tdiv, ← Int.neg_mul, Int.neg_sub]

/-- R23: up to eight blocks make no more than the whole. -/
theorem rampPart_le (n : Nat) {i : Nat} (h : i ≤ 8) : n * i / 8 ≤ n := by
  have : n * i ≤ n * 8 := Nat.mul_le_mul_left n h
  omega

/-- R23: the formula is never negative, so that the level is its value. -/
theorem rampLevel_eq (e g : Nat) {i : Nat} (h : i ≤ 8) :
    (rampLevel e g i : Int) = (e : Int) + (((g : Int) - (e : Int)) * (i : Int)).tdiv 8 := by
  rw [rampLevel]
  rcases Nat.le_total e g with up | down
  · rw [rampPart_rise up]; omega
  · have := rampPart_le (e - g) h
    rw [rampPart_fall down]; omega

/-- R23: a ramp stays between its ends. -/
theorem rampLevel_between (e g : Nat) {i : Nat} (h : i ≤ 8) :
    min e g ≤ rampLevel e g i ∧ rampLevel e g i ≤ max e g := by
  have level := rampLevel_eq e g h
  rcases Nat.le_total e g with up | down
  · have := rampPart_le (g - e) h
    rw [rampPart_rise up] at level; omega
  · have := rampPart_le (e - g) h
    rw [rampPart_fall down] at level; omega

/-- R22: aiming leaves the present level. -/
theorem path_aim_level (p : Path) (n : Nat) : (p.aim n).level = p.level := by
  by_cases h : n = p.target
  · rw [path_aim_same h]
  · rw [path_aim_other h]
    exact rampLevel_zero _ _

/-- R23: the ramp index after `n` more blocks. -/
theorem path_advance_iterate (n : Nat) (p : Path) : ∃ spent,
    Path.advance^[n + 1] p = { p with index := min 8 (p.index + (n + 1)), spent := spent } := by
  induction n with
  | zero => exact ⟨_, rfl⟩
  | succ n ih =>
      obtain ⟨spent, eq⟩ := ih
      have index : min 8 (min 8 (p.index + (n + 1)) + 1) = min 8 (p.index + (n + 1 + 1)) := by omega
      rw [Function.iterate_succ_apply', eq, Path.advance]
      dsimp only
      rw [index]
      exact ⟨_, rfl⟩

theorem path_level_after_eight (p : Path) : (Path.advance^[8] p).level = p.target := by
  obtain ⟨spent, eq⟩ := path_advance_iterate 7 p
  have index : min 8 (p.index + (7 + 1)) = 8 := by omega
  rw [eq, index]
  exact rampLevel_eight _ _

/-! ## The programme dip (R110) -/

theorem dip_aim_same {d : Dip} {n : Nat} (h : n = d.target) : d.aim n = d := if_pos h

theorem dip_aim_other {d : Dip} {n : Nat} (h : n ≠ d.target) : d.aim n = ⟨n, d.factor, 0⟩ := if_neg h

/-- R110: before its first block a dip stands at its start. -/
theorem dipFactor_zero (e g : Nat) : dipFactor e g 0 = e := by simp [dipFactor]

/-- R110: aiming leaves the present factor. -/
theorem dip_aim_factor (d : Dip) (n : Nat) : (d.aim n).factor = d.factor := by
  by_cases h : n = d.target
  · rw [dip_aim_same h]
  · rw [dip_aim_other h]
    exact dipFactor_zero _ _

theorem dip_advance_iterate (n : Nat) (d : Dip) : Dip.advance^[n + 1] d = { d with count := min 8 (d.count + (n + 1)) } := by
  induction n with
  | zero => rfl
  | succ n ih =>
      have count : min 8 (min 8 (d.count + (n + 1)) + 1) = min 8 (d.count + (n + 1 + 1)) := by omega
      rw [Function.iterate_succ_apply', ih, Dip.advance]
      dsimp only
      rw [count]

/-- R110: eight steps of 32 span the whole range of 256. -/
theorem dip_factor_after_eight {d : Dip} (start : d.start ≤ 256) (target : d.target ≤ 256) :
    (Dip.advance^[8] d).factor = d.target := by
  have count : min 8 (d.count + (7 + 1)) = 8 := by omega
  rw [dip_advance_iterate 7 d, count, Dip.factor, dipFactor, Config.dipStep]
  dsimp only
  split <;> omega

/-- R110: a dip stays between its ends. -/
theorem dip_factor_between (d : Dip) : min d.start d.target ≤ d.factor ∧ d.factor ≤ max d.start d.target := by
  rw [Dip.factor, dipFactor]
  split <;> omega

/-- R110: one block moves a dip by at most 32. -/
theorem dip_advance_factor {d : Dip} (h : d.count ≤ 8) : d.advance.factor ≤ d.factor + 32 ∧ d.factor ≤ d.advance.factor + 32 := by
  have count : d.advance.count = d.count ∨ d.advance.count = d.count + 1 := by
    rw [Dip.advance]
    dsimp only
    omega
  have step : d.advance.factor = dipFactor d.start d.target d.advance.count := rfl
  rw [step, Dip.factor, dipFactor, dipFactor, Config.dipStep]
  rcases count with count | count <;> rw [count] <;> split <;> omega

/-- Settles O44: the ramp's value at each index, and the index after eight blocks; the same for the dip. -/
theorem rampsAndDipsMoveByBlocks : Obligations.RampsAndDipsMoveByBlocks := by
  unfold Obligations.RampsAndDipsMoveByBlocks
  exact ⟨fun p n => ⟨path_aim_same, path_aim_other, path_aim_level p n⟩,
    fun e g i h => ⟨rampLevel_eq e g h, (rampLevel_between e g h).1, (rampLevel_between e g h).2, rampLevel_zero e g,
      rampLevel_eight e g⟩,
    path_level_after_eight, fun d n => ⟨dip_aim_same, dip_aim_other, dip_aim_factor d n⟩,
    fun _ => dip_factor_after_eight,
    fun d h => ⟨(dip_factor_between d).1, (dip_factor_between d).2, (dip_advance_factor h).1, (dip_advance_factor h).2⟩⟩

end Sys2Proof.Proofs
end

section
/-! PROOFS. Paths and waiters that leave (2.2, 4.4.1, 5.5.2). -/

namespace Sys2Proof.Proofs

open Sys2Proof.Machine

/-- A record written twice keeps the later value. -/
theorem tableSet_tableSet {α : Type} {n : Nat} (v : Vector α n) (i : Fin n) (x y : α) :
    tableSet (tableSet v i x) i y = tableSet v i y :=
  Vector.ext fun j hj => by simp only [tableSet_getElem]; split <;> rfl

theorem setKey_setKey (s : State) (k : KeyId) (r r' : KeyRecord) : (s.setKey k r).setKey k r' = s.setKey k r' := by
  rw [State.setKey, State.setKey, State.setKey, tableSet_tableSet]

/-- R30: the records that PATH_REMOVAL leaves. -/
theorem takeRemoval_eq (pos : Nat) (s : State) : s.takeRemoval pos =
    { s with paths := s.paths.filter fun p : Path => decide (p.spent = false ∨ p.pos ≠ pos) } := by
  have test : (fun p : Path => !(p.spent && decide (p.pos = pos))) = fun p => decide (p.spent = false ∨ p.pos ≠ pos) :=
    funext fun p => by cases p.spent <;> simp
  rw [State.takeRemoval, State.removeSpent, test]

theorem timeoutDue_iff (s : State) (g : GroupId) (k : KeyId) : s.timeoutDue g k = true ↔
    s.mode = .run ∧ k ∈ s.groups[g].waiters ∧ s.keys[k].deadline = some s.blockCount := by
  simp [State.timeoutDue, and_assoc]

/-- R75, R92: the waiter has left the queue, DENIED (TIMEOUT). -/
theorem timeOut_eq (g : GroupId) (k : KeyId) (s : State) : s.timeOut g k = State.report (.key k) { s with
    groups := s.groups.set g { s.groups[g] with waiters := s.groups[g].waiters.filter fun x => decide (x ≠ k) }
    keys := s.keys.set k { s.keys[k] with
      deadline := none, entries := s.keys[k].entries ++ [⟨none, .denied .timeout⟩] } } := by
  rw [State.timeOut, State.leaveQueue, State.appendEntry]
  dsimp only
  rw [setKey_setKey, State.setKey_keys, tableSet_self]
  rfl

theorem exec_waitTimeout {s : State} (high : s.rstnLow = false) (k : KeyId) :
    exec (.waitTimeout k) s = .next (s.takeTimeout k) := congrArg Host.Outcome.next (State.ownStep_of_high high _)

/-- R92: the wait of a key in the group that it aims at. -/
theorem takeTimeout_of_group {s : State} {k : KeyId} {g : GroupId} (target : s.keys[k].target = some (.group g)) :
    s.takeTimeout k = if s.timeoutDue g k then s.timeOut g k else s := by
  rw [State.takeTimeout, target]

theorem takeTimeout_of_noGroup {s : State} {k : KeyId} (target : ∀ g : GroupId, s.keys[k].target ≠ some (.group g)) :
    s.takeTimeout k = s := by
  rw [State.takeTimeout]
  split
  · rename_i g aims; exact absurd aims (target g)
  · rfl

/-- Settles O51: the removal and the timeout as record updates, each where it is due and where it is not. -/
theorem spentPathsAndLateWaitersLeave : Obligations.SpentPathsAndLateWaitersLeave := by
  unfold Obligations.SpentPathsAndLateWaitersLeave
  intro s high
  refine ⟨fun pos => ?_, fun k => ⟨fun g target => ⟨fun due => ?_, fun notDue => ?_⟩, fun target => ?_⟩⟩
  · rw [← takeRemoval_eq]
    exact congrArg Host.Outcome.next (State.ownStep_of_high high _)
  · rw [exec_waitTimeout high, takeTimeout_of_group target, if_pos ((timeoutDue_iff s g k).2 due), timeOut_eq]
  · rw [exec_waitTimeout high, takeTimeout_of_group target, if_neg fun due => notDue ((timeoutDue_iff s g k).1 due)]
  · rw [exec_waitTimeout high, takeTimeout_of_noGroup target]

end Sys2Proof.Proofs
end

section
/-! PROOFS. The path table's operations (2.1 to 2.4): positions, holders, and what each operation makes of a record. -/

namespace Sys2Proof.Proofs

open Sys2Proof.Machine

/-! ## Positions (R40) -/

theorem lowestFree_le (n : Nat) (ps : List Path) : lowestFree n ps ≤ n + ps.length := by
  induction ps generalizing n with
  | nil => exact Nat.le_refl _
  | cons p ps ih =>
      have := ih (n + 1)
      rw [lowestFree, List.length_cons]
      split <;> omega

theorem lowestFree_ge (n : Nat) (ps : List Path) : n ≤ lowestFree n ps := by
  induction ps generalizing n with
  | nil => exact Nat.le_refl _
  | cons p ps ih =>
      have := ih (n + 1)
      rw [lowestFree]
      split <;> omega

/-- R40: in a table in order of position the lowest free position is free, and every one below it is taken. -/
theorem lowestFree_spec {n : Nat} {ps : List Path} (sorted : ps.Pairwise fun a b => a.pos < b.pos) (from' : ∀ x ∈ ps, n ≤ x.pos) :
    (∀ x ∈ ps, x.pos ≠ lowestFree n ps) ∧ ∀ m, n ≤ m → m < lowestFree n ps → ∃ x ∈ ps, x.pos = m := by
  induction ps generalizing n with
  | nil => exact ⟨fun x mem => absurd mem List.not_mem_nil, fun m le lt => absurd (Nat.lt_of_le_of_lt le lt) (Nat.lt_irrefl _)⟩
  | cons p ps ih =>
      rw [List.pairwise_cons] at sorted
      obtain ⟨first, rest⟩ := sorted
      by_cases taken : p.pos = n
      · obtain ⟨free, below⟩ := ih rest (n := n + 1) fun x mem => by have := first x mem; omega
        have up := lowestFree_ge (n + 1) ps
        rw [lowestFree, if_pos taken]
        refine ⟨fun x mem => ?_, fun m le lt => ?_⟩
        · rcases List.mem_cons.1 mem with rfl | mem
          · omega
          · exact free x mem
        · rcases Nat.eq_or_lt_of_le le with rfl | le
          · exact ⟨p, List.mem_cons_self, taken⟩
          · obtain ⟨x, mem, pos⟩ := below m le lt
            exact ⟨x, List.mem_cons_of_mem _ mem, pos⟩
      · rw [lowestFree, if_neg taken]
        refine ⟨fun x mem => ?_, fun m le lt => by omega⟩
        have low := from' p List.mem_cons_self
        rcases List.mem_cons.1 mem with rfl | mem
        · exact taken
        · have := first x mem; omega

/-- The table with a new record holds that record and those it held. -/
theorem insertByPos_perm (q : Path) (ps : List Path) : (insertByPos q ps).Perm (q :: ps) := by
  induction ps with
  | nil => exact .refl _
  | cons p ps ih =>
      rw [insertByPos]
      split
      · exact .refl _
      · exact (ih.cons p).trans (.swap q p ps)

theorem mem_insertByPos {q x : Path} {ps : List Path} : x ∈ insertByPos q ps ↔ x = q ∨ x ∈ ps :=
  (insertByPos_perm q ps).mem_iff.trans List.mem_cons

/-- The records that meet a test which the new one does not meet, in their order. -/
theorem filter_insertByPos {f : Path → Bool} {q : Path} (miss : f q = false) (ps : List Path) :
    (insertByPos q ps).filter f = ps.filter f := by
  induction ps with
  | nil => rw [insertByPos, List.filter_cons, miss]; rfl
  | cons p ps ih =>
      rw [insertByPos]
      split
      · rw [List.filter_cons, miss]; rfl
      · rw [List.filter_cons, List.filter_cons, ih]

/-- R40: a record at a free position is put in order of position. -/
theorem insertByPos_sorted {q : Path} {ps : List Path} (sorted : ps.Pairwise fun a b => a.pos < b.pos)
    (free : ∀ x ∈ ps, x.pos ≠ q.pos) : (insertByPos q ps).Pairwise fun a b => a.pos < b.pos := by
  induction ps with
  | nil => exact List.pairwise_singleton _ _
  | cons p ps ih =>
      have differs := free p List.mem_cons_self
      rw [List.pairwise_cons] at sorted
      obtain ⟨first, rest⟩ := sorted
      rw [insertByPos]
      split
      · rename_i lt
        rw [List.pairwise_cons, List.pairwise_cons]
        refine ⟨fun x mem => ?_, first, rest⟩
        rcases List.mem_cons.1 mem with rfl | mem
        · exact lt
        · exact lt.trans (first x mem)
      · rw [List.pairwise_cons]
        refine ⟨fun x mem => ?_, ih rest fun x mem => free x (List.mem_cons_of_mem _ mem)⟩
        rcases mem_insertByPos.1 mem with rfl | mem
        · omega
        · exact first x mem

/-! ## Holders (R25) -/

theorem mem_insertKey {j k : KeyId} {ks : List KeyId} : j ∈ insertKey k ks ↔ j = k ∨ j ∈ ks := by
  induction ks with
  | nil => rw [insertKey, List.mem_singleton]; simp
  | cons x xs ih =>
      rw [insertKey]
      split
      · rw [List.mem_cons]
      · split
        · rename_i same; subst same; simp
        · rw [List.mem_cons, ih, List.mem_cons, or_left_comm]

theorem insertKey_sorted {k : KeyId} {ks : List KeyId} (h : ks.Pairwise (· < ·)) : (insertKey k ks).Pairwise (· < ·) := by
  induction ks with
  | nil => exact List.pairwise_singleton _ _
  | cons x xs ih =>
      rw [List.pairwise_cons] at h
      obtain ⟨first, rest⟩ := h
      rw [insertKey]
      split
      · rename_i lt
        rw [List.pairwise_cons, List.pairwise_cons]
        exact ⟨fun y mem => (List.mem_cons.1 mem).elim (fun e => e ▸ lt) fun mem => lt.trans (first y mem), first, rest⟩
      · split
        · exact List.pairwise_cons.2 ⟨first, rest⟩
        · rename_i ge ne
          rw [List.pairwise_cons]
          refine ⟨fun y mem => ?_, ih rest⟩
          rcases mem_insertKey.1 mem with rfl | mem
          · exact lt_of_le_of_ne (not_lt.1 ge) (Ne.symm ne)
          · exact first y mem

theorem foldl_max (n : Nat) (ns : List Nat) : ns.foldl max n = max n (ns.foldl max 0) := by
  induction ns generalizing n with
  | nil => simp
  | cons m ms ih => rw [List.foldl_cons, List.foldl_cons, ih, ih (max 0 m)]; omega

/-- R21: the largest level of a set that a key joins. -/
theorem foldl_max_insertKey (level : KeyId → Nat) (k : KeyId) (ks : List KeyId) :
    ((insertKey k ks).map level).foldl max 0 = max (level k) ((ks.map level).foldl max 0) := by
  induction ks with
  | nil => simp [insertKey]
  | cons x xs ih =>
      rw [insertKey]
      split
      · simp only [List.map_cons, List.foldl_cons, foldl_max (max _ _)]; omega
      · split
        · rename_i same; subst same
          simp only [List.map_cons, List.foldl_cons, foldl_max (max _ _)]; omega
        · simp only [List.map_cons, List.foldl_cons, foldl_max (max _ _), ih]; omega

/-! ## Targets (R21, R22) -/

theorem routeLevel_eq (s : State) (id : PathId) : s.routeLevel id =
    ((s.routes.active.find? fun x : Route => decide (x.ident = id)).map Route.level).getD 0 := by
  rw [State.routeLevel]
  cases s.routes.active.find? fun x : Route => decide (x.ident = id) <;> rfl

theorem wantedTarget_eq (s : State) (q : Path) : s.wantedTarget q = s.targetOf q := by
  rw [State.wantedTarget, State.targetOf, State.loudest, routeLevel_eq]
  simp only [Bool.or_eq_true]

theorem path_aim_eq (q : Path) (n : Nat) : q.aim n = q.retargeted n := rfl

/-- R21: the target level of a record depends on its holders and its flags, not on its ramp. -/
theorem targetOf_congr (s : State) {q q' : Path} (ident : q'.ident = q.ident) (keys : q'.keys = q.keys) (route : q'.route = q.route)
    (suspended : q'.suspended = q.suspended) (closing : q'.closing = q.closing) : s.targetOf q' = s.targetOf q := by
  rw [State.targetOf, State.targetOf, ident, keys, route, suspended, closing]

/-- R22: aiming a path changes its ramp alone. -/
theorem retargeted_keeps (q : Path) (n : Nat) : (q.retargeted n).pos = q.pos ∧ (q.retargeted n).ident = q.ident ∧
    (q.retargeted n).keys = q.keys ∧ (q.retargeted n).route = q.route ∧ (q.retargeted n).suspended = q.suspended ∧
    (q.retargeted n).closing = q.closing ∧ (q.retargeted n).spent = q.spent ∧ (q.retargeted n).target = n := by
  rw [Path.retargeted]
  split
  · rename_i same; exact ⟨rfl, rfl, rfl, rfl, rfl, rfl, rfl, same.symm⟩
  · exact ⟨rfl, rfl, rfl, rfl, rfl, rfl, rfl, rfl⟩

/-! ## Openings (R35, R158) -/

/-- R35, R158: in RUN an opening is counted in the governor and nowhere else. -/
theorem openingIfRaised_eq {s : State} (run : s.mode = .run) (before after : Nat) (d : Endpoint) :
    s.openingIfRaised before after d = { s with gov := s.counted d before after } := by
  have unchanged (p : PortId) : ({ s.gov with records := s.gov.records.set p s.gov.records[p] } : Governor) = s.gov := by
    rw [show s.gov.records.set p s.gov.records[p] = s.gov.records from tableSet_getElem_self s.gov.records p]
  unfold State.openingIfRaised State.counted
  by_cases raised : before = 0 ∧ 0 < after
  · rw [if_pos raised]
    unfold State.reportOpening
    cases d with
    | bus b => rfl
    | port p =>
        dsimp only
        rw [if_pos raised]
        split
        · rename_i counted
          simp only [Bool.and_eq_true, PortKind.governed_iff, decide_eq_true_eq] at counted
          rw [State.withOpenings, if_pos ⟨counted.1.1, counted.1.2, Nat.one_pos⟩]
          rfl
        · rename_i uncounted
          simp only [Bool.and_eq_true, PortKind.governed_iff, decide_eq_true_eq] at uncounted
          rw [withOpenings_of_uncounted fun h => uncounted ⟨h, run⟩, unchanged]
  · rw [if_neg raised]
    cases d with
    | bus b => rfl
    | port p =>
        dsimp only
        rw [if_neg raised, withOpenings_zero, unchanged]

theorem openingIfRaised_paths (before after : Nat) (d : Endpoint) (s : State) :
    (s.openingIfRaised before after d).paths = s.paths := by
  unfold State.openingIfRaised State.reportOpening
  split
  · split
    · rfl
    · split <;> rfl
  · rfl

/-! ## Records changed and records created -/

/-- The record that an operation `f` leaves of a record: its ramp aimed at what its holders and its flags now give. -/
def aimedAfter (s : State) (f : Path → Path) (p : Path) : Path := (f p).retargeted (s.targetOf (f p))

theorem touchPath_of_none {s : State} {id : PathId} (absent : s.findPath id = none) (f : Path → Path) :
    s.touchPath id f = s := by rw [State.touchPath, absent]

theorem touchPath_of_some {s : State} {id : PathId} {p : Path} (found : s.findPath id = some p) (f : Path → Path) :
    s.touchPath id f = ({ s with paths := s.paths.map fun r : Path => if r.ident = id then aimedAfter s f p else r }
      ).openingIfRaised p.target (aimedAfter s f p).target id.dst := by
  rw [State.touchPath, found]
  dsimp only
  rw [wantedTarget_eq, path_aim_eq]
  rfl

theorem findPath_some {s : State} {id : PathId} {p : Path} (found : s.findPath id = some p) : p ∈ s.paths ∧ p.ident = id :=
  by
  rw [State.findPath] at found
  have hit := List.find?_some found
  exact ⟨List.mem_of_find?_eq_some found, of_decide_eq_true hit⟩

theorem findPath_none {s : State} {id : PathId} : s.findPath id = none ↔ ∀ q ∈ s.paths, q.ident ≠ id := by
  rw [State.findPath, List.find?_eq_none]
  simp only [decide_eq_true_eq]

theorem findPath_of_unique {s : State} {id : PathId} {p : Path} (mem : p ∈ s.paths) (ident : p.ident = id)
    (only : ∀ x ∈ s.paths, x.ident = id → x = p) : s.findPath id = some p :=
  find?_of_unique mem (decide_eq_true ident) fun x there same => only x there (of_decide_eq_true same)

/-- R24: the record that is created for a holder. -/
def newPath (s : State) (id : PathId) (h : Holder) (asked : Bool) : Path :=
  { Path.fresh (lowestFree 0 s.paths) id h asked with target := s.targetOf (Path.fresh (lowestFree 0 s.paths) id h asked) }

theorem createPath_eq (id : PathId) (h : Holder) (asked : Bool) (s : State) : s.createPath id h asked =
    ({ s with paths := insertByPos (newPath s id h asked) s.paths }).openingIfRaised 0 (newPath s id h asked).target id.dst := by
  rw [State.createPath]
  dsimp only
  rw [wantedTarget_eq]
  rfl

theorem newPath_pos (s : State) (id : PathId) (h : Holder) (asked : Bool) :
    (newPath s id h asked).pos = lowestFree 0 s.paths := by cases h <;> rfl
theorem newPath_ident (s : State) (id : PathId) (h : Holder) (asked : Bool) : (newPath s id h asked).ident = id := by
  cases h <;> rfl

theorem roomForNew_iff (s : State) (id : PathId) : s.roomForNew id = true ↔
    s.paths.length < 512 ∧ (s.paths.filter fun p : Path => decide (p.ident.dst = id.dst)).length < 32 := by
  rw [State.roomForNew, Bool.and_eq_true, decide_eq_true_eq, decide_eq_true_eq]
  rfl

/-- R24 to R26: the ways in which a holder is added. -/
theorem addHolder_of_absent {s : State} {id : PathId} (absent : s.findPath id = none) (room : s.roomForNew id = true)
    (h : Holder) (asked : Bool) : s.addHolder id h asked = (s.createPath id h asked, true) := by
  rw [State.addHolder, absent]
  exact if_pos room

theorem addHolder_of_full {s : State} {id : PathId} (absent : s.findPath id = none) (full : s.roomForNew id = false)
    (h : Holder) (asked : Bool) : s.addHolder id h asked = (s, false) := by
  rw [State.addHolder, absent]
  exact if_neg (by rw [full]; decide)

theorem addHolder_of_closing {s : State} {id : PathId} {p : Path} (found : s.findPath id = some p) (closing : p.closing = true)
    (h : Holder) (asked : Bool) : s.addHolder id h asked = (s.touchPath id (Path.reopen h asked), true) := by
  rw [State.addHolder, found]
  exact if_pos closing

theorem addHolder_of_open {s : State} {id : PathId} {p : Path} (found : s.findPath id = some p) (isOpen : p.closing = false)
    (h : Holder) (asked : Bool) : s.addHolder id h asked = (s.touchPath id (Path.join h), true) := by
  rw [State.addHolder, found]
  exact if_neg (by rw [isOpen]; decide)

end Sys2Proof.Proofs
end

section
/-! PROOFS. PRESS of a key aimed at a PANEL or FIELD port or a bus (2.2, 4.3, 4.4). -/

namespace Sys2Proof.Proofs

open Sys2Proof.Machine

/-! ## The path of the key pressed (R24 to R26) -/

section
variable {v : State} {id : PathId} (k : KeyId)

/-- R24: a new record, held by the key alone. -/
theorem addKey_of_absent (run : v.mode = .run) (absent : v.findPath id = none) (room : v.roomForNew id = true) :
    v.addHolder id (.key k) false = ({ v with
      paths := insertByPos (newPath v id (.key k) false) v.paths
      gov := v.counted id.dst 0 (newPath v id (.key k) false).target }, true) := by
  rw [addHolder_of_absent absent room, createPath_eq]
  exact congrArg (·, true) (openingIfRaised_eq (s := { v with paths := insertByPos (newPath v id (.key k) false) v.paths }) run
    0 _ id.dst)

/-- R25, R26: the record there is changed by `f`. -/
theorem touchPath_of_run {p : Path} (run : v.mode = .run) (found : v.findPath id = some p) (f : Path → Path) :
    v.touchPath id f = { v with
      paths := v.paths.map fun r : Path => if r.ident = id then aimedAfter v f p else r
      gov := v.counted id.dst p.target (aimedAfter v f p).target } := by
  rw [touchPath_of_some found]
  exact openingIfRaised_eq
    (s := { v with paths := v.paths.map fun r : Path => if r.ident = id then aimedAfter v f p else r }) run _ _ id.dst

/-- R21: a path that the key alone holds has its level. -/
theorem targetOf_alone {q : Path} (keys : q.keys = [k]) (route : q.route = false) (suspended : q.suspended = false)
    (closing : q.closing = false) : v.targetOf q = v.keys[k].level := by
  rw [State.targetOf, if_neg (by simp [suspended, closing]), State.loudest, keys, route]
  simp

theorem newPath_alone : newPath v id (.key k) false =
    ⟨lowestFree 0 v.paths, id, [k], false, v.keys[k].level, 0, 0, false, false, false⟩ := by
  rw [newPath, targetOf_alone k rfl rfl rfl rfl]
  rfl

/-- R26: a closing record opened again for the key alone. -/
theorem aimedAfter_reopen (p : Path) : aimedAfter v (Path.reopen (.key k) false) p =
    Path.retargeted { p with keys := [k], route := false, closing := false, suspended := false, spent := false }
      v.keys[k].level := by
  rw [aimedAfter, targetOf_alone (q := Path.reopen (.key k) false p) k rfl rfl rfl rfl]
  rfl

/-- R25: a record that the key joins. -/
theorem aimedAfter_join {p : Path} (ident : p.ident = id) (isOpen : p.closing = false) :
    aimedAfter v (Path.join (.key k)) p = Path.retargeted { p with keys := insertKey k p.keys }
      (if p.suspended then 0 else max v.keys[k].level (v.loudest id p.keys p.route)) := by
  have largest : v.loudest id (insertKey k p.keys) p.route = max v.keys[k].level (v.loudest id p.keys p.route) := by
    rw [State.loudest, State.loudest, foldl_max_insertKey fun j => v.keys[j].level]
    omega
  rw [aimedAfter, Path.join, State.targetOf]
  dsimp only
  rw [ident, largest, isOpen]
  simp

end

/-! ## The key record and the notice -/

/-- R183: a change of a subject whose notice waits, where no READ is in progress, queues nothing more. -/
theorem report_twice {l : ControlLink} (idle : l.reading = none) (k : KeyId) :
    (l.report (.key k)).report (.key k) = l.report (.key k) := by
  have again (m : ControlLink) (quiet : m.reading = none) (done : m.enabled (.key k) = false ∨ Notice.key k ∈ m.notices) :
      m.report (.key k) = m := by
    rw [ControlLink.report]
    rcases done with off | waits
    · rw [if_pos (by rw [off]; rfl)]
    · split
      · rfl
      · rw [if_pos (by simp [Notice.isStateKind, waits]), ControlLink.isBeingSent, quiet]
        rfl
  by_cases off : l.enabled (.key k) = false
  · rw [again l idle (.inl off), again l idle (.inl off)]
  · by_cases waits : Notice.key k ∈ l.notices
    · rw [again l idle (.inr waits), again l idle (.inr waits)]
    · have first : l.report (.key k) = if 64 ≤ l.notices.length then { l with overflow := true }
          else { l with notices := l.notices ++ [.key k] } := by
        rw [ControlLink.report, if_neg (by simp [off]), if_neg (by simp [waits])]
        rfl
      rw [first]
      split
      · rename_i full
        have on : ({ l with overflow := true } : ControlLink).enabled (.key k) = l.enabled (.key k) := rfl
        rw [ControlLink.report, on, if_neg (by simp [off]), if_neg (by simp [waits])]
        exact if_pos full
      · exact again _ idle (.inr (by simp))

/-- R67, R69: the key record once the key has been activated and its delivery begun. -/
def pressedKey (r : KeyRecord) (a : Activation) (now : BlockCount) (entries : List DestEntry) : KeyRecord :=
  { r with activation := a, pressBlock := if r.mode = .smart then some now else none, delivered := true, entries := entries }

/-- R67, R69: the state in which the pressed key's path is looked for. -/
def pressing (u : State) (k : KeyId) (a : Activation) : State :=
  { u with keys := u.keys.set k (pressedKey u.keys[k] a u.blockCount []), link := u.link.report (.key k) }

/-- R65, R66: the activation that a press of an idle key leads to. -/
def pressActivation (m : KeyMode) : Activation := if m = .latch then .latched else .held

theorem pressTransition_idle (m : KeyMode) : pressTransition m .idle = some (pressActivation m, .deliver) := by cases m <;> rfl

theorem pressing_key (u : State) (k : KeyId) (a : Activation) :
    (pressing u k a).keys[k] = pressedKey u.keys[k] a u.blockCount [] := tableSet_self u.keys k _

theorem pressing_level (u : State) (k j : KeyId) (a : Activation) : (pressing u k a).keys[j].level = u.keys[j].level := by
  have read : (pressing u k a).keys[j] = _ := tableSet_get u.keys k j (pressedKey u.keys[k] a u.blockCount [])
  rw [read]
  split
  · rename_i same; subst same; rfl
  · rfl

theorem pressing_loudest (u : State) (k : KeyId) (a : Activation) (id : PathId) (ks : List KeyId) (route : Bool) :
    (pressing u k a).loudest id ks route = u.loudest id ks route := by
  rw [State.loudest, State.loudest]
  simp only [pressing_level]
  rfl

theorem pressing_counted (u : State) (k : KeyId) (a : Activation) (d : Endpoint) (before after : Nat) :
    (pressing u k a).counted d before after = u.counted d before after := by cases d <;> rfl

/-- 4.1.2: the target of a key that is aimed at a destination of its own. -/
def aimedAt (d : Endpoint) : Target := match d with | .port p => .port p | .bus b => .bus b

/-- R65 to R67, R69, R70: a press of an idle key aimed at a port that is no EARPIECE or at a bus. -/
theorem press_delivers {u : State} {k : KeyId} {o : PortId} {d : Endpoint} (idle : u.keys[k].activation = .idle)
    (owner : u.keys[k].owner = some o)
    (target : u.keys[k].target = some (aimedAt d))
    (plain : ∀ p, d = .port p → u.ports[p].kind ≠ .earpiece) :
    u.keyTransition k (State.pressOf u k) =
      (pressing u k (pressActivation u.keys[k].mode)).deliverPlain k d ⟨.port o, d, .talk⟩ := by
  have activated : (u.setActivation k (pressActivation u.keys[k].mode)).setKey k
      { (u.setActivation k (pressActivation u.keys[k].mode)).keys[k] with delivered := true, entries := [] } =
      pressing u k (pressActivation u.keys[k].mode) := by
    rw [State.setActivation]
    dsimp only
    rw [State.report_keys, State.setKey_keys, tableSet_self]
    have press : (if u.keys[k].mode = .smart ∧ pressActivation u.keys[k].mode = .held then some u.blockCount else none) =
        if u.keys[k].mode = .smart then some u.blockCount else none := by
      cases u.keys[k].mode <;> rfl
    rw [press, pressing, State.setKey, State.report_keys, State.setKey_keys, tableSet_tableSet]
    rfl
  have path : (pressing u k (pressActivation u.keys[k].mode)).keyPath k d = some ⟨.port o, d, .talk⟩ := by
    rw [State.keyPath, pressing_key, pressedKey]
    dsimp only
    rw [owner]
    rfl
  have aims : (pressing u k (pressActivation u.keys[k].mode)).keys[k].target = u.keys[k].target := by rw [pressing_key]; rfl
  rw [State.pressOf, idle, pressTransition_idle, State.keyTransition]
  dsimp only [State.keyAction]
  rw [State.deliver]
  dsimp only
  rw [activated, aims, target]
  cases d with
  | bus b =>
      change (pressing u k _).deliverTo k (.bus b) = _
      rw [State.deliverTo, path]
  | port p =>
      change (pressing u k _).deliverTo k (.port p) = _
      rw [State.deliverTo, path]
      exact if_neg (plain p rfl)

/-- R69, R70, R78: what the path table answers joins the delivery list; the KEY notice of the activation stands for both. -/
theorem deliverPlain_pressing {u : State} {k : KeyId} {d : Endpoint} {id : PathId} {a : Activation} (quiet : u.link.reading = none)
    {paths : List Path} {gov : Governor} {ok : Bool}
    (added : (pressing u k a).addHolder id (.key k) false = ({ pressing u k a with paths := paths, gov := gov }, ok)) :
    (pressing u k a).deliverPlain k d id = { u with
      keys := u.keys.set k (pressedKey u.keys[k] a u.blockCount [⟨some d, if ok then .live else .denied .noSpace⟩])
      paths := paths, gov := gov, link := u.link.report (.key k) } := by
  have key : ({ pressing u k a with paths := paths, gov := gov } : State).keys[k] = _ := pressing_key u k a
  have keys : tableSet (pressing u k a).keys k
      (pressedKey u.keys[k] a u.blockCount [⟨some d, if ok then .live else .denied .noSpace⟩]) = _ :=
    tableSet_tableSet u.keys k _ _
  have link : (pressing u k a).link.report (.key k) = u.link.report (.key k) := report_twice quiet k
  rw [State.deliverPlain, added]
  dsimp only
  rw [State.appendEntry, key]
  refine (rfl : _ = ({ u with
    keys := tableSet (pressing u k a).keys k _, paths := paths, gov := gov, link := (pressing u k a).link.report (.key k) } :
    State)).trans ?_
  rw [link]
  exact congrArg (fun keys => ({ u with keys := keys, paths := paths, gov := gov, link := u.link.report (.key k) } : State)) keys

/-! ## The answer -/

/-- R73: the delivery state of a key with one destination. -/
theorem delivery_of_one {r : KeyRecord} (noWait : r.deadline = none) (a : Activation) (now : BlockCount) (d : Endpoint) :
    (pressedKey r a now [⟨some d, .live⟩]).delivery.code = 1 ∧
      (pressedKey r a now [⟨some d, .denied .noSpace⟩]).delivery.code = 5 := by
  constructor <;> (rw [KeyRecord.delivery, pressedKey]; dsimp only; rw [noWait]; rfl)

/-- R64, R65: PRESS of an idle key aimed at `d`, by what the path table answers. -/
theorem press_accepted {s u : State} (tag : Byte) {k : KeyId} {o : PortId} {d : Endpoint} (opened : s.opened = u)
    (takes : s.takesRequests) (run : s.mode = .run) (free : ¬ u.callKeyNamed k) (idle : u.keys[k].activation = .idle)
    (owner : u.keys[k].owner = some o) (noWait : u.keys[k].deadline = none)
    (target : u.keys[k].target = some (aimedAt d))
    (plain : ∀ p, d = .port p → u.ports[p].kind ≠ .earpiece) {paths : List Path} {gov : Governor} {ok : Bool}
    (added : (pressing u k (pressActivation u.keys[k].mode)).addHolder ⟨.port o, d, .talk⟩ (.key k) false =
      ({ pressing u k (pressActivation u.keys[k].mode) with paths := paths, gov := gov }, ok)) :
    AcceptedWith (.press tag k.val) s { u with
      keys := u.keys.set k (pressedKey u.keys[k] (pressActivation u.keys[k].mode) u.blockCount
        [⟨some d, if ok then .live else .denied .noSpace⟩])
      paths := paths, gov := gov, link := u.link.report (.key k) }
      [.u8 (pressActivation u.keys[k].mode).code, .u8 (if ok then 1 else 5)] := by
  have quiet : u.link.reading = none := by rw [← opened, State.opened, State.openWrite_link]
  have defined : (!u.keys[k].defined || u.linkOwned k) = false := by
    rw [KeyRecord.defined, target, Bool.eq_false_iff.2 fun owned => free ((State.linkOwned_iff u k).1 owned)]
    rfl
  refine AcceptedWith.of takes rfl rfl (by rw [run]; rfl) ?_
  rw [opened, State.keyPressRequest, objectNumber_val]
  dsimp only
  rw [defined, if_neg Bool.false_ne_true, press_delivers idle owner target plain, deliverPlain_pressing quiet added]
  have key : ({ u with
      keys := u.keys.set k (pressedKey u.keys[k] (pressActivation u.keys[k].mode) u.blockCount
        [⟨some d, if ok then .live else .denied .noSpace⟩])
      paths := paths, gov := gov, link := u.link.report (.key k) } : State).keys[k] = _ := tableSet_self u.keys k _
  rw [State.keyStateFields, key]
  cases ok
  · simp only [Bool.false_eq_true, if_false, (delivery_of_one noWait _ _ d).2]; rfl
  · simp only [if_true, (delivery_of_one noWait _ _ d).1]; rfl

/-- Settles O23: the path table's four answers (a new record, no room, a closing record, any other), each put into the press. -/
theorem pressOpensAPath : Obligations.PressOpensAPath := by
  unfold Obligations.PressOpensAPath
  intro s tag k o d u opened r id a pressed live takes run free idle owner noWait target plain
  have running : (pressing u k a).mode = .run := (opened ▸ s.opened_outside.2.1.trans run : u.mode = .run)
  have accepted {paths : List Path} {gov : Governor} {ok : Bool} :=
    press_accepted tag opened takes run free idle owner noWait target plain (paths := paths) (gov := gov) (ok := ok)
  have level : (pressing u k a).keys[k].level = r.level := pressing_level u k k a
  refine ⟨fun absent => ?_, fun q mem ident only => ?_⟩
  · have notFound : (pressing u k a).findPath id = none := findPath_none.2 absent
    refine ⟨fun few into => ?_, fun full => ?_⟩
    · have added := addKey_of_absent k running notFound ((roomForNew_iff (pressing u k a) id).2 ⟨few, into⟩)
      rw [pressing_counted, newPath_alone, level] at added
      refine ⟨_, _, accepted added, mem_insertByPos.2 (.inl rfl), rfl, rfl, rfl, rfl, rfl, rfl, rfl, rfl, ?_, fun sorted => ?_⟩
      · rw [filter_insertByPos (by simp [id])]
        exact List.filter_eq_self.2 fun x there => by simpa using absent x there
      · obtain ⟨isFree, below⟩ := lowestFree_spec sorted (n := 0) fun x _ => Nat.zero_le _
        exact ⟨isFree, fun n lt => below n (Nat.zero_le n) lt⟩
    · have noRoom : (pressing u k a).roomForNew id = false :=
        Bool.eq_false_iff.2 fun room => by
          obtain ⟨few, into⟩ := (roomForNew_iff (pressing u k a) id).1 room
          exact full.elim (Nat.not_le_of_lt few) (Nat.not_le_of_lt into)
      exact accepted (addHolder_of_full notFound noRoom (.key k) false)
  · have found : (pressing u k a).findPath id = some q := findPath_of_unique mem ident only
    refine ⟨fun closing => ?_, fun isOpen => ⟨insertKey k q.keys, fun j => mem_insertKey, ?_⟩⟩
    · have added := addHolder_of_closing found closing (.key k) false
      rw [touchPath_of_run running found, aimedAfter_reopen, level, pressing_counted,
        (retargeted_keeps _ _).2.2.2.2.2.2.2] at added
      exact accepted added
    · have added := addHolder_of_open found isOpen (.key k) false
      rw [touchPath_of_run running found, aimedAfter_join k ident isOpen, level, pressing_loudest, pressing_counted,
        (retargeted_keeps _ _).2.2.2.2.2.2.2] at added
      exact accepted added

end Sys2Proof.Proofs
end

section
/-! PROOFS. What the elementary changes of delivery keep of the path table (2.1, 2.2): its order, its limits, the target levels. -/

namespace Sys2Proof.Proofs

open Sys2Proof.Machine

/-! ## The records after an operation -/

theorem touchPath_paths {s : State} {id : PathId} {p : Path} (found : s.findPath id = some p) (f : Path → Path) :
    (s.touchPath id f).paths = s.paths.map fun r : Path => if r.ident = id then aimedAfter s f p else r := by
  rw [touchPath_of_some found, openingIfRaised_paths]

/-- A record after an operation on the path `id` is one of another path, or what the operation made of that path's record. -/
theorem mem_touchPath {s : State} {id : PathId} {f : Path → Path} {x : Path} (mem : x ∈ (s.touchPath id f).paths) :
    (x ∈ s.paths ∧ x.ident ≠ id) ∨ ∃ p, s.findPath id = some p ∧ x = aimedAfter s f p := by
  cases found : s.findPath id with
  | none =>
      rw [touchPath_of_none found] at mem
      exact .inl ⟨mem, findPath_none.1 found x mem⟩
  | some p =>
      rw [touchPath_paths found] at mem
      obtain ⟨r, there, rfl⟩ := List.mem_map.1 mem
      split
      · exact .inr ⟨p, rfl, rfl⟩
      · rename_i other; exact .inl ⟨there, other⟩

theorem createPath_paths (id : PathId) (h : Holder) (asked : Bool) (s : State) :
    (s.createPath id h asked).paths = insertByPos (newPath s id h asked) s.paths := by
  rw [createPath_eq, openingIfRaised_paths]

theorem mem_createPath {s : State} {id : PathId} {h : Holder} {asked : Bool} {x : Path} :
    x ∈ (s.createPath id h asked).paths ↔ x = newPath s id h asked ∨ x ∈ s.paths := by
  rw [createPath_paths, mem_insertByPos]

/-! ## Order and limits (R19, R40) -/

/-- The order and the limits of a table are those of the positions and the identities of its records. -/
theorem pathTableWf_of_same {ps ps' : List Path}
    (same : ps'.map (fun q : Path => (q.pos, q.ident)) = ps.map fun q => (q.pos, q.ident)) (h : pathTableWf ps) :
    pathTableWf ps' := by
  obtain ⟨sorted, bounded, distinct, into⟩ := h
  have pairs (R : Nat × PathId → Nat × PathId → Prop) (all : ps.Pairwise fun a b => R (a.pos, a.ident) (b.pos, b.ident)) :
      ps'.Pairwise fun a b => R (a.pos, a.ident) (b.pos, b.ident) := by
    rw [← List.pairwise_map (f := fun q : Path => (q.pos, q.ident))] at all ⊢
    rwa [same]
  refine ⟨pairs (fun a b => a.1 < b.1) sorted, fun p mem => ?_, pairs (fun a b => a.2 ≠ b.2) distinct, fun d => ?_⟩
  · have there : (p.pos, p.ident) ∈ ps'.map fun q : Path => (q.pos, q.ident) := List.mem_map_of_mem mem
    rw [same] at there
    obtain ⟨q, mem', eq⟩ := List.mem_map.1 there
    rw [← (Prod.mk.inj eq).1]
    exact bounded q mem'
  · have count (qs : List Path) : (qs.filter fun p : Path => decide (p.ident.dst = d)).length =
        ((qs.map fun q : Path => (q.pos, q.ident)).filter fun x => decide (x.2.dst = d)).length := by
      rw [List.filter_map, List.length_map]
      rfl
    rw [count, same, ← count]
    exact into d

/-- R30: records that leave. -/
theorem pathTableWf_sublist {ps ps' : List Path} (sub : ps'.Sublist ps) (h : pathTableWf ps) : pathTableWf ps' := by
  obtain ⟨sorted, bounded, distinct, into⟩ := h
  exact ⟨sorted.sublist sub, fun p mem => bounded p (sub.subset mem), distinct.sublist sub,
    fun d => (sub.filter _).length_le.trans (into d)⟩

/-- Two records of one identity are one. -/
theorem unique_of_pathTableWf {ps : List Path} (h : pathTableWf ps) {p q : Path} (hp : p ∈ ps) (hq : q ∈ ps)
    (same : p.ident = q.ident) : p = q := by
  have distinct : (ps.map Path.ident).Nodup := by
    rw [List.Nodup, List.pairwise_map]
    exact h.2.2.1
  exact List.inj_on_of_nodup_map distinct hp hq same

theorem touchPath_pathTableWf {s : State} {id : PathId} {f : Path → Path}
    (fixed : ∀ q, (f q).pos = q.pos ∧ (f q).ident = q.ident) (h : pathTableWf s.paths) :
    pathTableWf (s.touchPath id f).paths := by
  cases found : s.findPath id with
  | none => rwa [touchPath_of_none found]
  | some p =>
      obtain ⟨mem, ident⟩ := findPath_some found
      refine pathTableWf_of_same ?_ h
      rw [touchPath_paths found, List.map_map]
      refine List.map_congr_left fun r there => ?_
      simp only [Function.comp_apply]
      split
      · rename_i hit
        have same : r = p := unique_of_pathTableWf h there mem (hit.trans ident.symm)
        subst same
        obtain ⟨pos, ident', -⟩ := retargeted_keeps (f r) (s.targetOf (f r))
        rw [aimedAfter, pos, ident', (fixed r).1, (fixed r).2]
      · rfl

/-- R24, R40: the new record stands at a free position below 512, and its identity is new. -/
theorem createPath_pathTableWf {s : State} {id : PathId} (h : Holder) (asked : Bool) (absent : s.findPath id = none)
    (room : s.roomForNew id = true) (wf : pathTableWf s.paths) : pathTableWf (s.createPath id h asked).paths := by
  obtain ⟨sorted, bounded, distinct, into⟩ := wf
  obtain ⟨few, roomInto⟩ := (roomForNew_iff s id).1 room
  obtain ⟨free, -⟩ := lowestFree_spec sorted (n := 0) fun x _ => Nat.zero_le _
  have low := lowestFree_le 0 s.paths
  have new := findPath_none.1 absent
  have perm := insertByPos_perm (newPath s id h asked) s.paths
  rw [createPath_paths]
  refine ⟨insertByPos_sorted sorted (by rw [newPath_pos]; exact free), fun p mem => ?_, ?_, fun d => ?_⟩
  · rcases mem_insertByPos.1 mem with rfl | mem
    · rw [newPath_pos]; omega
    · exact bounded p mem
  · rw [perm.pairwise_iff fun differ => Ne.symm differ, List.pairwise_cons]
    exact ⟨fun q mem => by rw [newPath_ident]; exact (new q mem).symm, distinct⟩
  · have le := into d
    rw [(perm.filter _).length_eq, List.filter_cons, newPath_ident]
    split
    · rename_i hit
      have dst : id.dst = d := of_decide_eq_true hit
      rw [dst] at roomInto
      rw [List.length_cons]
      omega
    · exact le

theorem change_pathTableWf {s t : State} (h : Change s t) (wf : pathTableWf s.paths) : pathTableWf t.paths := by
  cases h with
  | report | key | group | ear => exact wf
  | touch id f fixed => exact touchPath_pathTableWf fixed wf
  | create id h asked absent room => exact createPath_pathTableWf h asked absent room wf

theorem changes_pathTableWf {s t : State} (h : Changes s t) (wf : pathTableWf s.paths) : pathTableWf t.paths := by
  induction h with
  | refl => exact wf
  | tail _ step ih => exact change_pathTableWf step ih

/-! ## Target levels (R21, R22) -/

/-- The target levels are formed from the levels of the keys and the active set alone. -/
theorem targetOf_of_same {s t : State} (level : ∀ k : KeyId, t.keys[k].level = s.keys[k].level)
    (active : t.routes.active = s.routes.active) (q : Path) : t.targetOf q = s.targetOf q := by
  rw [State.targetOf, State.targetOf, State.loudest, State.loudest, active]
  simp only [level]

/-- A record is aimed: its target level is the one that its holders and its flags give. -/
def AimedAt (s : State) (q : Path) : Prop := q.target = s.targetOf q

theorem aimedAt_of_same {s t : State} (level : ∀ k : KeyId, t.keys[k].level = s.keys[k].level)
    (active : t.routes.active = s.routes.active) {q : Path} (h : AimedAt s q) : AimedAt t q :=
  Eq.trans h (targetOf_of_same level active q).symm

theorem aimed_of_same {s t : State} (level : ∀ k : KeyId, t.keys[k].level = s.keys[k].level)
    (active : t.routes.active = s.routes.active) (paths : t.paths = s.paths) (h : s.aimed) : t.aimed := fun q mem =>
  aimedAt_of_same level active (h q (paths ▸ mem))

/-- R22: every operation aims the record that it changes. -/
theorem aimedAfter_aimed (s : State) (f : Path → Path) (p : Path) : AimedAt s (aimedAfter s f p) := by
  obtain ⟨-, ident, keys, route, suspended, closing, -, target⟩ := retargeted_keeps (f p) (s.targetOf (f p))
  exact target.trans (targetOf_congr s ident keys route suspended closing).symm

theorem newPath_aimed (s : State) (id : PathId) (h : Holder) (asked : Bool) : AimedAt s (newPath s id h asked) :=
  targetOf_congr s rfl rfl rfl rfl rfl

/-- Where only the path `id` may be off its target, an operation on it aims every path. -/
theorem touchPath_aimedAt {s : State} {id : PathId} {f : Path → Path} {x : Path} (mem : x ∈ (s.touchPath id f).paths) :
    (x ∈ s.paths ∧ x.ident ≠ id) ∨ AimedAt (s.touchPath id f) x := by
  refine (mem_touchPath mem).imp_right ?_
  rintro ⟨p, -, rfl⟩
  exact aimedAt_of_same (fun k => by rw [State.touchPath_keys]) (by rw [State.touchPath_routes]) (aimedAfter_aimed s f p)

theorem createPath_aimedAt {s : State} {id : PathId} {h : Holder} {asked : Bool} {x : Path}
    (mem : x ∈ (s.createPath id h asked).paths) : x ∈ s.paths ∨ AimedAt (s.createPath id h asked) x := by
  refine (mem_createPath.1 mem).symm.imp_right ?_
  rintro rfl
  exact aimedAt_of_same (fun k => by rw [State.createPath_keys]) (by rw [State.createPath_routes]) (newPath_aimed s id h asked)

/-- What an elementary change leaves is a record that was there, or one that is aimed. -/
theorem change_aimedAt {s t : State} (h : Change s t) {x : Path} (mem : x ∈ t.paths) : x ∈ s.paths ∨ AimedAt t x := by
  cases h with
  | report | key | group | ear => exact .inl mem
  | touch id f fixed => exact (touchPath_aimedAt mem).imp_left And.left
  | create id h asked absent room => exact createPath_aimedAt mem

theorem changes_aimedAt {s t : State} (h : Changes s t) {x : Path} (mem : x ∈ t.paths) : x ∈ s.paths ∨ AimedAt t x := by
  induction h with
  | refl => exact .inl mem
  | tail _ step ih =>
      rcases change_aimedAt step mem with before | aimed
      · exact (ih before).imp_right (aimedAt_of_same (fun k => (step.sameRun.key k).level) (by rw [step.sameRun.routes]))
      · exact .inr aimed

theorem changes_aimed {s t : State} (h : Changes s t) (aimed : s.aimed) : t.aimed := fun x mem =>
  (changes_aimedAt h mem).elim
    (fun before => aimedAt_of_same (fun k => (h.sameRun.key k).level) (by rw [h.sameRun.routes]) (aimed x before)) id

end Sys2Proof.Proofs
end

section
/-! PROOFS. What the path table's operations keep of a record (2.1, 2.2, 2.3). -/

namespace Sys2Proof.Proofs

open Sys2Proof.Machine

/-! ## Records stay well formed (R28, R31, R34) -/

/-- The condition on a record does not speak of its ramp, and a record that is no longer spent keeps it. -/
theorem wf_of_same {q q' : Path} (keys : q'.keys = q.keys) (route : q'.route = q.route) (suspended : q'.suspended = q.suspended)
    (closing : q'.closing = q.closing) (spent : q'.spent = true → q.spent = true ∨ q.closing = true) (h : q.wf) : q'.wf := by
  constructor
  · rw [keys]; exact h.holders
  · rw [keys, route, closing]; exact h.unheld
  · rw [keys, route, suspended]; exact h.suspended
  · rw [closing]; exact fun s => (spent s).elim h.spent id

theorem retargeted_wf {q : Path} (h : q.wf) (n : Nat) : (q.retargeted n).wf := by
  obtain ⟨-, -, keys, route, suspended, closing, spent, -⟩ := retargeted_keeps q n
  exact wf_of_same keys route suspended closing (fun s => .inl (spent ▸ s)) h

theorem advance_wf {q : Path} (h : q.wf) : q.advance.wf :=
  wf_of_same (q := q) (q' := q.advance) rfl rfl rfl rfl (fun s => .inr (Bool.and_eq_true_iff.1 s).1) h

theorem suspend_wf {q : Path} (h : q.wf) : q.suspend.wf := by
  rw [Path.suspend]
  split
  · rename_i may
    simp only [Bool.and_eq_true, Bool.not_eq_true', List.isEmpty_eq_false_iff] at may
    obtain ⟨⟨-, held⟩, noRoute⟩ := may
    exact ⟨h.holders, h.unheld, fun _ => ⟨held, noRoute⟩, h.spent⟩
  · exact h

theorem resume_wf {q : Path} (h : q.wf) : q.resume.wf := by
  rw [Path.resume]
  split
  · exact ⟨h.holders, h.unheld, fun s => absurd s Bool.false_ne_true, h.spent⟩
  · exact h

/-- R25, R34: a holder joins a path that is open. -/
theorem join_wf (j : Holder) {q : Path} (isOpen : q.closing = false) (h : q.wf) : (q.join j).wf := by
  have spent (s : q.spent = true) : q.closing = true := h.spent s
  cases j with
  | key k =>
      have held : insertKey k q.keys ≠ [] := List.ne_nil_of_mem (mem_insertKey.2 (.inl rfl))
      refine ⟨insertKey_sorted h.holders, ⟨fun none => absurd none.1 held, fun closing => ?_⟩,
        fun s => ⟨held, (h.suspended s).2⟩, spent⟩
      rw [show (q.join (.key k)).closing = q.closing from rfl, isOpen] at closing
      exact absurd closing Bool.false_ne_true
  | route =>
      refine ⟨h.holders, ⟨fun none => absurd none.2.symm Bool.false_ne_true, fun closing => ?_⟩,
        fun s => absurd s Bool.false_ne_true, spent⟩
      rw [show (q.join .route).closing = q.closing from rfl, isOpen] at closing
      exact absurd closing Bool.false_ne_true

/-- R24, R26: a record that one holder alone opens; ROUTE never asks for a suspension. -/
theorem opened_wf (j : Holder) (asked : Bool) (may : j = .route → asked = false) {q : Path} (closing : q.closing = false)
    (spent : q.spent = false) (suspended : q.suspended = asked)
    (alone : ∀ k, j = .key k → q.keys = [k] ∧ q.route = false) (routed : j = .route → q.keys = [] ∧ q.route = true) : q.wf := by
  have notSpent : q.spent = true → q.closing = true := fun s => by rw [spent] at s; cases s
  cases j with
  | key k =>
      obtain ⟨keys, route⟩ := alone k rfl
      refine ⟨by rw [keys]; exact List.pairwise_singleton _ _, ?_, fun _ => ⟨by rw [keys]; simp, route⟩, notSpent⟩
      rw [keys, closing]; simp
  | route =>
      obtain ⟨keys, route⟩ := routed rfl
      refine ⟨by rw [keys]; exact .nil, by rw [route, closing]; simp, fun s => ?_, notSpent⟩
      rw [suspended, may rfl] at s
      cases s

theorem reopen_wf (j : Holder) (asked : Bool) (may : j = .route → asked = false) (q : Path) : (q.reopen j asked).wf := by
  refine opened_wf j asked may rfl rfl rfl ?_ ?_
  · rintro k rfl; exact ⟨rfl, rfl⟩
  · rintro rfl; exact ⟨rfl, rfl⟩

theorem newPath_wf (s : State) (id : PathId) (j : Holder) (asked : Bool) (may : j = .route → asked = false) :
    (newPath s id j asked).wf := by
  refine opened_wf j asked may ?_ ?_ ?_ ?_ ?_
  · cases j <;> rfl
  · cases j <;> rfl
  · cases j with
    | key k => rfl
    | route => exact (may rfl).symm
  · rintro k rfl; exact ⟨rfl, rfl⟩
  · rintro rfl; exact ⟨rfl, rfl⟩

/-- R27, R28: the ways in which a holder leaves. -/
theorem leave_cases (j : Holder) (q : Path) : q.leave j = q ∨ ∃ ks r, q.leave j =
      (if ks = [] ∧ r = false then { q with keys := ks, route := r, closing := true, suspended := false }
        else { q with keys := ks, route := r }) ∧
    ks.Sublist q.keys ∧ (r = true → q.route = true) ∧ q.heldBy j = true := by
  have unheld (p : Path) : p.unheld = true ↔ p.keys = [] ∧ p.route = false := by simp [Path.unheld]
  unfold Path.leave
  split
  · rename_i held
    cases j with
    | key k =>
        refine .inr ⟨q.keys.filter (· != k), q.route, ?_, List.filter_sublist, fun r => r, held⟩
        dsimp only
        simp only [unheld]
    | route =>
        refine .inr ⟨q.keys, false, ?_, List.Sublist.refl _, fun r => absurd r Bool.false_ne_true, held⟩
        dsimp only
        simp only [unheld]
  · exact .inl rfl

theorem heldBy_open {j : Holder} {q : Path} (h : q.wf) (held : q.heldBy j = true) : q.closing = false := by
  cases closing : q.closing with
  | false => rfl
  | true =>
      obtain ⟨keys, route⟩ := h.unheld.2 closing
      cases j with
      | key k => rw [Path.heldBy, keys] at held; cases held
      | route => rw [Path.heldBy, route] at held; cases held

theorem leave_wf (j : Holder) {q : Path} (h : q.wf) : (q.leave j).wf := by
  rcases leave_cases j q with same | ⟨ks, r, eq, sub, route, held⟩
  · rw [same]; exact h
  · have isOpen := heldBy_open h held
    have sorted := h.holders.sublist sub
    rw [eq]
    split
    · rename_i none
      exact ⟨sorted, ⟨fun _ => rfl, fun _ => none⟩, fun s => absurd s Bool.false_ne_true, fun _ => rfl⟩
    · rename_i some
      refine ⟨sorted, ⟨fun none => absurd none some, fun closing => ?_⟩, fun s => ?_, h.spent⟩
      · exact absurd (isOpen.symm.trans closing) Bool.false_ne_true
      · have noRoute : r = false := by
          cases r with
          | false => rfl
          | true => exact absurd ((h.suspended s).2.symm.trans (route rfl)) Bool.false_ne_true
        exact ⟨fun none => some ⟨none, noRoute⟩, noRoute⟩

/-! ## Holders of a record -/

theorem leave_keys (j : Holder) (q : Path) : (q.leave j).keys.Sublist q.keys := by
  rcases leave_cases j q with same | ⟨ks, r, eq, sub, -⟩
  · rw [same]
  · rw [eq]; split <;> exact sub

/-- R27: a key that has left is no holder. -/
theorem notMem_leave_key (k : KeyId) (q : Path) : k ∉ (q.leave (.key k)).keys := by
  rw [Path.leave]
  split
  · dsimp only
    split <;> exact fun mem => by simpa using (List.mem_filter.1 mem).2
  · rename_i notHeld
    exact fun mem => notHeld (by simpa [Path.heldBy] using mem)

theorem suspend_keys (q : Path) : q.suspend.keys = q.keys := by unfold Path.suspend; split <;> rfl
theorem resume_keys (q : Path) : q.resume.keys = q.keys := by unfold Path.resume; split <;> rfl

/-- R25, R26: who holds a path that a holder has joined or opened. -/
theorem mem_join_keys {k : KeyId} {j : Holder} {q : Path} (mem : k ∈ (q.join j).keys) : j = .key k ∨ k ∈ q.keys := by
  cases j with
  | key i => exact (mem_insertKey.1 mem).imp_left fun e => by rw [e]
  | route => exact .inr mem

theorem mem_reopen_keys {k : KeyId} {j : Holder} {asked : Bool} {q : Path} (mem : k ∈ (q.reopen j asked).keys) : j = .key k := by
  cases j with
  | key i => rw [List.mem_singleton.1 mem]
  | route => exact absurd mem List.not_mem_nil

theorem mem_newPath_keys {s : State} {id : PathId} {k : KeyId} {j : Holder} {asked : Bool}
    (mem : k ∈ (newPath s id j asked).keys) : j = .key k := by
  cases j with
  | key i => rw [List.mem_singleton.1 mem]
  | route => exact absurd mem List.not_mem_nil

theorem aimedAfter_keys (s : State) (f : Path → Path) (p : Path) : (aimedAfter s f p).keys = (f p).keys :=
  (retargeted_keeps _ _).2.2.1
theorem aimedAfter_ident (s : State) (f : Path → Path) (p : Path) : (aimedAfter s f p).ident = (f p).ident :=
  (retargeted_keeps _ _).2.1

/-- R27: once a key has left a path it holds no record of it. -/
theorem removeHolder_holders {s : State} {id : PathId} {k : KeyId} {x : Path} (mem : x ∈ (s.removeHolder id (.key k)).paths)
    (ident : x.ident = id) : k ∉ x.keys := by
  rcases mem_touchPath mem with ⟨-, other⟩ | ⟨p, -, rfl⟩
  · exact absurd ident other
  · rw [aimedAfter_keys]; exact notMem_leave_key k p

/-- R24 to R26: who holds the paths once a holder has been added. -/
theorem addHolder_holders {s : State} {id : PathId} {j : Holder} {asked : Bool} {x : Path}
    (mem : x ∈ (s.addHolder id j asked).1.paths) {k : KeyId} (holds : k ∈ x.keys) :
    (∃ p ∈ s.paths, p.ident = x.ident ∧ k ∈ p.keys) ∨ (j = .key k ∧ x.ident = id) := by
  have touched {f : Path → Path} (fixed : ∀ q, (f q).ident = q.ident)
      (keys : ∀ q : Path, k ∈ (f q).keys → j = .key k ∨ k ∈ q.keys) (mem : x ∈ (s.touchPath id f).paths) :
      (∃ p ∈ s.paths, p.ident = x.ident ∧ k ∈ p.keys) ∨ (j = .key k ∧ x.ident = id) := by
    rcases mem_touchPath mem with ⟨there, -⟩ | ⟨p, found, rfl⟩
    · exact .inl ⟨x, there, rfl, holds⟩
    · obtain ⟨there, ident⟩ := findPath_some found
      rw [aimedAfter_keys] at holds
      rw [aimedAfter_ident, fixed]
      exact (keys p holds).elim (fun new => .inr ⟨new, ident⟩) fun old => .inl ⟨p, there, rfl, old⟩
  rw [State.addHolder] at mem
  split at mem
  · split at mem
    · rcases mem_createPath.1 mem with rfl | there
      · exact .inr ⟨mem_newPath_keys holds, newPath_ident s id j asked⟩
      · exact .inl ⟨x, there, rfl, holds⟩
    · exact .inl ⟨x, mem, rfl, holds⟩
  · split at mem
    · exact touched (fun q => (Path.reopen_fixed j asked q).2) (fun q h => .inl (mem_reopen_keys h)) mem
    · exact touched (fun q => (Path.join_fixed j q).2) (fun q h => mem_join_keys h) mem

/-! ## The table -/

/-- R28, R31: every record of the table is well formed. -/
def PathsWf (s : State) : Prop := ∀ q ∈ s.paths, q.wf

theorem touchPath_pathsWf {s : State} {id : PathId} {f : Path → Path} (keeps : ∀ p, s.findPath id = some p → p.wf → (f p).wf)
    (h : PathsWf s) : PathsWf (s.touchPath id f) := fun x mem => by
  rcases mem_touchPath mem with ⟨there, -⟩ | ⟨p, found, rfl⟩
  · exact h x there
  · exact retargeted_wf (keeps p found (h p (findPath_some found).1)) _

theorem addHolder_pathsWf {s : State} (id : PathId) (j : Holder) (asked : Bool) (may : j = .route → asked = false)
    (h : PathsWf s) : PathsWf (s.addHolder id j asked).1 := by
  cases found : s.findPath id with
  | none =>
      cases room : s.roomForNew id with
      | false => rw [addHolder_of_full found room]; exact h
      | true =>
          rw [addHolder_of_absent found room]
          exact fun x mem => (mem_createPath.1 mem).elim (fun e => e ▸ newPath_wf s id j asked may) (h x)
  | some p =>
      cases closing : p.closing with
      | true => rw [addHolder_of_closing found closing]; exact touchPath_pathsWf (fun q _ _ => reopen_wf j asked may q) h
      | false =>
          rw [addHolder_of_open found closing]
          refine touchPath_pathsWf (fun q same wf => join_wf j ?_ wf) h
          rw [Option.some.inj (same.symm.trans found), closing]

end Sys2Proof.Proofs
end

section
/-! PROOFS. Changes that make no key a holder or a waiter (2.2, 2.3, chapter 6, 10.3): suspensions, departures, evictions, routes. -/

namespace Sys2Proof.Proofs

open Sys2Proof.Machine

/-! ## Keys and their paths -/

theorem keyPath_eq_some {s : State} {k : KeyId} {id : PathId} (h : s.keyPath k id.dst = some id) :
    ∃ o, s.keys[k].owner = some o ∧ id = ⟨.port o, id.dst, .talk⟩ := by
  rw [State.keyPath, Option.map_eq_some_iff] at h
  obtain ⟨o, owner, eq⟩ := h
  exact ⟨o, owner, eq.symm⟩

theorem keyPath_dst {s : State} {k : KeyId} {d : Endpoint} {id : PathId} (h : s.keyPath k d = some id) : id.dst = d := by
  rw [State.keyPath, Option.map_eq_some_iff] at h
  obtain ⟨o, -, rfl⟩ := h
  rfl

theorem keyPath_of_owner {s t : State} {k : KeyId} (owner : t.keys[k].owner = s.keys[k].owner) (d : Endpoint) :
    t.keyPath k d = s.keyPath k d := by rw [State.keyPath, State.keyPath, owner]

/-- 4.1.8: the destinations of a key's delivery. -/
def dests (r : KeyRecord) : List (Option Endpoint) := r.entries.map DestEntry.dest

theorem entries_nil_of_dests {r : KeyRecord} (h : dests r = []) : r.entries = [] := List.map_eq_nil_iff.1 h

theorem delivers_of_entries {s t : State} {k : KeyId} {d : Endpoint} (entries : t.keys[k].entries = s.keys[k].entries)
    (h : s.delivers k d) : t.delivers k d := by
  obtain ⟨e, mem, rest⟩ := h
  exact ⟨e, entries ▸ mem, rest⟩

/-! ## The relation -/

/-- From `s` to `t` no key has become the holder of a path or a waiter; a key that still holds a path is still delivered to it; the
destinations of every delivery are those that they were. -/
structure Eases (s t : State) : Prop where
  run : s.sameRun t
  pathsWf : PathsWf s → PathsWf t
  config : s.mode = .config → s.paths = [] → t.paths = []
  waiters : ∀ g : GroupId, t.groups[g].waiters = s.groups[g].waiters
  members : ∀ g : GroupId, t.groups[g].members.map Member.port = s.groups[g].members.map Member.port
  deadline : ∀ k : KeyId, t.keys[k].deadline = s.keys[k].deadline
  dests : ∀ k : KeyId, dests t.keys[k] = dests s.keys[k]
  holders : ∀ q ∈ t.paths, ∀ k ∈ q.keys, ∃ p ∈ s.paths, p.ident = q.ident ∧ k ∈ p.keys
  delivers : ∀ q ∈ t.paths, ∀ k ∈ q.keys, s.keyPath k q.ident.dst = some q.ident → s.delivers k q.ident.dst →
    t.delivers k q.ident.dst

theorem Eases.keyPath {s t : State} (h : Eases s t) (k : KeyId) (d : Endpoint) : t.keyPath k d = s.keyPath k d :=
  keyPath_of_owner (h.run.key k).owner d

theorem Eases.refl (s : State) : Eases s s where
  run := s.sameRun_refl
  pathsWf h := h
  config _ h := h
  waiters _ := rfl
  members _ := rfl
  deadline _ := rfl
  dests _ := rfl
  holders q mem _ holds := ⟨q, mem, rfl, holds⟩
  delivers _ _ _ _ _ h := h

theorem Eases.trans {s t u : State} (h : Eases s t) (h' : Eases t u) : Eases s u where
  run := h.run.trans h'.run
  pathsWf wf := h'.pathsWf (h.pathsWf wf)
  config mode none := h'.config (h.run.mode.trans mode) (h.config mode none)
  waiters g := (h'.waiters g).trans (h.waiters g)
  members g := (h'.members g).trans (h.members g)
  deadline k := (h'.deadline k).trans (h.deadline k)
  dests k := (h'.dests k).trans (h.dests k)
  holders q mem k holds := by
    obtain ⟨p, mem', ident', holds'⟩ := h'.holders q mem k holds
    obtain ⟨r, mem'', ident'', holds''⟩ := h.holders p mem' k holds'
    exact ⟨r, mem'', ident''.trans ident', holds''⟩
  delivers q mem k holds path before := by
    obtain ⟨p, mem', ident', holds'⟩ := h'.holders q mem k holds
    have between := h.delivers p mem' k holds' (by rw [ident']; exact path) (by rw [ident']; exact before)
    rw [ident'] at between
    exact h'.delivers q mem k holds ((h.keyPath k _).trans path) between

theorem Eases.foldl {α : Type} (f : State → α → State) (hf : ∀ s x, Eases s (f s x)) (xs : List α) (s : State) :
    Eases s (xs.foldl f s) := by
  induction xs generalizing s with
  | nil => exact .refl s
  | cons x xs ih => exact (hf s x).trans (ih (f s x))

/-- Changes outside the path table, the key records and the groups. -/
theorem eases_of_same {s t : State} (run : s.sameRun t) (paths : t.paths = s.paths) (keys : t.keys = s.keys)
    (groups : t.groups = s.groups) : Eases s t where
  run := run
  pathsWf h := fun q mem => h q (paths ▸ mem)
  config _ h := paths.trans h
  waiters g := by rw [groups]
  members g := by rw [groups]
  deadline k := by rw [keys]
  dests k := by rw [keys]
  holders q mem _ holds := ⟨q, paths ▸ mem, rfl, holds⟩
  delivers _ _ _ _ _ h := delivers_of_entries (by rw [keys]) h

theorem report_eases (n : Notice) (s : State) : Eases s (s.report n) :=
  eases_of_same { s.sameRun_refl with link := s.link.report_sameAnswers n } rfl rfl rfl

theorem setEar_eases (p : PortId) (e : Option Ear) (s : State) : Eases s (s.setEar p e) :=
  eases_of_same { s.sameRun_refl with } rfl rfl rfl

/-- A group whose queue and whose members' ports stay. -/
theorem setGroup_eases {g : GroupId} {r : GroupRecord} {s : State} (waiters : r.waiters = s.groups[g].waiters)
    (members : r.members.map Member.port = s.groups[g].members.map Member.port) : Eases s (s.setGroup g r) :=
  { Eases.refl s with
    run := { s.sameRun_refl with }
    waiters := fun j => by
      rw [State.setGroup_groups, tableSet_get]
      split
      · rename_i same; subst same; exact waiters
      · rfl
    members := fun j => by
      rw [State.setGroup_groups, tableSet_get]
      split
      · rename_i same; subst same; exact members
      · rfl }

theorem engage_eases (g : GroupId) (p : PortId) (k : KeyId) (s : State) : Eases s (s.setGroup g (s.groups[g].engage p k)) :=
  setGroup_eases rfl (GroupRecord.sameGroup_engage p k _).ports

theorem disengage_eases (g : GroupId) (k : KeyId) (s : State) : Eases s (s.setGroup g (s.groups[g].disengage k)) :=
  setGroup_eases rfl (GroupRecord.sameGroup_disengage k _).ports

/-! ## Operations of the path table -/

/-- An operation on a path that adds no key to its holders. -/
theorem touchPath_eases {s : State} {id : PathId} {f : Path → Path} (fixed : ∀ q, (f q).pos = q.pos ∧ (f q).ident = q.ident)
    (wf : ∀ p, s.findPath id = some p → p.wf → (f p).wf) (keys : ∀ q : Path, ∀ k ∈ (f q).keys, k ∈ q.keys) :
    Eases s (s.touchPath id f) where
  run := (Change.touch id f fixed).sameRun
  pathsWf := touchPath_pathsWf wf
  config _ none := by
    rw [touchPath_of_none (findPath_none.2 fun q mem => by rw [none] at mem; exact absurd mem List.not_mem_nil), none]
  waiters g := by rw [State.touchPath_groups]
  members g := by rw [State.touchPath_groups]
  deadline k := by rw [State.touchPath_keys]
  dests k := by rw [State.touchPath_keys]
  holders q mem k holds := by
    rcases mem_touchPath mem with ⟨there, -⟩ | ⟨p, found, rfl⟩
    · exact ⟨q, there, rfl, holds⟩
    · rw [aimedAfter_keys] at holds
      exact ⟨p, (findPath_some found).1, by rw [aimedAfter_ident, (fixed p).2], keys p k holds⟩
  delivers _ _ _ _ _ h := delivers_of_entries (by rw [State.touchPath_keys]) h

theorem suspendPath_eases (id : PathId) (s : State) : Eases s (s.suspendPath id) :=
  touchPath_eases Path.suspend_fixed (fun _ _ wf => suspend_wf wf) fun q _ mem => suspend_keys q ▸ mem

theorem resumePath_eases (id : PathId) (s : State) : Eases s (s.resumePath id) :=
  touchPath_eases Path.resume_fixed (fun _ _ wf => resume_wf wf) fun q _ mem => resume_keys q ▸ mem

theorem removeHolder_eases (id : PathId) (j : Holder) (s : State) : Eases s (s.removeHolder id j) :=
  touchPath_eases (Path.leave_fixed j) (fun _ _ wf => leave_wf j wf) fun q _ mem => (leave_keys j q).subset mem

theorem relevelPath_eases (id : PathId) (s : State) : Eases s (s.relevelPath id) :=
  touchPath_eases (fun _ => ⟨rfl, rfl⟩) (fun _ _ wf => wf) fun _ _ mem => mem

/-- What adding a holder leaves alone. -/
theorem addHolder_same (id : PathId) (j : Holder) (asked : Bool) (s : State) :
    (s.addHolder id j asked).1.keys = s.keys ∧ (s.addHolder id j asked).1.groups = s.groups := by
  obtain ⟨paths, records, eq, -⟩ := addHolder_onlyOpens id j asked s
  rw [eq]
  exact ⟨rfl, rfl⟩

/-- R34, R41: ROUTE is a holder, but no key. -/
theorem addRoute_eases {s : State} (run : s.mode = .run) (id : PathId) : Eases s (s.addHolder id .route false).1 where
  run := (s.addHolder_changes id .route false).sameRun
  pathsWf := addHolder_pathsWf id .route false fun _ => rfl
  config mode := by rw [run] at mode; cases mode
  waiters g := by rw [(addHolder_same id .route false s).2]
  members g := by rw [(addHolder_same id .route false s).2]
  deadline k := by rw [(addHolder_same id .route false s).1]
  dests k := by rw [(addHolder_same id .route false s).1]
  holders q mem k holds := (addHolder_holders mem holds).resolve_right fun new => by cases new.1
  delivers _ _ _ _ _ h := delivers_of_entries (by rw [(addHolder_same id .route false s).1]) h

/-! ## Standings (R74) -/

theorem reportStanding_key (k j : KeyId) (p : PortId) (st : EntryStatus) (s : State) : (s.reportStanding k p st).keys[j] =
    if k = j then { s.keys[k] with entries := s.keys[k].entries.map fun e : DestEntry =>
      (if e.dest = some (.port p) then { e with status := st } else e) } else s.keys[j] := tableSet_get _ _ _ _

/-- A key is told its standing at a port: it is heard or held back there, or it no longer holds its path into that port. -/
theorem reportStanding_eases {k : KeyId} {p : PortId} {st : EntryStatus} {s : State}
    (h : (st = .live ∨ st = .heldBack) ∨ ∀ q ∈ s.paths, s.keyPath k (.port p) = some q.ident → k ∉ q.keys) :
    Eases s (s.reportStanding k p st) where
  run := (State.reportStanding_changes k p st s).sameRun
  pathsWf h := h
  config _ h := h
  waiters _ := rfl
  members _ := rfl
  deadline j := by
    rw [reportStanding_key]
    split
    · rename_i same; subst same; rfl
    · rfl
  dests j := by
    rw [reportStanding_key]
    split
    · rename_i same
      subst same
      rw [dests, dests, List.map_map]
      refine List.map_congr_left fun e _ => ?_
      simp only [Function.comp_apply]
      split <;> rfl
    · rfl
  holders q mem _ holds := ⟨q, mem, rfl, holds⟩
  delivers q mem j holds path before := by
    obtain ⟨e, there, dest, heard⟩ := before
    by_cases same : k = j
    · subst same
      have read : (s.reportStanding k p st).keys[k] = _ := reportStanding_key k k p st s
      rw [if_pos rfl] at read
      by_cases here : q.ident.dst = .port p
      · refine ⟨{ e with status := st }, ?_, dest, ?_⟩
        · rw [read]
          exact List.mem_map.2 ⟨e, there, if_pos (by rw [dest, here])⟩
        · exact h.resolve_right fun gone => gone q mem (by rw [← here]; exact path) holds
      · refine ⟨e, ?_, dest, heard⟩
        rw [read]
        refine List.mem_map.2 ⟨e, there, if_neg fun at' => here ?_⟩
        exact Option.some.inj (dest.symm.trans at')
    · have read : (s.reportStanding k p st).keys[j] = s.keys[j] := (reportStanding_key k j p st s).trans (if_neg same)
      exact ⟨e, by rw [read]; exact there, dest, heard⟩

/-! ## The earpiece unit (chapter 6) -/

theorem onKeyPath_eases {k : KeyId} {p : PortId} {f : PathId → State → State} (hf : ∀ id s, Eases s (f id s)) (s : State) :
    Eases s (s.onKeyPath k p f) := by
  unfold State.onKeyPath
  split
  · exact hf _ s
  · exact .refl s

theorem demoteHead_eases (p : PortId) (k : KeyId) (previous : Option TalkEntry) (s : State) :
    Eases s (s.demoteHead p k previous) := by
  unfold State.demoteHead
  split
  · exact .refl s
  · refine Eases.trans ?_ (reportStanding_eases (.inl (.inr rfl)))
    split
    · exact .refl s
    · exact onKeyPath_eases suspendPath_eases s

theorem takeIn_eases (p : PortId) (k : KeyId) (e : Ear) (s : State) : Eases s (s.takeIn p k e).1 := by
  unfold State.takeIn
  dsimp only
  split
  · exact (((setEar_eases _ _ s).trans (report_eases _ _)).trans (demoteHead_eases _ _ _ _)).trans
      (onKeyPath_eases resumePath_eases _)
  · exact (setEar_eases _ _ s).trans (report_eases _ _)

/-- R102: the evicted key has left its path before it is told that it is denied. -/
theorem evict_eases (p : PortId) (e : Ear) (victim : TalkEntry) (s : State) : Eases s (s.evict p e victim) := by
  unfold State.evict
  dsimp only
  generalize start : (s.setEar p (some e.lessLast)).report (.earpiece p) = s1
  have first : Eases s s1 := start ▸ (setEar_eases _ _ s).trans (report_eases _ _)
  have left : Eases s1 (s1.onKeyPath victim.key p fun id s => s.removeHolder id (.key victim.key)) :=
    onKeyPath_eases (fun id s => removeHolder_eases id _ s) s1
  refine (first.trans left).trans (reportStanding_eases (.inr fun q mem path => ?_))
  rw [left.keyPath] at path
  rw [State.onKeyPath, path] at mem
  exact removeHolder_holders mem rfl

theorem offer_eases (p : PortId) (k : KeyId) (s : State) : Eases s (s.offer p k).1 := by
  unfold State.offer
  split
  · exact .refl s
  · split
    · exact takeIn_eases _ _ _ s
    · split
      · exact .refl s
      · split
        · exact (evict_eases _ _ _ s).trans (takeIn_eases _ _ _ _)
        · exact .refl s

theorem promoteHead_eases (p : PortId) (head : Option TalkEntry) (s : State) : Eases s (s.promoteHead p head) := by
  unfold State.promoteHead
  split
  · exact .refl s
  · exact (onKeyPath_eases resumePath_eases s).trans (reportStanding_eases (.inl (.inl rfl)))

theorem depart_eases (p : PortId) (k : KeyId) (s : State) : Eases s (s.depart p k).1 := by
  have promoted (wasHead : Bool) (path : Option PathId) (head : Option TalkEntry) (u : State) : Eases u (if wasHead then
      (if path = u.keyPath k (.port p) then u else u.onKeyPath k p State.suspendPath).promoteHead p head else u) := by
    split
    · refine Eases.trans ?_ (promoteHead_eases _ _ _)
      split
      · exact .refl u
      · exact onKeyPath_eases suspendPath_eases u
    · exact .refl u
  unfold State.depart
  split
  · exact .refl s
  · split
    · exact ((setEar_eases p _ s).trans (report_eases (.earpiece p) _)).trans (promoted _ _ _ _)
    · exact .refl s

theorem routeLeftEarpiece_eases (id : PathId) (s : State) : Eases s (s.routeLeftEarpiece id) := by
  unfold State.routeLeftEarpiece
  split
  · exact .refl s
  · split
    · split
      · exact .refl s
      · split
        · split
          · exact .refl s
          · exact suspendPath_eases id s
        · exact suspendPath_eases id s
    · exact .refl s

/-! ## Routes (chapter 10) -/

/-- A fold of steps taken in RUN. -/
theorem Eases.foldl_run {α : Type} (f : State → α → State) (hf : ∀ s x, s.mode = .run → Eases s (f s x)) (xs : List α)
    {s : State} (run : s.mode = .run) : Eases s (xs.foldl f s) := by
  induction xs generalizing s with
  | nil => exact .refl s
  | cons x xs ih => exact (hf s x run).trans (ih ((hf s x run).run.mode.trans run))

theorem openRoutes_eases {s : State} (run : s.mode = .run) : Eases s s.openRoutes :=
  Eases.foldl_run (fun s (r : Route) => (s.addHolder r.ident .route false).1) (fun _ r run => addRoute_eases run r.ident) _ run

/-- R171: what the exchange does for a route of the outgoing set, and for one of the incoming set. -/
def dropLeaving (incoming : List Route) (s : State) (r : Route) : State :=
  if (findRoute r.ident incoming).isNone then s.dropRoute r.ident else s
def openEntering (outgoing : List Route) (s : State) (r : Route) : State :=
  match findRoute r.ident outgoing with
  | none => (s.addHolder r.ident .route false).1
  | some o => if o.level = r.level then s else s.relevelPath r.ident

/-- R171: the sets have exchanged roles. -/
def exchangedSets (s : State) : State :=
  { s with routes := { s.routes with active := s.routes.standby, standby := s.routes.active } }

theorem exchange_eq (s : State) : s.exchange = s.routes.standby.foldl (openEntering s.routes.active)
    (s.routes.active.foldl (dropLeaving s.routes.standby) (exchangedSets s)) := rfl

theorem dropLeaving_eases (incoming : List Route) (s : State) (r : Route) : Eases s (dropLeaving incoming s r) := by
  unfold dropLeaving
  split
  · exact (removeHolder_eases r.ident .route s).trans (routeLeftEarpiece_eases r.ident _)
  · exact .refl s

theorem openEntering_eases (outgoing : List Route) {s : State} (run : s.mode = .run) (r : Route) :
    Eases s (openEntering outgoing s r) := by
  unfold openEntering
  split
  · exact addRoute_eases run r.ident
  · split
    · exact .refl s
    · exact relevelPath_eases _ s

/-- R171: once the sets have exchanged roles, the exchange makes no key a holder. -/
theorem exchange_eases {s : State} (run : s.mode = .run) : Eases (exchangedSets s) s.exchange := by
  have dropped := Eases.foldl (dropLeaving s.routes.standby) (dropLeaving_eases _) s.routes.active (exchangedSets s)
  rw [exchange_eq]
  exact dropped.trans (Eases.foldl_run _ (fun _ r run => openEntering_eases _ run r) _ (dropped.run.mode.trans run))

/-! ## Leaving (R76) -/

theorem leaveEarpiece_eases (k : KeyId) (e : DestEntry) (a : State × List PortId) :
    Eases a.1 (State.leaveEarpiece k e a).1 := by
  unfold State.leaveEarpiece
  split
  · split
    · exact depart_eases _ _ _
    · exact .refl _
  · exact .refl _

theorem leaveEarpieces_eases (k : KeyId) (es : List DestEntry) (a : State × List PortId) :
    Eases a.1 (es.foldl (fun acc e => State.leaveEarpiece k e acc) a).1 := by
  induction es generalizing a with
  | nil => exact .refl _
  | cons e es ih => exact (leaveEarpiece_eases k e a).trans (ih _)

theorem leavePath_eases (k : KeyId) (e : DestEntry) (s : State) : Eases s (s.leavePath k e) := by
  unfold State.leavePath
  split
  · split
    · split
      · exact removeHolder_eases _ _ _
      · exact .refl s
    · exact .refl s
  · exact .refl s

end Sys2Proof.Proofs
end

section
/-! PROOFS. Paths, queues and delivery lists agree (4.4, 4.5, chapter 5): delivering, serving and withdrawing a key keep it. -/

namespace Sys2Proof.Proofs

open Sys2Proof.Machine

/-! ## The agreement -/

/-- A key that may hold paths and wait. -/
def Active (r : KeyRecord) : Prop := r.activation = .held ∨ r.activation = .latched

/-- A key holds a path or waits in a group. -/
def Engaged (s : State) (k : KeyId) : Prop := (∃ q ∈ s.paths, k ∈ q.keys) ∨ ∃ g : GroupId, k ∈ s.groups[g].waiters

/-- `State.deliveriesWf`, with the distinct members of a group, in a state in which the key `x`, if there is one, is being withdrawn: its
activation may have been taken back before its paths and its place in a queue. -/
structure Agrees (x : Option KeyId) (s : State) : Prop where
  config : s.mode = .config → s.paths = [] ∧ (∀ g : GroupId, s.groups[g].waiters = []) ∧ s.routes.swapPending = false
  judged : s.routes.judgementDue = true → s.routes.swapPending = true
  members : ∀ g : GroupId, (s.groups[g].members.map Member.port).Nodup
  destinations : ∀ k : KeyId, (dests s.keys[k]).Nodup
  active : ∀ k : KeyId, Engaged s k → x = some k ∨ Active s.keys[k]
  holders : ∀ q ∈ s.paths, ∀ k ∈ q.keys, s.keyPath k q.ident.dst = some q.ident ∧ s.delivers k q.ident.dst
  waiters : ∀ g : GroupId, ∀ k ∈ s.groups[g].waiters,
    s.keys[k].target = some (.group g) ∧ s.keys[k].deadline.isSome = true ∧ s.keys[k].entries = []

theorem agrees_iff {s : State} :
    Agrees none s ↔ s.deliveriesWf ∧ ∀ g : GroupId, (s.groups[g].members.map Member.port).Nodup := by
  constructor
  · intro h
    refine ⟨⟨h.config, h.judged, fun q mem k holds => ?_, fun g k waits => ?_, h.destinations⟩, h.members⟩
    · obtain ⟨path, delivered⟩ := h.holders q mem k holds
      exact ⟨(h.active k (.inl ⟨q, mem, holds⟩)).resolve_left (by simp), keyPath_eq_some path, delivered⟩
    · exact ⟨(h.active k (.inr ⟨g, waits⟩)).resolve_left (by simp), h.waiters g k waits⟩
  · rintro ⟨h, members⟩
    refine ⟨h.config, h.judged, members, h.destinations, fun k engaged => .inr ?_, fun q mem k holds => ?_,
      fun g k waits => (h.waiters g k waits).2⟩
    · rcases engaged with ⟨q, mem, holds⟩ | ⟨g, waits⟩
      · exact (h.holders q mem k holds).1
      · exact (h.waiters g k waits).1
    · obtain ⟨-, ⟨o, owner, ident⟩, delivered⟩ := h.holders q mem k holds
      refine ⟨?_, delivered⟩
      rw [State.keyPath, owner]
      exact congrArg some ident.symm

/-- A key that is neither HELD nor LATCHED holds no path and waits nowhere. -/
theorem Agrees.free {s : State} (h : Agrees none s) {k : KeyId} (idle : ¬ Active s.keys[k]) : ¬ Engaged s k := fun engaged =>
  (h.active k engaged).elim (by simp) idle

/-- A withdrawal is over once the key holds no path and waits nowhere. -/
theorem Agrees.clear {s : State} {k : KeyId} (h : Agrees (some k) s) (free : ¬ Engaged s k) : Agrees none s :=
  { h with
    active := fun j engaged => (h.active j engaged).elim (fun same => absurd (Option.some.inj same ▸ engaged) free) .inr }

/-- R41, R98: where a key waits, the mode is RUN. -/
theorem Agrees.run_of_waits {x : Option KeyId} {s : State} (h : Agrees x s) {g : GroupId} {k : KeyId}
    (waits : k ∈ s.groups[g].waiters) : s.mode = .run := by
  cases mode : s.mode with
  | run => rfl
  | config =>
      rw [(h.config mode).2.1 g] at waits
      exact absurd waits List.not_mem_nil

theorem Eases.engaged {s t : State} (h : Eases s t) {k : KeyId} (engaged : Engaged t k) : Engaged s k := by
  rcases engaged with ⟨q, mem, holds⟩ | ⟨g, waits⟩
  · obtain ⟨p, mem', -, holds'⟩ := h.holders q mem k holds
    exact .inl ⟨p, mem', holds'⟩
  · exact .inr ⟨g, h.waiters g ▸ waits⟩

theorem Eases.active {s t : State} (h : Eases s t) {k : KeyId} (active : Active s.keys[k]) : Active t.keys[k] := by
  rw [Active, (h.run.key k).activation]; exact active

theorem Eases.agrees {x : Option KeyId} {s t : State} (h : Eases s t) (agrees : Agrees x s) : Agrees x t where
  config mode := by
    obtain ⟨paths, waiters, pending⟩ := agrees.config (h.run.mode ▸ mode)
    exact ⟨h.config (h.run.mode ▸ mode) paths, fun g => (h.waiters g).trans (waiters g), by rw [h.run.routes]; exact pending⟩
  judged := by rw [h.run.routes]; exact agrees.judged
  members g := by rw [h.members]; exact agrees.members g
  destinations k := by rw [h.dests]; exact agrees.destinations k
  active k engaged := (agrees.active k (h.engaged engaged)).imp_right h.active
  holders q mem k holds := by
    obtain ⟨p, mem', ident, holds'⟩ := h.holders q mem k holds
    obtain ⟨path, delivered⟩ := agrees.holders p mem' k holds'
    rw [ident] at path delivered
    exact ⟨(h.keyPath k _).trans path, h.delivers q mem k holds path delivered⟩
  waiters g k waits := by
    obtain ⟨target, deadline, entries⟩ := agrees.waiters g k (h.waiters g ▸ waits)
    refine ⟨(h.run.key k).target.trans target, by rw [h.deadline]; exact deadline, entries_nil_of_dests ?_⟩
    rw [h.dests k, Proofs.dests, entries]
    rfl

/-! ## Key records -/

/-- The record of a key that holds no path and waits nowhere is written. -/
theorem setKey_agrees {x x' : Option KeyId} {s : State} {k : KeyId} {r : KeyRecord} (h : Agrees x s) (free : ¬ Engaged s k)
    (excused : x = x' ∨ x = some k) (distinct : (dests r).Nodup) : Agrees x' (s.setKey k r) := by
  have other {j : KeyId} (engaged : Engaged s j) : (s.setKey k r).keys[j] = s.keys[j] :=
    tableSet_ne s.keys r fun same => free (same ▸ engaged)
  refine ⟨h.config, h.judged, h.members, fun j => ?_, fun j engaged => ?_, fun q mem j holds => ?_, fun g j waits => ?_⟩
  · rw [State.setKey_keys, tableSet_get]
    split
    · exact distinct
    · exact h.destinations j
  · have engaged : Engaged s j := engaged
    rw [other engaged]
    refine (h.active j engaged).imp_left fun same => ?_
    rcases excused with rfl | rfl
    · exact same
    · exact absurd (Option.some.inj same ▸ engaged) free
  · have engaged : Engaged s j := .inl ⟨q, mem, holds⟩
    obtain ⟨path, delivered⟩ := h.holders q mem j holds
    exact ⟨(keyPath_of_owner (by rw [other engaged]) _).trans path, delivers_of_entries (by rw [other engaged]) delivered⟩
  · rw [other (.inr ⟨g, waits⟩)]
    exact h.waiters g j waits

theorem setActivation_key (k j : KeyId) (a : Activation) (s : State) : (s.setActivation k a).keys[j] =
    if k = j then { s.keys[k] with
      activation := a, pressBlock := (if s.keys[k].mode = .smart ∧ a = .held then some s.blockCount else none) }
    else s.keys[j] := tableSet_get _ _ _ _

/-- R67: an activation that leaves the key active, or one that begins its withdrawal. -/
theorem setActivation_agrees {x : Option KeyId} {s : State} {k : KeyId} {a : Activation} (h : Agrees none s)
    (may : x = some k ∨ a = .held ∨ a = .latched) : Agrees x (s.setActivation k a) := by
  have kept (j : KeyId) : (s.setActivation k a).keys[j].owner = s.keys[j].owner ∧
      (s.setActivation k a).keys[j].target = s.keys[j].target ∧ (s.setActivation k a).keys[j].deadline = s.keys[j].deadline ∧
      (s.setActivation k a).keys[j].entries = s.keys[j].entries := by
    rw [setActivation_key]
    split
    · rename_i same; subst same; exact ⟨rfl, rfl, rfl, rfl⟩
    · exact ⟨rfl, rfl, rfl, rfl⟩
  refine ⟨h.config, h.judged, h.members, fun j => ?_, fun j engaged => ?_, fun q mem j holds => ?_, fun g j waits => ?_⟩
  · rw [dests, (kept j).2.2.2]; exact h.destinations j
  · have before : Active s.keys[j] := (h.active j engaged).resolve_left (by simp)
    rw [Active, setActivation_key]
    split
    · rename_i same; subst same; exact may
    · exact .inr before
  · obtain ⟨path, delivered⟩ := h.holders q mem j holds
    exact ⟨(keyPath_of_owner (kept j).1 _).trans path, delivers_of_entries (kept j).2.2.2 delivered⟩
  · obtain ⟨-, target, deadline, entries⟩ := kept j
    rw [target, deadline, entries]
    exact h.waiters g j waits

theorem appendEntry_key (k j : KeyId) (e : DestEntry) (s : State) : (s.appendEntry k e).keys[j] =
    if k = j then { s.keys[k] with entries := s.keys[k].entries ++ [e] } else s.keys[j] := tableSet_get _ _ _ _

theorem appendEntry_dests (k : KeyId) (e : DestEntry) (s : State) :
    dests (s.appendEntry k e).keys[k] = dests s.keys[k] ++ [e.dest] := by
  rw [appendEntry_key, if_pos rfl, dests, dests, List.map_append]
  rfl

/-- R69: a new destination of a key that does not wait. -/
theorem appendEntry_agrees {x : Option KeyId} {s : State} {k : KeyId} {e : DestEntry} (h : Agrees x s)
    (notWaiting : ∀ g : GroupId, k ∉ s.groups[g].waiters) (new : e.dest ∉ dests s.keys[k]) : Agrees x (s.appendEntry k e) := by
  have kept (j : KeyId) : (s.appendEntry k e).keys[j].owner = s.keys[j].owner ∧
      (s.appendEntry k e).keys[j].activation = s.keys[j].activation ∧
      ∀ y ∈ s.keys[j].entries, y ∈ (s.appendEntry k e).keys[j].entries := by
    rw [appendEntry_key]
    split
    · rename_i same; subst same; exact ⟨rfl, rfl, fun y mem => List.mem_append_left _ mem⟩
    · exact ⟨rfl, rfl, fun y mem => mem⟩
  refine ⟨h.config, h.judged, h.members, fun j => ?_, fun j engaged => ?_, fun q mem j holds => ?_, fun g j waits => ?_⟩
  · by_cases same : k = j
    · subst same
      rw [appendEntry_dests, List.nodup_append]
      refine ⟨h.destinations k, List.nodup_singleton _, fun a mem b mem' same => new ?_⟩
      rw [← List.mem_singleton.1 mem', ← same]
      exact mem
    · rw [appendEntry_key, if_neg same]; exact h.destinations j
  · rw [Active, (kept j).2.1]; exact h.active j engaged
  · obtain ⟨path, y, mem', dest, heard⟩ := h.holders q mem j holds
    exact ⟨(keyPath_of_owner (kept j).1 _).trans path, y, (kept j).2.2 y mem', dest, heard⟩
  · have other : k ≠ j := fun same => notWaiting g (same ▸ waits)
    rw [appendEntry_key, if_neg other]
    exact h.waiters g j waits

/-! ## One destination (R69 to R71) -/

/-- A key that may be given a destination. -/
structure Receives (s : State) (k : KeyId) : Prop where
  run : s.mode = .run
  active : Active s.keys[k]
  notWaiting : ∀ g : GroupId, k ∉ s.groups[g].waiters

theorem Receives.ease {s t : State} {k : KeyId} (h : Receives s k) (e : Eases s t) : Receives t k :=
  ⟨e.run.mode.trans h.run, e.active h.active, fun g => e.waiters g ▸ h.notWaiting g⟩

theorem Receives.append {s : State} {k : KeyId} (h : Receives s k) (e : DestEntry) : Receives (s.appendEntry k e) k := by
  refine ⟨h.run, ?_, h.notWaiting⟩
  rw [Active, appendEntry_key, if_pos rfl]
  exact h.active

/-- R69: a key becomes the holder of a path to which it is delivered. -/
theorem admit_agrees {s : State} {k : KeyId} {d : Endpoint} {id : PathId} (asked : Bool) {st : EntryStatus} (h : Agrees none s)
    (receives : Receives s k) (path : s.keyPath k d = some id) (new : some d ∉ dests s.keys[k])
    (heard : st = .live ∨ st = .heldBack) : Agrees none ((s.addHolder id (.key k) asked).1.appendEntry k ⟨some d, st⟩) := by
  have listed := appendEntry_agrees (e := ⟨some d, st⟩) h receives.notWaiting new
  obtain ⟨keys, groups⟩ := addHolder_same id (.key k) asked s
  have same : ((s.addHolder id (.key k) asked).1.appendEntry k ⟨some d, st⟩).keys = (s.appendEntry k ⟨some d, st⟩).keys := by
    rw [State.appendEntry, State.appendEntry, keys, State.report_keys, State.report_keys, State.setKey_keys, State.setKey_keys, keys]
  generalize joined : (s.addHolder id (.key k) asked).1.appendEntry k ⟨some d, st⟩ = t at same ⊢
  have run : s.sameRun (s.addHolder id (.key k) asked).1 := (s.addHolder_changes id (.key k) asked).sameRun
  have mode : t.mode = .run := by rw [← joined]; exact run.mode.trans receives.run
  have routes : t.routes = s.routes := by rw [← joined]; exact run.routes
  have groups : t.groups = s.groups := by rw [← joined]; exact groups
  have paths : t.paths = (s.addHolder id (.key k) asked).1.paths := by rw [← joined]; rfl
  have holds (q : Path) (mem : q ∈ t.paths) (j : KeyId) (held : j ∈ q.keys) :
      (∃ p ∈ s.paths, p.ident = q.ident ∧ j ∈ p.keys) ∨ (j = k ∧ q.ident = id) :=
    (addHolder_holders (paths ▸ mem) held).imp_right fun new => ⟨(Holder.key.inj new.1).symm, new.2⟩
  refine ⟨(fun config => by rw [mode] at config; cases config), routes ▸ h.judged, groups ▸ h.members, same ▸ listed.destinations,
    fun j engaged => ?_, fun q mem j held => ?_, fun g j waits => ?_⟩
  · rw [same]
    rcases engaged with ⟨q, mem, held⟩ | ⟨g, waits⟩
    · rcases holds q mem j held with ⟨p, mem', -, held'⟩ | ⟨rfl, -⟩
      · exact listed.active j (.inl ⟨p, mem', held'⟩)
      · exact .inr (receives.append ⟨some d, st⟩).active
    · exact listed.active j (.inr ⟨g, groups ▸ waits⟩)
  · have owner (i : KeyId) : t.keys[i].owner = (s.appendEntry k ⟨some d, st⟩).keys[i].owner := by rw [same]
    have entries (i : KeyId) : t.keys[i].entries = (s.appendEntry k ⟨some d, st⟩).keys[i].entries := by rw [same]
    rcases holds q mem j held with ⟨p, mem', ident, held'⟩ | ⟨rfl, ident⟩
    · obtain ⟨path', delivered⟩ := listed.holders p mem' j held'
      rw [ident] at path' delivered
      exact ⟨(keyPath_of_owner (owner j) _).trans path', delivers_of_entries (entries j) delivered⟩
    · rw [ident, keyPath_dst path]
      refine ⟨(keyPath_of_owner ((owner j).trans ?_) d).trans path, delivers_of_entries (entries j) ⟨⟨some d, st⟩, ?_, rfl, heard⟩⟩
      · rw [appendEntry_key, if_pos rfl]
      · rw [appendEntry_key, if_pos rfl]
        exact List.mem_append_right _ (List.mem_singleton_self _)
  · rw [same]
    exact listed.waiters g j (groups ▸ waits)

theorem addHolder_refused {s : State} {id : PathId} {j : Holder} {asked : Bool} (refused : (s.addHolder id j asked).2 = false) :
    (s.addHolder id j asked).1 = s := by
  cases found : s.findPath id with
  | none =>
      cases room : s.roomForNew id with
      | false => rw [addHolder_of_full found room]
      | true => rw [addHolder_of_absent found room] at refused; cases refused
  | some p =>
      cases closing : p.closing with
      | true => rw [addHolder_of_closing found closing] at refused; cases refused
      | false => rw [addHolder_of_open found closing] at refused; cases refused

/-- R69 to R71: what giving a key a destination can do. A key without an owner is given none; the destination denies the key; or the
key becomes a holder of its path. In the last two an earpiece may have made room first. -/
inductive Delivers (s : State) (k : KeyId) (d : Endpoint) : State → Prop where
  | nothing : Delivers s k d s
  | denies (u : State) (why : DenyReason) (room : Eases s u) : Delivers s k d (u.appendEntry k ⟨some d, .denied why⟩)
  | admits (u : State) (id : PathId) (asked : Bool) (st : EntryStatus) (room : Eases s u) (path : s.keyPath k d = some id)
      (heard : st = .live ∨ st = .heldBack) : Delivers s k d ((u.addHolder id (.key k) asked).1.appendEntry k ⟨some d, st⟩)

theorem deliverPlain_delivers {s : State} {k : KeyId} {d : Endpoint} {id : PathId} (path : s.keyPath k d = some id) :
    Delivers s k d (s.deliverPlain k d id) := by
  unfold State.deliverPlain
  dsimp only
  cases answer : (s.addHolder id (.key k) false).2 with
  | false => rw [addHolder_refused answer]; exact .denies s .noSpace (.refl s)
  | true => exact .admits s id false .live (.refl s) path (.inl rfl)

theorem deliverEarpiece_delivers {s : State} {k : KeyId} {p : PortId} {id : PathId} (path : s.keyPath k (.port p) = some id) :
    Delivers s k (.port p) (s.deliverEarpiece k p id) := by
  have offered := offer_eases p k s
  unfold State.deliverEarpiece
  split
  · dsimp only
    split
    · exact .admits _ id false .live offered path (.inl rfl)
    · exact .admits _ id true .heldBack offered path (.inr rfl)
    · exact .denies _ .listFull offered
  · exact .denies s .noSpace (.refl s)

theorem deliverTo_delivers (k : KeyId) (d : Endpoint) (s : State) : Delivers s k d (s.deliverTo k d) := by
  unfold State.deliverTo
  split
  · exact .nothing
  · rename_i path
    split
    · exact deliverPlain_delivers path
    · split
      · exact deliverEarpiece_delivers path
      · exact deliverPlain_delivers path

section
variable {s t : State} {k : KeyId} {d : Endpoint}

theorem Delivers.pathsWf (h : Delivers s k d t) (wf : PathsWf s) : PathsWf t := by
  cases h with
  | nothing => exact wf
  | denies u why room => exact room.pathsWf wf
  | admits u id asked st room => exact addHolder_pathsWf id (.key k) asked (fun e => by cases e) (room.pathsWf wf)

theorem Delivers.agrees (h : Delivers s k d t) (agrees : Agrees none s) (receives : Receives s k)
    (new : some d ∉ dests s.keys[k]) : Agrees none t := by
  cases h with
  | nothing => exact agrees
  | denies u why room =>
      exact appendEntry_agrees (room.agrees agrees) (receives.ease room).notWaiting (by rw [room.dests]; exact new)
  | admits u id asked st room path heard =>
      exact admit_agrees asked (room.agrees agrees) (receives.ease room) ((room.keyPath k d).trans path)
        (by rw [room.dests]; exact new) heard

theorem Delivers.receives (h : Delivers s k d t) (receives : Receives s k) : Receives t k := by
  cases h with
  | nothing => exact receives
  | denies u why room => exact (receives.ease room).append _
  | admits u id asked st room =>
      obtain ⟨run, active, notWaiting⟩ := receives.ease room
      obtain ⟨keys, groups⟩ := addHolder_same id (.key k) asked u
      refine Receives.append ⟨(u.addHolder_changes id (.key k) asked).sameRun.mode.trans run, ?_, ?_⟩ _
      · rw [keys]; exact active
      · rw [groups]; exact notWaiting

theorem Delivers.dests (h : Delivers s k d t) {y : Option Endpoint} (mem : y ∈ dests t.keys[k]) :
    y ∈ dests s.keys[k] ∨ y = some d := by
  cases h with
  | nothing => exact .inl mem
  | denies u why room =>
      rw [appendEntry_dests, List.mem_append, List.mem_singleton, room.dests] at mem
      exact mem
  | admits u id asked st room =>
      rw [appendEntry_dests, List.mem_append, List.mem_singleton, (addHolder_same id (.key k) asked u).1, room.dests] at mem
      exact mem

end

/-! ## Groups (R84, R86, R88, R90) -/

theorem leaveQueue_key (g : GroupId) (k j : KeyId) (s : State) : (s.leaveQueue g k).keys[j] =
    if k = j then { s.keys[k] with deadline := none } else s.keys[j] := tableSet_get _ _ _ _

theorem leaveQueue_waiters (g j : GroupId) (k : KeyId) (s : State) : (s.leaveQueue g k).groups[j].waiters =
    if g = j then s.groups[g].waiters.filter (fun x : KeyId => decide (x ≠ k)) else s.groups[j].waiters := by
  have read : (s.leaveQueue g k).groups[j] = _ := tableSet_get s.groups g j _
  rw [read]
  split <;> rfl

/-- R90, R91: a key that has left its group's queue waits nowhere. -/
theorem leaveQueue_notWaiting {x : Option KeyId} {s : State} {g : GroupId} {k : KeyId} (h : Agrees x s)
    (target : s.keys[k].target = some (.group g)) (j : GroupId) : k ∉ (s.leaveQueue g k).groups[j].waiters := by
  rw [leaveQueue_waiters]
  split
  · exact fun mem => by simpa using (List.mem_filter.1 mem).2
  · rename_i other
    intro mem
    exact other (Target.group.inj (Option.some.inj (target.symm.trans (h.waiters j k mem).1)))

theorem leaveQueue_agrees {x : Option KeyId} {s : State} {g : GroupId} {k : KeyId} (h : Agrees x s)
    (target : s.keys[k].target = some (.group g)) : Agrees x (s.leaveQueue g k) := by
  have kept (j : KeyId) : (s.leaveQueue g k).keys[j].owner = s.keys[j].owner ∧
      (s.leaveQueue g k).keys[j].activation = s.keys[j].activation ∧
      (s.leaveQueue g k).keys[j].entries = s.keys[j].entries := by
    rw [leaveQueue_key]
    split
    · rename_i same; subst same; exact ⟨rfl, rfl, rfl⟩
    · exact ⟨rfl, rfl, rfl⟩
  have waited {i : GroupId} {j : KeyId} (mem : j ∈ (s.leaveQueue g k).groups[i].waiters) : j ∈ s.groups[i].waiters := by
    rw [leaveQueue_waiters] at mem
    split at mem
    · rename_i same; subst same; exact (List.mem_filter.1 mem).1
    · exact mem
  refine ⟨fun mode => ?_, h.judged, fun i => ?_, fun j => ?_, fun j engaged => ?_, fun q mem j holds => ?_, fun i j waits => ?_⟩
  · obtain ⟨paths, waiters, pending⟩ := h.config mode
    exact ⟨paths, fun i => List.eq_nil_iff_forall_not_mem.2 fun j mem => by
      have := waited mem
      rw [waiters i] at this
      exact absurd this List.not_mem_nil, pending⟩
  · have read : (s.leaveQueue g k).groups[i] = _ := tableSet_get s.groups g i _
    rw [read]
    split
    · exact h.members g
    · exact h.members i
  · rw [dests, (kept j).2.2]; exact h.destinations j
  · rw [Active, (kept j).2.1]
    exact h.active j (engaged.imp_right fun ⟨i, waits⟩ => ⟨i, waited waits⟩)
  · obtain ⟨path, delivered⟩ := h.holders q mem j holds
    exact ⟨(keyPath_of_owner (kept j).1 _).trans path, delivers_of_entries (kept j).2.2 delivered⟩
  · have other : k ≠ j := fun same => leaveQueue_notWaiting h target i (same ▸ waits)
    rw [leaveQueue_key, if_neg other]
    exact h.waiters i j (waited waits)

theorem huntDeliver_agrees {s : State} {g : GroupId} {k : KeyId} (p : PortId) (h : Agrees none s) (receives : Receives s k)
    (noDests : dests s.keys[k] = []) : Agrees none (s.huntDeliver g k p) := by
  have engaged := engage_eases g p k s
  refine (deliverTo_delivers k (.port p) _).agrees (engaged.agrees h) (receives.ease engaged) ?_
  rw [engaged.dests, noDests]
  exact List.not_mem_nil

/-- R75, R90, R92: a waiter that leaves its queue may be given a destination, and has none. -/
theorem leaveQueue_receives {s : State} {g : GroupId} {k : KeyId} (h : Agrees none s) (waits : k ∈ s.groups[g].waiters) :
    Receives (s.leaveQueue g k) k ∧ dests (s.leaveQueue g k).keys[k] = [] := by
  obtain ⟨target, -, entries⟩ := h.waiters g k waits
  have key : (s.leaveQueue g k).keys[k] = { s.keys[k] with deadline := none } := (leaveQueue_key g k k s).trans (if_pos rfl)
  refine ⟨⟨h.run_of_waits waits, ?_, leaveQueue_notWaiting h target⟩, ?_⟩
  · rw [Active, key]
    exact (h.active k (.inr ⟨g, waits⟩)).resolve_left (by simp)
  · rw [dests, key]
    exact List.map_eq_nil_iff.2 entries

theorem nextService_waits {s : State} {g : GroupId} {k : KeyId} {p : PortId} (h : s.nextService g = some (k, p)) :
    k ∈ s.groups[g].waiters := by
  obtain ⟨j, mem, found⟩ := List.exists_of_findSome?_eq_some h
  obtain ⟨m, -, eq⟩ := Option.map_eq_some_iff.1 found
  rw [← (Prod.mk.inj eq).1]
  exact mem

theorem servicePass_agrees (g : GroupId) (n : Nat) {s : State} (h : Agrees none s) : Agrees none (s.servicePass g n) := by
  induction n generalizing s with
  | zero => exact h
  | succ n ih =>
      unfold State.servicePass
      split
      · exact h
      · rename_i k p next
        have waits := nextService_waits next
        obtain ⟨receives, noDests⟩ := leaveQueue_receives h waits
        exact ih (huntDeliver_agrees p (leaveQueue_agrees h (h.waiters g k waits).1) receives noDests)

theorem servicePass_pathsWf (g : GroupId) (n : Nat) {s : State} (h : PathsWf s) : PathsWf (s.servicePass g n) := by
  induction n generalizing s with
  | zero => exact h
  | succ n ih =>
      unfold State.servicePass
      split
      · exact h
      · exact ih ((deliverTo_delivers _ _ _).pathsWf h)

/-- What each pass keeps, the passes of an event keep. -/
theorem runPasses_keeps {I : State → Prop} (pass : ∀ g n s, I s → I (s.servicePass g n)) (t : Triggers) {s : State} (h : I s) :
    I (s.runPasses t) := by
  have fold (gs : List GroupId) (s : State) (h : I s) :
      I (gs.foldl (fun s g => if s.triggered t g then s.servicePass g s.groups[g].waiters.length else s) s) := by
    induction gs generalizing s with
    | nil => exact h
    | cons g gs ih =>
        refine ih _ ?_
        dsimp only
        split
        · exact pass g _ s h
        · exact h
  exact fold _ s h

/-- R88: a key that has found no member waits, or is denied. -/
theorem joinQueue_agrees {s : State} {g : GroupId} {k : KeyId} (h : Agrees none s) (receives : Receives s k)
    (noDests : dests s.keys[k] = []) (target : s.keys[k].target = some (.group g)) : Agrees none (s.joinQueue g k) := by
  unfold State.joinQueue
  dsimp only
  split
  · generalize joined : State.report (.key k) _ = t
    have key (j : KeyId) : t.keys[j] = if k = j then
        { s.keys[k] with deadline := some (s.blockCount + BitVec.ofNat 32 s.groups[g].timeout) } else s.keys[j] := by
      rw [← joined]; exact tableSet_get _ _ _ _
    have group (i : GroupId) : t.groups[i] =
        if g = i then { s.groups[g] with waiters := s.groups[g].waiters ++ [k] } else s.groups[i] := by
      rw [← joined]; exact tableSet_get _ _ _ _
    have kept (j : KeyId) : t.keys[j].owner = s.keys[j].owner ∧ t.keys[j].activation = s.keys[j].activation ∧
        t.keys[j].entries = s.keys[j].entries := by
      rw [key]
      split
      · rename_i same; subst same; exact ⟨rfl, rfl, rfl⟩
      · exact ⟨rfl, rfl, rfl⟩
    have waited {i : GroupId} {j : KeyId} (mem : j ∈ t.groups[i].waiters) : (j = k ∧ i = g) ∨ j ∈ s.groups[i].waiters := by
      rw [group] at mem
      split at mem
      · rename_i same
        subst same
        exact (List.mem_append.1 mem).symm.imp_left fun last => ⟨List.mem_singleton.1 last, rfl⟩
      · exact .inr mem
    have mode : t.mode = .run := by rw [← joined]; exact receives.run
    have paths : t.paths = s.paths := by rw [← joined]; rfl
    have routes : t.routes = s.routes := by rw [← joined]; rfl
    refine ⟨(fun config => by rw [mode] at config; cases config), routes ▸ h.judged, fun i => ?_, fun j => ?_, fun j engaged => .inr ?_,
      fun q mem j holds => ?_, fun i j waits => ?_⟩
    · rw [group]
      split
      · exact h.members g
      · exact h.members i
    · rw [dests, (kept j).2.2]; exact h.destinations j
    · have before : j = k ∨ Engaged s j := by
        rcases engaged with ⟨q, mem, holds⟩ | ⟨i, waits⟩
        · exact .inr (.inl ⟨q, paths ▸ mem, holds⟩)
        · exact (waited waits).imp And.left fun w => .inr ⟨i, w⟩
      rw [Active, (kept j).2.1]
      rcases before with rfl | before
      · exact receives.active
      · exact (h.active j before).resolve_left (by simp)
    · obtain ⟨path, delivered⟩ := h.holders q (paths ▸ mem) j holds
      exact ⟨(keyPath_of_owner (kept j).1 _).trans path, delivers_of_entries (kept j).2.2 delivered⟩
    · rcases waited waits with ⟨rfl, rfl⟩ | before
      · rw [key, if_pos rfl]
        exact ⟨target, rfl, entries_nil_of_dests noDests⟩
      · have other : k ≠ j := fun same => receives.notWaiting i (same ▸ before)
        rw [key, if_neg other]
        exact h.waiters i j before
  · exact appendEntry_agrees h receives.notWaiting (by rw [noDests]; exact List.not_mem_nil)

/-- R84: the members of a group are distinct, so each is a new destination. -/
theorem deliverAll_agrees {k : KeyId} {ms : List PortId} (distinct : ms.Nodup) {s : State} (h : Agrees none s)
    (receives : Receives s k) (new : ∀ p ∈ ms, some (.port p) ∉ dests s.keys[k]) : Agrees none (s.deliverAll k ms) := by
  induction ms generalizing s with
  | nil => exact h
  | cons p ms ih =>
      obtain ⟨first, rest⟩ := List.nodup_cons.1 distinct
      change Agrees none ((if s.keys[k].owner = some p then s else s.deliverTo k (.port p)).deliverAll k ms)
      split
      · exact ih rest h receives fun q mem => new q (List.mem_cons_of_mem _ mem)
      · have delivered := deliverTo_delivers k (.port p) s
        refine ih rest (delivered.agrees h receives (new p List.mem_cons_self)) (delivered.receives receives) fun q mem there => ?_
        rcases delivered.dests there with before | same
        · exact new q (List.mem_cons_of_mem _ mem) before
        · exact first (Endpoint.port.inj (Option.some.inj same) ▸ mem)

theorem deliverAll_pathsWf {k : KeyId} (ms : List PortId) {s : State} (h : PathsWf s) : PathsWf (s.deliverAll k ms) := by
  induction ms generalizing s with
  | nil => exact h
  | cons p ms ih =>
      change PathsWf ((if s.keys[k].owner = some p then s else s.deliverTo k (.port p)).deliverAll k ms)
      split
      · exact ih h
      · exact ih ((deliverTo_delivers _ _ _).pathsWf h)

/-! ## Deliver (R69, R72) -/

theorem deliverGroup_agrees {s : State} {g : GroupId} {k : KeyId} (h : Agrees none s) (receives : Receives s k)
    (noDests : dests s.keys[k] = []) (target : s.keys[k].target = some (.group g)) : Agrees none (s.deliverGroup k g) := by
  unfold State.deliverGroup
  dsimp only
  split
  · exact h
  · split
    · exact deliverAll_agrees (h.members g) h receives fun p _ => by rw [noDests]; exact List.not_mem_nil
    · split
      · exact huntDeliver_agrees _ h receives noDests
      · exact joinQueue_agrees h receives noDests target

theorem joinQueue_paths (g : GroupId) (k : KeyId) (s : State) : (s.joinQueue g k).paths = s.paths := by
  unfold State.joinQueue
  dsimp only
  split <;> rfl

theorem deliverGroup_pathsWf {s : State} (g : GroupId) (k : KeyId) (h : PathsWf s) : PathsWf (s.deliverGroup k g) := by
  unfold State.deliverGroup
  dsimp only
  split
  · exact h
  · split
    · exact deliverAll_pathsWf _ h
    · split
      · exact (deliverTo_delivers _ _ _).pathsWf h
      · rw [PathsWf, joinQueue_paths]; exact h

/-- R69: a delivery of a key that holds no path and waits nowhere. -/
theorem deliver_agrees {s : State} {k : KeyId} (h : Agrees none s) (run : s.mode = .run) (active : Active s.keys[k])
    (free : ¬ Engaged s k) : Agrees none (s.deliver k) := by
  unfold State.deliver
  dsimp only
  generalize begun : s.setKey k { s.keys[k] with delivered := true, entries := [] } = u
  have key : u.keys[k] = { s.keys[k] with delivered := true, entries := [] } := by rw [← begun]; exact tableSet_self _ _ _
  have agrees : Agrees none u := begun ▸ setKey_agrees h free (.inl rfl) List.nodup_nil
  have receives : Receives u k := by
    refine ⟨begun ▸ run, by rw [key]; exact active, fun g waits => free (.inr ⟨g, ?_⟩)⟩
    rw [← begun] at waits
    exact waits
  have noDests : dests u.keys[k] = [] := by rw [key]; rfl
  have new (d : Endpoint) : some d ∉ dests u.keys[k] := by rw [noDests]; exact List.not_mem_nil
  split
  · exact agrees
  · exact (deliverTo_delivers _ _ _).agrees agrees receives (new _)
  · exact (deliverTo_delivers _ _ _).agrees agrees receives (new _)
  · rename_i target; exact deliverGroup_agrees agrees receives noDests target

theorem deliver_pathsWf {s : State} (k : KeyId) (h : PathsWf s) : PathsWf (s.deliver k) := by
  unfold State.deliver
  dsimp only
  split
  · exact h
  · exact (deliverTo_delivers _ _ _).pathsWf h
  · exact (deliverTo_delivers _ _ _).pathsWf h
  · exact deliverGroup_pathsWf _ _ h

/-- R75, R92: a timeout. -/
theorem timeOut_agrees {s : State} {g : GroupId} {k : KeyId} (h : Agrees none s) (waits : k ∈ s.groups[g].waiters) :
    Agrees none (s.timeOut g k) := by
  obtain ⟨receives, noDests⟩ := leaveQueue_receives h waits
  exact appendEntry_agrees (leaveQueue_agrees h (h.waiters g k waits).1) receives.notWaiting (by rw [noDests]; exact List.not_mem_nil)

/-! ## Withdraw (R76) -/

/-- R76 steps 1 and 2: the key has left its lists and its paths. -/
def leftPaths (k : KeyId) (s : State) : State :=
  s.keys[k].entries.foldl (fun s e => s.leavePath k e)
    (s.keys[k].entries.foldl (fun acc e => State.leaveEarpiece k e acc) (s, ([] : List PortId))).1

/-- R76 step 3, R91: the key has left its target group's queue, and its engagement there has ended. -/
def leftGroup (k : KeyId) (s : State) : State × Option GroupId :=
  match s.keys[k].target with
  | some (.group g) =>
      let s3 := if s.keys[k].deadline.isSome then s.leaveQueue g k else s
      if s3.groups[g].engagedFor k then (s3.setGroup g (s3.groups[g].disengage k), some g) else (s3, none)
  | _ => (s, none)

theorem withdraw_eq (k : KeyId) (s : State) : (s.withdraw k).1 = (leftGroup k (leftPaths k s)).1.setKey k
    { (leftGroup k (leftPaths k s)).1.keys[k] with entries := [], delivered := false, deadline := none } := rfl

theorem leftPaths_eases (k : KeyId) (s : State) : Eases s (leftPaths k s) :=
  (leaveEarpieces_eases k s.keys[k].entries (s, [])).trans (Eases.foldl _ (fun s e => leavePath_eases k e s) _ _)

/-- R27, R76: once a key has left the paths of its entries, it holds none of them. -/
theorem leavePaths_gone {k : KeyId} {es : List DestEntry} {e : DestEntry} (mem : e ∈ es) {d : Endpoint} (dest : e.dest = some d)
    (heard : e.status = .live ∨ e.status = .heldBack) {s : State} {q : Path}
    (left : q ∈ (es.foldl (fun s e => s.leavePath k e) s).paths) (path : s.keyPath k d = some q.ident) : k ∉ q.keys := by
  have later (es : List DestEntry) (s : State) : Eases s (es.foldl (fun s e => s.leavePath k e) s) :=
    Eases.foldl _ (fun s e => leavePath_eases k e s) es s
  induction es generalizing s with
  | nil => exact absurd mem List.not_mem_nil
  | cons x es ih =>
      rcases List.mem_cons.1 mem with rfl | mem
      · intro holds
        obtain ⟨p, there, ident, held⟩ := (later es (s.leavePath k e)).holders q left k holds
        have holdsPath : e.status.holdsPath = true := by rcases heard with h | h <;> rw [h] <;> rfl
        have step : s.leavePath k e = s.removeHolder q.ident (.key k) := by
          rw [State.leavePath, dest]
          dsimp only
          rw [if_pos holdsPath, path]
        rw [step] at there
        exact removeHolder_holders there ident held
      · exact ih mem left (((leavePath_eases k x s).keyPath k d).trans path)

theorem leftPaths_free {x : Option KeyId} {k : KeyId} {s : State} (h : Agrees x s) : ∀ q ∈ (leftPaths k s).paths, k ∉ q.keys := by
  intro q mem holds
  have eases := leaveEarpieces_eases k s.keys[k].entries (s, [])
  obtain ⟨p, there, ident, held⟩ := (leftPaths_eases k s).holders q mem k holds
  obtain ⟨path, e, listed, dest, heard⟩ := h.holders p there k held
  rw [ident] at path dest
  exact leavePaths_gone listed dest heard mem ((eases.keyPath k _).trans path) holds

/-- What leaving its group does to a key's paths and queues. -/
theorem leftGroup_agrees {x : Option KeyId} {k : KeyId} {s : State} (h : Agrees x s) : Agrees x (leftGroup k s).1 ∧
    (leftGroup k s).1.paths = s.paths ∧ ∀ g : GroupId, k ∉ (leftGroup k s).1.groups[g].waiters := by
  have ended (g : GroupId) {u : State} (agrees : Agrees x u) (paths : u.paths = s.paths)
      (notWaiting : ∀ i : GroupId, k ∉ u.groups[i].waiters) :
      let b := if u.groups[g].engagedFor k then (u.setGroup g (u.groups[g].disengage k), some g) else (u, none)
      Agrees x b.1 ∧ b.1.paths = s.paths ∧ ∀ i : GroupId, k ∉ b.1.groups[i].waiters := by
    dsimp only
    split
    · have eases := disengage_eases g k u
      exact ⟨eases.agrees agrees, paths, fun i => by rw [eases.waiters]; exact notWaiting i⟩
    · exact ⟨agrees, paths, notWaiting⟩
  unfold leftGroup
  split
  · rename_i g target
    dsimp only
    split
    · exact ended g (leaveQueue_agrees h target) rfl (leaveQueue_notWaiting h target)
    · rename_i noDeadline
      exact ended g h rfl fun i waits => noDeadline (h.waiters i k waits).2.1
  · rename_i noGroup
    exact ⟨h, rfl, fun i waits => noGroup i (h.waiters i k waits).1⟩

theorem withdraw_agrees {s : State} {k : KeyId} (h : Agrees (some k) s) : Agrees none (s.withdraw k).1 := by
  obtain ⟨agrees, paths, notWaiting⟩ := leftGroup_agrees (k := k) ((leftPaths_eases k s).agrees h)
  have free : ¬ Engaged (leftGroup k (leftPaths k s)).1 k := by
    rintro (⟨q, mem, holds⟩ | ⟨g, waits⟩)
    · exact leftPaths_free h q (paths ▸ mem) holds
    · exact notWaiting g waits
  rw [withdraw_eq]
  exact setKey_agrees agrees free (.inr rfl) List.nodup_nil

theorem leftGroup_paths (k : KeyId) (s : State) : (leftGroup k s).1.paths = s.paths := by
  unfold leftGroup
  split
  · dsimp only
    split
    · split <;> rfl
    · split <;> rfl
  · rfl

theorem withdraw_pathsWf {s : State} (k : KeyId) (h : PathsWf s) : PathsWf (s.withdraw k).1 := by
  have left := (leftPaths_eases k s).pathsWf h
  rw [withdraw_eq, PathsWf, State.setKey_paths, leftGroup_paths]
  exact left

end Sys2Proof.Proofs
end

section
/-! PROOFS. What a step can do to the paths, the keys, the groups and the routes: a succession of the events below. -/

namespace Sys2Proof.Proofs

open Sys2Proof.Machine

/-! ## Events -/

/-- From `s` to `t` the paths, the keys, the groups and the active set stay. A swap becomes pending, or is cleared, in RUN alone, and a
judgement falls due for a pending swap alone. -/
structure SameTables (s t : State) : Prop where
  mode : t.mode = s.mode
  paths : t.paths = s.paths
  keys : t.keys = s.keys
  groups : t.groups = s.groups
  active : t.routes.active = s.routes.active
  pending : t.routes.swapPending = s.routes.swapPending ∨ s.mode = .run ∧ t.routes.swapPending = true
  due : t.routes.judgementDue = true → s.routes.judgementDue = true ∨ t.routes.swapPending = true

theorem sameTables_of_eq {s t : State} (mode : t.mode = s.mode) (paths : t.paths = s.paths) (keys : t.keys = s.keys)
    (groups : t.groups = s.groups) (routes : t.routes = s.routes) : SameTables s t :=
  ⟨mode, paths, keys, groups, by rw [routes], .inl (by rw [routes]), fun due => .inl (routes ▸ due)⟩

theorem SameTables.refl (s : State) : SameTables s s := sameTables_of_eq rfl rfl rfl rfl rfl

/-- What one event of a step does. -/
inductive Event (s : State) : State → Prop where
  | other {t : State} (same : SameTables s t) : Event s t
  | activates (k : KeyId) (a : Activation) (may : (a = .held ∨ a = .latched) ∨ ¬ Active s.keys[k]) : Event s (s.setActivation k a)
  | delivers (k : KeyId) (a : Activation) (run : s.mode = .run) (idle : s.keys[k].activation = .idle)
      (active : a = .held ∨ a = .latched) : Event s ((s.setActivation k a).deliver k)
  | withdraws (k : KeyId) (a : Activation) : Event s ((s.setActivation k a).withdraw k).1
  | serves (t : Triggers) : Event s (s.runPasses t)
  | timesOut (g : GroupId) (k : KeyId) (waits : k ∈ s.groups[g].waiters) : Event s (s.timeOut g k)
  | removes (which : Path → Bool) : Event s (s.removeSpent which)
  | ramps : Event s s.advanceRamps
  | judges (due : s.routes.judgementDue = true) : Event s s.judgeSwap
  | exchanges (config : s.mode = .config) : Event s (exchangedSets s)
  | starts (config : s.mode = .config) : Event s s.startRun
  | stops : Event s s.stopRun
  | resets (low : Bool) : Event s (s.resetAll low)
  | writesKey (k : KeyId) (r : KeyRecord) (quiet : s.keyBusy k = false) (entries : r.entries = s.keys[k].entries ∨ r.entries = []) :
      Event s (s.setKey k r)
  | writesGroup (g : GroupId) (r : GroupRecord) (waiters : r.waiters = []) (distinct : (r.members.map Member.port).Nodup) :
      Event s (s.setGroup g r)

/-- A succession of events. -/
abbrev Events : State → State → Prop := Relation.ReflTransGen Event

theorem Events.refl (s : State) : Events s s := Relation.ReflTransGen.refl
theorem Event.all {s t : State} (h : Event s t) : Events s t := Relation.ReflTransGen.single h
theorem Events.trans {s t u : State} (h : Events s t) (h' : Events t u) : Events s u := Relation.ReflTransGen.trans h h'
theorem SameTables.events {s t : State} (h : SameTables s t) : Events s t := (Event.other h).all

theorem Events.foldl {α : Type} (f : State → α → State) (hf : ∀ s x, Events s (f s x)) (xs : List α) (s : State) :
    Events s (xs.foldl f s) := by
  induction xs generalizing s with
  | nil => exact .refl s
  | cons x xs ih => exact (hf s x).trans (ih (f s x))

/-- A condition that every event keeps is kept by all of them. -/
theorem Events.keep {I : State → Prop} (keeps : ∀ s t, Event s t → I s → I t) {s t : State} (h : Events s t) (start : I s) : I t := by
  induction h with
  | refl => exact start
  | tail _ step ih => exact keeps _ _ step ih

/-! ## Channels, checks -/

theorem putChannel_same (ch : ChanId) (c : Machine.Channel) (s : State) : SameTables s (s.putChannel ch c) := by
  rw [putChannel_eq]
  exact sameTables_of_eq rfl rfl rfl rfl rfl

theorem endCheck_same (ch : ChanId) (st : CheckState) (r : Option CheckReason) (n : BlockCount) (s : State) :
    SameTables s (s.endCheck ch st r n) := sameTables_of_eq rfl rfl rfl rfl rfl

theorem abortCheck_same (ch : ChanId) (st : CheckState) (r : Option CheckReason) (n : BlockCount) (s : State) :
    SameTables s (s.abortCheck ch st r n) := by
  unfold State.abortCheck
  split
  · exact endCheck_same ch st r n s
  · exact .refl s

theorem takeCompletion_events (ch : ChanId) (s : State) : Events s (s.takeCompletion ch) := by
  unfold State.takeCompletion
  split
  · dsimp only
    exact Events.trans (endCheck_same ch _ _ _ s).events (putChannel_same _ _ _).events
  · exact .refl s

/-- R159: a window end writes the governor, the gains and the notices. -/
theorem endWindow_eq (s : State) : ∃ gov mix link, s.endWindow = { s with gov := gov, mix := mix, link := link } := by
  have port (p : PortId) (s : State) : ∃ gov mix link, s.endWindowPort p = { s with gov := gov, mix := mix, link := link } := by
    unfold State.endWindowPort
    split
    · dsimp only
      rw [retargetGain_eq]
      split <;> exact ⟨_, _, _, rfl⟩
    · exact ⟨_, _, _, rfl⟩
  have ports (ps : List PortId) (s : State) :
      ∃ gov mix link, ps.foldl (fun s p => s.endWindowPort p) s = { s with gov := gov, mix := mix, link := link } := by
    induction ps generalizing s with
    | nil => exact ⟨_, _, _, rfl⟩
    | cons p ps ih =>
        obtain ⟨gov, mix, link, first⟩ := port p s
        obtain ⟨gov', mix', link', rest⟩ := ih (s.endWindowPort p)
        exact ⟨gov', mix', link', by rw [List.foldl_cons, rest, first]⟩
  unfold State.endWindow
  split
  · obtain ⟨gov, mix, link, eq⟩ := ports (List.finRange 48) { s with gov := { s.gov with windowDue := false } }
    exact ⟨gov, mix, link, eq⟩
  · exact ⟨_, _, _, rfl⟩

theorem endWindow_events (s : State) : Events s s.endWindow := by
  obtain ⟨gov, mix, link, eq⟩ := endWindow_eq s
  rw [eq]
  exact SameTables.events (sameTables_of_eq rfl rfl rfl rfl rfl)

/-! ## Keys (R65 to R68) -/

/-- R65, R66: the transitions of a key: it is delivered from IDLE, and becomes inactive only where it is withdrawn or was inactive. -/
def Legal (now : Activation) : Option (Activation × KeyAction) → Prop
  | none => True
  | some (a, .deliver) => now = .idle ∧ (a = .held ∨ a = .latched)
  | some (_, .withdraw) => True
  | some (a, .nothing) => (a = .held ∨ a = .latched) ∨ ¬(now = .held ∨ now = .latched)

theorem pressTransition_legal (m : KeyMode) (a : Activation) : Legal a (pressTransition m a) := by
  cases m <;> cases a <;> simp [pressTransition, Legal]

theorem releaseTransition_legal (quick : Bool) (m : KeyMode) (a : Activation) : Legal a (releaseTransition quick m a) := by
  cases m <;> cases a <;> cases quick <;> simp [releaseTransition, Legal]

theorem keyTransition_events {s : State} {k : KeyId} (run : s.mode = .run) {t : Option (Activation × KeyAction)}
    (legal : Legal s.keys[k].activation t) : Events s (s.keyTransition k t) := by
  unfold State.keyTransition
  split
  · exact .refl s
  · rename_i a act
    cases act with
    | deliver => exact (Event.delivers k a run legal.1 legal.2).all
    | withdraw => exact (Event.withdraws k a).all.trans (Event.serves _).all
    | nothing => exact (Event.activates k a legal).all

theorem callCue_events {s : State} (k : KeyId) (run : s.mode = .run) : Events s (s.callCue k) := by
  unfold State.callCue
  split
  · rename_i may
    simp only [Bool.and_eq_true, decide_eq_true_eq] at may
    exact keyTransition_events run ⟨may.2, .inr rfl⟩
  · exact .refl s

theorem cancelCue_events {s : State} (k : KeyId) (run : s.mode = .run) : Events s (s.cancelCue k) := by
  unfold State.cancelCue
  split
  · exact keyTransition_events run trivial
  · exact .refl s

theorem forceCallKey_events (k : KeyId) (s : State) : Events s (s.forceCallKey k).1 := by
  unfold State.forceCallKey
  split
  · exact (Event.withdraws k .idle).all
  · exact .refl s

/-! ## The device's own steps -/

theorem leaveLive_events (ch : ChanId) (c : Machine.Channel) (r : CheckReason) (s : State) : Events s (s.leaveLive ch c r) := by
  unfold State.leaveLive
  dsimp only
  refine Events.trans (Events.trans ?_ (abortCheck_same ch .failed (some r) s.eventBlock _).events) (Event.serves _).all
  split
  · exact (putChannel_same ch c s).events.trans (forceCallKey_events _ _)
  · exact (putChannel_same ch c s).events

theorem takeDrop_events (ch : ChanId) (s : State) : Events s (s.takeDrop ch) := by
  unfold State.takeDrop
  split
  · exact (endWindow_events s).trans (leaveLive_events _ _ _ _)
  · exact .refl s

theorem takeIdleLimit_events (ch : ChanId) (s : State) : Events s (s.takeIdleLimit ch) := by
  unfold State.takeIdleLimit
  split
  · exact (endWindow_events s).trans (leaveLive_events _ _ _ _)
  · exact .refl s

theorem takeConcealLimit_events (ch : ChanId) (s : State) : Events s (s.takeConcealLimit ch) := by
  unfold State.takeConcealLimit
  split
  · exact (putChannel_same _ _ _).events
  · exact .refl s

theorem takeRecovery_events (ch : ChanId) (s : State) : Events s (s.takeRecovery ch) := by
  unfold State.takeRecovery
  split
  · exact (putChannel_same _ _ _).events
  · exact .refl s

theorem settleChannel_events (ch : ChanId) (s : State) : Events s (s.settleChannel ch) :=
  (((takeDrop_events ch s).trans (takeIdleLimit_events ch _)).trans (takeConcealLimit_events ch _)).trans (takeRecovery_events ch _)

theorem takeTimeout_events (k : KeyId) (s : State) : Events s (s.takeTimeout k) := by
  unfold State.takeTimeout
  split
  · rename_i g _
    split
    · rename_i due; exact (Event.timesOut g k ((timeoutDue_iff s g k).1 due).2.1).all
    · exact .refl s
  · exact .refl s

theorem takeJudgement_events (s : State) : Events s s.takeJudgement := by
  unfold State.takeJudgement
  split
  · rename_i due
    have same : s.endWindow.routes = s.routes := by
      obtain ⟨gov, mix, link, eq⟩ := endWindow_eq s
      rw [eq]
    exact (endWindow_events s).trans (Event.judges (same ▸ due)).all
  · exact .refl s

theorem settleSteps_events (s : State) : Events s s.settleSteps := by
  unfold State.settleSteps
  dsimp only
  refine Events.trans ?_ (takeJudgement_events _)
  refine Events.trans ?_ (Events.foldl _ (fun s g => Events.foldl _ (fun s k => takeTimeout_events k s) _ s) _ _)
  refine Events.trans ?_ (Events.foldl _ (fun s ch => takeCompletion_events ch s) _ _)
  refine Events.trans ?_ (Events.foldl _ (fun s ch => settleChannel_events ch s) _ _)
  exact (endWindow_events s).trans (Event.removes _).all

theorem takeClockPresent_events (s : State) : Events s s.takeClockPresent := by
  cases due : s.presenceDue with
  | false => rw [takeClockPresent_of_not_due due]
  | true =>
      rw [takeClockPresent_of_due due]
      exact SameTables.events (sameTables_of_eq rfl rfl rfl rfl rfl)

theorem settle_events (s : State) : Events s s.settle :=
  ((settleSteps_events s).trans (takeClockPresent_events _)).trans (settleSteps_events _)

/-- R10, R42: a block in RUN is its yields, its ramps, its mix and frames, and its count. -/
theorem takeBoundary_events (s : State) : Events s s.takeBoundary := by
  cases due : s.boundaryDue with
  | false => rw [takeBoundary_of_not_due due]
  | true =>
      cases mode : s.mode with
      | config =>
          rw [takeBoundary_of_config due mode]
          exact SameTables.events (sameTables_of_eq rfl rfl rfl rfl rfl)
      | run =>
          rw [takeBoundary_of_run due mode]
          have yields : SameTables s (yielded s.blockCount s) := sameTables_of_eq rfl rfl rfl rfl rfl
          have counts : SameTables (yielded s.blockCount s).advanceRamps (afterBlock s.blockCount s) :=
            ⟨rfl, rfl, rfl, rfl, rfl, .inl rfl, fun due => .inr due⟩
          exact (yields.events.trans Event.ramps.all).trans counts.events

theorem passBoundary_events (s : State) : Events s s.passBoundary := by
  unfold State.passBoundary
  split
  · exact (takeBoundary_events s).trans (settleSteps_events _)
  · exact .refl s

end Sys2Proof.Proofs
end

section
/-! PROOFS. Every command is a succession of events. -/

namespace Sys2Proof.Proofs

open Sys2Proof.Machine

/-! ## Requests executed in CONFIG -/

theorem closeChannel_events (c : ChanId) (s : State) : Events s (s.closeChannel c) := by
  unfold State.closeChannel
  split
  · exact .refl s
  · exact (putChannel_same _ _ _).events

theorem writePort_events (p : PortId) (k : PortKind) (i o : Option Slot) (c : Option ChanId) (s : State) :
    Events s (s.writePort p k i o c) := by
  have written : SameTables s (s.portWritten p k i o c) := by
    unfold State.portWritten
    dsimp only
    split <;> exact sameTables_of_eq rfl rfl rfl rfl rfl
  by_cases kept : s.ports[p].channel = none ∨ s.ports[p].channel = c
  · rw [writePort_of_kept k i o kept]
    exact written.events
  · obtain ⟨old, bound⟩ := Option.ne_none_iff_exists'.1 fun none => kept (.inl none)
    rw [writePort_of_left k i o bound fun same => kept (.inr (bound.trans same.symm))]
    exact written.events.trans (closeChannel_events _ _)

theorem portRequest_events (n k : Nat) (i o c : Option Nat) (s : State) : Events s (s.portRequest n k i o c).1 := by
  unfold State.portRequest
  dsimp only
  split
  · split
    · iterate 5 (split; · exact .refl s)
      exact writePort_events _ _ _ _ _ _
    · exact .refl s
  · exact .refl s

theorem closeRequest_events (c : Nat) (s : State) : Events s (s.closeRequest c).1 := by
  unfold State.closeRequest
  split
  · exact closeChannel_events _ _
  · exact .refl s

theorem channelRequest_events (c op : Nat) (id : LinkId) (pr md ck : Option Nat) (s : State) :
    Events s (s.channelRequest c op id pr md ck).1 := by
  unfold State.channelRequest
  split
  · exact closeRequest_events _ _
  · split
    · split
      · exact .refl s
      · exact (putChannel_same _ _ _).events
    · exact .refl s
  · exact .refl s

theorem filterRequest_events (n e : Nat) (v m : LinkId) (c : Nat) (s : State) : Events s (s.filterRequest n e v m c).1 := by
  unfold State.filterRequest
  split <;> exact SameTables.events (sameTables_of_eq rfl rfl rfl rfl rfl)

theorem governorRequest_events (m : Nat) (tl tm c1 c2 l : Option Nat) (s : State) :
    Events s (s.governorRequest m tl tm c1 c2 l).1 := by
  unfold State.governorRequest
  split <;> exact SameTables.events (sameTables_of_eq rfl rfl rfl rfl rfl)

/-! ## Definitions and routes -/

theorem trimRequest_events (n v : Nat) (dip : Option Nat) (s : State) : Events s (s.trimRequest n v dip).1 := by
  unfold State.trimRequest
  split
  · rename_i p _
    split
    · obtain ⟨ears, link, eq, -⟩ := writeTrim_lists s p v dip
      rw [accept, eq]
      exact SameTables.events (sameTables_of_eq rfl rfl rfl rfl rfl)
    · exact .refl s
  · exact .refl s

theorem removeRequest_events (n : Nat) (s : State) : Events s (s.removeRequest n).1 := by
  unfold State.removeRequest
  split
  · rename_i k _
    split
    · exact .refl s
    · rename_i quiet
      split
      · exact .refl s
      · exact (Event.writesKey k _ (Bool.eq_false_iff.2 quiet) (.inr rfl)).all
  · exact .refl s

theorem keyRequest_events (n o tt tn : Nat) (l pr m : Option Nat) (s : State) : Events s (s.keyRequest n o tt tn l pr m).1 := by
  unfold State.keyRequest
  split
  · exact removeRequest_events _ _
  · split
    · rename_i k owner target mode _ _ _ _
      split
      · exact .refl s
      · rename_i quiet
        split
        · exact .refl s
        · split
          · exact .refl s
          · exact Event.all (Event.writesKey k (s.keys[k].define owner target l pr mode) (Bool.eq_false_iff.2 quiet) (.inl rfl))
    · exact .refl s

/-- R82, R83: a group that is written has no waiters, and its members are those given. -/
theorem groupWritten_spec (mode : GroupMode) (timeout : Option Nat) {ports : List PortId} (distinct : ports.Nodup) :
    (groupWritten mode timeout ports).waiters = [] ∧ ((groupWritten mode timeout ports).members.map Member.port).Nodup := by
  unfold groupWritten
  split
  · exact ⟨rfl, List.nodup_nil⟩
  · refine ⟨rfl, ?_⟩
    rw [List.map_map]
    exact (List.map_id' ports).symm ▸ distinct

theorem groupRequest_events (n m : Nat) (t : Option Nat) (ms : List Nat) (s : State) : Events s (s.groupRequest n m t ms).1 := by
  unfold State.groupRequest
  split
  · rename_i g mode ports _ _ _
    split
    · exact .refl s
    · split
      · exact .refl s
      · split
        · exact .refl s
        · rename_i distinct
          obtain ⟨waiters, members⟩ := groupWritten_spec mode t (not_not.1 distinct)
          split
          · exact .refl s
          · exact (Event.writesGroup g _ waiters members).all
  · exact .refl s

theorem presenceRequest_events (n v : Nat) (s : State) : Events s (s.presenceRequest n v).1 := by
  have written (p : PortId) (r : PortRecord) : SameTables s (s.setPort p r) := sameTables_of_eq rfl rfl rfl rfl rfl
  unfold State.presenceRequest
  split
  · split
    · unfold accept State.writePresence
      dsimp only
      split
      · exact (written _ _).events.trans (Event.serves _).all
      · exact (written _ _).events
    · exact .refl s
  · exact .refl s

/-- R167, R168: the requests that edit the standby set. -/
theorem standby_events (rs : List Route) (s : State) : Events s { s with routes := { s.routes with standby := rs } } :=
  SameTables.events ⟨rfl, rfl, rfl, rfl, rfl, .inl rfl, .inl⟩

theorem routeAddRequest_events (a d c : Nat) (l : Option Nat) (s : State) : Events s (s.routeAddRequest a d c l).1 := by
  unfold State.routeAddRequest
  split
  · iterate 3 (split; · exact .refl s)
    exact standby_events _ s
  · exact .refl s

theorem routeDropRequest_events (a d c : Nat) (s : State) : Events s (s.routeDropRequest a d c).1 := by
  unfold State.routeDropRequest
  split
  · iterate 2 (split; · exact .refl s)
    exact standby_events _ s
  · exact .refl s

theorem routeCopyRequest_events (s : State) : Events s s.routeCopyRequest.1 := by
  unfold State.routeCopyRequest
  split
  · exact .refl s
  · exact standby_events _ s

theorem swapRequest_events (s : State) : Events s s.swapRequest.1 := by
  unfold State.swapRequest
  split
  · rename_i config
    exact (Event.exchanges config).all
  · rename_i run
    split
    · exact .refl s
    · exact SameTables.events ⟨rfl, rfl, rfl, rfl, rfl, .inr ⟨run, rfl⟩, .inl⟩

/-! ## Requests executed in RUN, and queries -/

theorem keyPressRequest_events (n : Nat) {f : State → KeyId → Option (Activation × KeyAction)} {s : State} (run : s.mode = .run)
    (legal : ∀ k, Legal s.keys[k].activation (f s k)) : Events s (s.keyPressRequest n f).1 := by
  unfold State.keyPressRequest
  split
  · split
    · exact .refl s
    · exact keyTransition_events run (legal _)
  · exact .refl s

theorem cueSendRequest_events (c q : Nat) (s : State) : Events s (s.cueSendRequest c q).1 := by
  unfold State.cueSendRequest
  split
  · iterate 3 (split; · exact .refl s)
    exact SameTables.events (sameTables_of_eq rfl rfl rfl rfl rfl)
  · exact .refl s

theorem checkStartRequest_events (c : Nat) (d f : Option Nat) (s : State) : Events s (s.checkStartRequest c d f).1 := by
  unfold State.checkStartRequest
  split
  · split
    · exact .refl s
    · split
      · exact SameTables.events (sameTables_of_eq rfl rfl rfl rfl rfl)
      · exact .refl s
  · exact .refl s

theorem checkStopRequest_events (c : Nat) (s : State) : Events s (s.checkStopRequest c).1 := by
  unfold State.checkStopRequest
  split
  · exact (abortCheck_same _ _ _ _ s).events
  · exact .refl s

theorem query_events {α : Type} (x : Option α) (f : α → Except Status (List Field)) (s : State) : Events s (s.query x f).1 := by
  unfold State.query
  split
  · exact .refl s
  · split <;> exact .refl s

/-! ## Taking a request or an event -/

theorem linkWritten_same (l : ControlLink) (s : State) : SameTables s { s with link := l } := sameTables_of_eq rfl rfl rfl rfl rfl

theorem openWrite_same (s : State) : SameTables s s.openWrite := linkWritten_same _ s
theorem refuseWrite_same (s : State) : SameTables s s.refuseWrite := linkWritten_same _ s
theorem answer_same (kind tag : Byte) (a : Answer) : SameTables a.1 (State.answer kind tag a) := linkWritten_same _ a.1

theorem request_events {kind tag : Byte} {allowed : AllowedIn} {act : State → Answer}
    (h : ∀ s : State, allowed.admits s.mode = true → Events s (act s).1) (s : State) :
    Events s (s.request kind tag allowed act) := by
  unfold State.request
  split
  · exact .refl s
  · dsimp only
    have opened : Events s s.settle.openWrite := (settle_events s).trans (openWrite_same _).events
    split
    · exact opened.trans (refuseWrite_same _).events
    · split
      · rename_i admits
        exact opened.trans ((h _ admits).trans (answer_same kind tag _).events)
      · exact opened.trans (answer_same kind tag (refuse .wrongMode s.settle.openWrite)).events

theorem event_events {f : State → State} (h : ∀ s, Events s (f s)) (s : State) : Events s (s.event f) := by
  unfold State.event
  split
  · exact .refl s
  · exact (settle_events s).trans (h _)

theorem ownStep_events {f : State → State} (h : ∀ s, Events s (f s)) (s : State) : Events s (s.ownStep f) := by
  unfold State.ownStep
  split
  · exact .refl s
  · exact h s

/-! ## The clock, the lanes, the link port, the control link -/

theorem declareLost_events (s : State) : Events s s.declareLost := by
  unfold State.declareLost
  split
  · exact SameTables.events (sameTables_of_eq rfl rfl rfl rfl rfl)
  · exact .refl s

theorem takeSync_events (gap : Bool) (slots : SlotFrame) (s : State) : Events s (s.takeSync gap slots) := by
  have framed (s1 : State) : Events s1 (if s1.lanes.clockPresent then s1.captureAndDrive slots else s1.countSync gap) := by
    split <;> exact SameTables.events (sameTables_of_eq rfl rfl rfl rfl rfl)
  unfold State.takeSync
  dsimp only
  refine Events.trans ?_ (framed _)
  split
  · exact declareLost_events s
  · exact passBoundary_events s

theorem arrival_events {id : LinkId} {take : ChanId → State → State} (h : ∀ ch (s : State), s.mode = .run → Events s (take ch s))
    (s : State) : Events s (s.arrival id take) := by
  unfold State.arrival
  split
  · exact .refl s
  · rename_i run
    dsimp only
    refine Events.trans (t := { s with eventBlock := s.blockCount }) (SameTables.events (sameTables_of_eq rfl rfl rfl rfl rfl)) ?_
    split
    · exact SameTables.events (sameTables_of_eq rfl rfl rfl rfl rfl)
    · exact h _ _ run

theorem audioTo_events (ch : ChanId) (q : Seq) (payload : Option Block) (s : State) : Events s (s.audioTo ch q payload) := by
  have passes (s : State) (before : ChanState) : Events s (s.passesForRunning ch before) := by
    unfold State.passesForRunning
    split
    · split
      · exact (Event.serves _).all
      · exact .refl s
    · exact .refl s
  exact (putChannel_same ch _ s).events.trans (passes _ _)

theorem cueTo_events (ch : ChanId) (code : Byte) {s : State} (run : s.mode = .run) : Events s (s.cueTo ch code) := by
  unfold State.cueTo
  dsimp only
  have noted : Events s ((s.setChannel ch { s.rx.channels[ch] with lastCue := some code }).report (.cueIn ch code s.blockCount)) :=
    SameTables.events (sameTables_of_eq rfl rfl rfl rfl rfl)
  split
  · split
    · split
      · exact noted.trans (callCue_events _ run)
      · exact noted.trans (cancelCue_events _ run)
    · exact noted
  · exact noted

theorem cuePayload_events (payload : List Byte) (ch : ChanId) {s : State} (run : s.mode = .run) :
    Events s (s.cuePayload payload ch) := by
  unfold State.cuePayload
  split
  · exact cueTo_events _ _ run
  · exact .refl s

theorem malformed_events (s : State) : Events s s.malformed := by
  unfold State.malformed
  split
  · exact .refl s
  · exact SameTables.events (sameTables_of_eq rfl rfl rfl rfl rfl)

theorem arbitrate_events (ready : Bool) (s : State) : Events s (s.arbitrate ready) := by
  unfold State.arbitrate
  split
  · unfold State.beginFrame
    split
    · exact SameTables.events (sameTables_of_eq rfl rfl rfl rfl rfl)
    · split
      · exact SameTables.events (sameTables_of_eq rfl rfl rfl rfl rfl)
      · exact .refl s
  · exact .refl s

theorem finishFrame_events (s : State) : Events s s.finishFrame := by
  unfold State.finishFrame
  split <;> exact SameTables.events (sameTables_of_eq rfl rfl rfl rfl rfl)

theorem badFrame_events (kind tag : Option Byte) (s : State) : Events s (s.badFrame kind tag) := by
  unfold State.badFrame
  dsimp only
  split <;> exact SameTables.events (sameTables_of_eq rfl rfl rfl rfl rfl)

theorem beginTransaction_events (type : Byte) (s : State) : Events s (s.beginTransaction type) := by
  unfold State.beginTransaction
  split <;> exact SameTables.events (sameTables_of_eq rfl rfl rfl rfl rfl)

/-! ## Every command -/

theorem exec_resetInput_events (low : Bool) (s : State) : Events s (if low || s.rstnLow then s.resetAll low else s) := by
  split
  · exact (Event.resets low).all
  · exact .refl s

theorem exec_restart_events (s : State) : Events s (if s.rstnLow then s else
    if s.settle.openWrite.repliesFull then s.settle.openWrite.refuseWrite else s.settle.openWrite.restartAll) := by
  have opened : Events s s.settle.openWrite := (settle_events s).trans (openWrite_same _).events
  split
  · exact .refl s
  · split
    · exact opened.trans (refuseWrite_same _).events
    · exact (opened.trans (Event.resets false).all).trans (linkWritten_same _ _).events

theorem start_events (s : State) : Events s (match s.mode with | .config => s.startRun | .run => s) := by
  split
  · rename_i config; exact (Event.starts config).all
  · exact .refl s

theorem stop_events (s : State) : Events s (match s.mode with | .run => s.stopRun | .config => s) := by
  split
  · exact Event.stops.all
  · exact .refl s

/-- What a command leaves is reached by a succession of events. -/
theorem exec_events (c : Instr) (s : State) : ∃ t, exec c s = .next t ∧ Events s t := by
  have admitted {s : State} (admits : AllowedIn.runOnly.admits s.mode = true) : s.mode = .run := by
    cases mode : s.mode with
    | run => rfl
    | config => rw [mode] at admits; cases admits
  cases c with
  | resetInput low => exact ⟨_, rfl, exec_resetInput_events low s⟩
  | start => exact ⟨_, rfl, request_events (fun s _ => start_events s) s⟩
  | stop => exact ⟨_, rfl, request_events (fun s _ => stop_events s) s⟩
  | restart => exact ⟨_, rfl, exec_restart_events s⟩
  | port => exact ⟨_, rfl, request_events (fun s _ => portRequest_events _ _ _ _ _ s) s⟩
  | channel => exact ⟨_, rfl, request_events (fun s _ => channelRequest_events _ _ _ _ _ _ s) s⟩
  | channelClose => exact ⟨_, rfl, request_events (fun s _ => closeRequest_events _ s) s⟩
  | filter => exact ⟨_, rfl, request_events (fun s _ => filterRequest_events _ _ _ _ _ s) s⟩
  | governor => exact ⟨_, rfl, request_events (fun s _ => governorRequest_events _ _ _ _ _ _ s) s⟩
  | trim => exact ⟨_, rfl, request_events (fun s _ => trimRequest_events _ _ _ s) s⟩
  | key => exact ⟨_, rfl, request_events (fun s _ => keyRequest_events _ _ _ _ _ _ _ s) s⟩
  | keyRemove => exact ⟨_, rfl, request_events (fun s _ => removeRequest_events _ s) s⟩
  | group => exact ⟨_, rfl, request_events (fun s _ => groupRequest_events _ _ _ _ s) s⟩
  | presence => exact ⟨_, rfl, request_events (fun s _ => presenceRequest_events _ _ s) s⟩
  | routeAdd => exact ⟨_, rfl, request_events (fun s _ => routeAddRequest_events _ _ _ _ s) s⟩
  | routeDrop => exact ⟨_, rfl, request_events (fun s _ => routeDropRequest_events _ _ _ s) s⟩
  | routeCopy => exact ⟨_, rfl, request_events (fun s _ => routeCopyRequest_events s) s⟩
  | swap => exact ⟨_, rfl, request_events (fun s _ => swapRequest_events s) s⟩
  | notify | resync =>
      exact ⟨_, rfl, request_events (fun s _ => (linkWritten_same _ s).events) s⟩
  | press =>
      exact ⟨_, rfl, request_events (fun s run => keyPressRequest_events _ (admitted run) fun k => pressTransition_legal _ _) s⟩
  | release =>
      exact ⟨_, rfl, request_events (fun s run => keyPressRequest_events _ (admitted run) fun k => releaseTransition_legal _ _ _) s⟩
  | cueSend => exact ⟨_, rfl, request_events (fun s _ => cueSendRequest_events _ _ s) s⟩
  | checkStart => exact ⟨_, rfl, request_events (fun s _ => checkStartRequest_events _ _ _ s) s⟩
  | checkStop => exact ⟨_, rfl, request_events (fun s _ => checkStopRequest_events _ s) s⟩
  | queryPort | queryPaths | queryKey | queryGroup | queryEarpiece | queryChannel | queryProtect | queryRoutes =>
      exact ⟨_, rfl, request_events (fun s _ => query_events _ _ s) s⟩
  | badFrame => exact ⟨_, rfl, event_events (badFrame_events _ _) s⟩
  | readTransaction => exact ⟨_, rfl, event_events (fun s => (linkWritten_same _ s).events) s⟩
  | otherTransaction => exact ⟨_, rfl, event_events (beginTransaction_events _) s⟩
  | blockBoundary => exact ⟨_, rfl, ownStep_events (fun s => (settleSteps_events s).trans (takeBoundary_events _)) s⟩
  | concealLimit ch => exact ⟨_, rfl, ownStep_events (takeConcealLimit_events ch) s⟩
  | channelIdleLimit ch => exact ⟨_, rfl, ownStep_events (takeIdleLimit_events ch) s⟩
  | channelDrop ch => exact ⟨_, rfl, ownStep_events (takeDrop_events ch) s⟩
  | channelRecovery ch => exact ⟨_, rfl, ownStep_events (takeRecovery_events ch) s⟩
  | checkCompletion ch => exact ⟨_, rfl, ownStep_events (takeCompletion_events ch) s⟩
  | pathRemoval => exact ⟨_, rfl, ownStep_events (fun s => (Event.removes _).all) s⟩
  | waitTimeout k => exact ⟨_, rfl, ownStep_events (takeTimeout_events k) s⟩
  | windowEnd => exact ⟨_, rfl, ownStep_events endWindow_events s⟩
  | swapJudgement => exact ⟨_, rfl, ownStep_events takeJudgement_events s⟩
  | clockLost => exact ⟨_, rfl, event_events declareLost_events s⟩
  | clockPresent => exact ⟨_, rfl, ownStep_events (fun s => (settleSteps_events s).trans (takeClockPresent_events _)) s⟩
  | audioFrameArrival => exact ⟨_, rfl, event_events (arrival_events fun ch s _ => audioTo_events ch _ _ s) s⟩
  | cueFrameArrival => exact ⟨_, rfl, event_events (arrival_events fun ch s run => cuePayload_events _ ch run) s⟩
  | malformedLinkFrame => exact ⟨_, rfl, event_events malformed_events s⟩
  | linkFrameBegin ready => exact ⟨_, rfl, event_events (arbitrate_events ready) s⟩
  | linkFrameSent => exact ⟨_, rfl, event_events finishFrame_events s⟩
  | frameSync gap slots => exact ⟨_, rfl, event_events (takeSync_events gap slots) s⟩
  | readTransactionEnd =>
      exact ⟨_, rfl, event_events (fun s => (linkWritten_same _ s).events) s⟩

/-- What a step leaves is reached by a succession of events. -/
theorem step_events {s t : State} (h : step s = .next t) : Events s t := by
  rw [step] at h
  split at h
  · rw [Host.Outcome.next.inj h]
  · rename_i c rest _
    obtain ⟨u, eq, events⟩ := exec_events c { s with pending := rest }
    rw [Host.Outcome.next.inj (h.symm.trans eq)]
    have taken : SameTables s { s with pending := rest } := sameTables_of_eq rfl rfl rfl rfl rfl
    exact taken.events.trans events

end Sys2Proof.Proofs
end

section
/-! PROOFS. Every step keeps the path table: what the path table's invariants keep under every event. -/

namespace Sys2Proof.Proofs

open Sys2Proof.Machine

/-! ## The events that write many records -/

/-- R170: the sets of routes once a judgement has been made. -/
def judged (s : State) : State := { s with routes := { s.routes with swapPending := false, judgementDue := false } }

/-- R170: a judgement fails and reports, or exchanges the sets and reports. -/
theorem judgeSwap_cases (s : State) : ∃ n, s.judgeSwap = (judged s).report n ∨ s.judgeSwap = (judged s).exchange.report n := by
  unfold State.judgeSwap
  dsimp only
  split
  · exact ⟨_, .inl rfl⟩
  · exact ⟨_, .inr rfl⟩

/-- R15: START, before it opens the paths of the active set. -/
def begun (s : State) : State :=
  { s with
    mode := .run
    blockCount := 0
    lanes := { s.lanes with outBlock := none }
    mix := { gains := s.startGains, clips := Vector.replicate 48 0 }
    rx := { s.rx with unmatched := 0 }
    tx := { s.tx with outSeq := Vector.replicate 8 0 } }

theorem startRun_eq_openRoutes (s : State) : s.startRun = (begun s).openRoutes := rfl

theorem stopRun_paths (s : State) : s.stopRun.paths = [] := by rw [stopRun_eq, stopped]
theorem resetAll_paths (low : Bool) (s : State) : (s.resetAll low).paths = [] := rfl

theorem forall_mem_of_eq_nil {ps : List Path} {P : Path → Prop} (none : ps = []) : ∀ q ∈ ps, P q := fun q mem => by
  rw [none] at mem
  exact absurd mem List.not_mem_nil

/-! ## The order of the table (R19, R40) -/

theorem pathTableWf_nil : pathTableWf [] := ⟨.nil, forall_mem_of_eq_nil rfl, .nil, fun _ => Nat.zero_le _⟩

theorem event_pathTableWf {s t : State} (e : Event s t) (h : pathTableWf s.paths) : pathTableWf t.paths := by
  cases e with
  | other same => rw [same.paths]; exact h
  | activates | exchanges | writesKey | writesGroup => exact h
  | delivers k a => exact changes_pathTableWf (State.deliver_changes k (s.setActivation k a)) h
  | withdraws k a => exact changes_pathTableWf (State.withdraw_changes k (s.setActivation k a)) h
  | serves t => exact changes_pathTableWf (State.runPasses_changes t s) h
  | timesOut g k => exact changes_pathTableWf (State.timeOut_changes g k s) h
  | removes which => exact pathTableWf_sublist List.filter_sublist h
  | ramps =>
      refine pathTableWf_of_same ?_ h
      rw [State.advanceRamps, List.map_map]
      rfl
  | judges =>
      obtain ⟨n, eq | eq⟩ := judgeSwap_cases s
      · rw [eq]; exact h
      · rw [eq, State.report_paths]; exact changes_pathTableWf (s := exchangedSets (judged s)) (State.exchange_changes (judged s)) h
  | starts => exact changes_pathTableWf (openRoutes_changes (begun s)) h
  | stops => rw [stopRun_paths]; exact pathTableWf_nil
  | resets => exact pathTableWf_nil

/-! ## The records (R28, R31) -/

/-- R171: ROUTE joins, and leaves, well-formed records. -/
theorem exchange_pathsWf {s : State} (h : PathsWf s) : PathsWf s.exchange := by
  have enters (incoming : List Route) {u : State} (h : PathsWf u) :
      PathsWf (incoming.foldl (openEntering s.routes.active) u) := by
    induction incoming generalizing u with
    | nil => exact h
    | cons r rs ih =>
        refine ih ?_
        unfold openEntering
        split
        · exact addHolder_pathsWf r.ident .route false (fun _ => rfl) h
        · split
          · exact h
          · exact (relevelPath_eases r.ident u).pathsWf h
  rw [exchange_eq]
  exact enters _ ((Eases.foldl _ (dropLeaving_eases _) _ (exchangedSets s)).pathsWf h)

theorem event_pathsWf {s t : State} (e : Event s t) (h : PathsWf s) : PathsWf t := by
  cases e with
  | other same => rw [PathsWf, same.paths]; exact h
  | activates | exchanges | writesKey | writesGroup | timesOut => exact h
  | delivers k a => exact deliver_pathsWf (s := s.setActivation k a) k h
  | withdraws k a => exact withdraw_pathsWf (s := s.setActivation k a) k h
  | serves t => exact runPasses_keeps (fun g n _ h => servicePass_pathsWf g n h) t h
  | removes which => exact fun q mem => h q (List.mem_filter.1 mem).1
  | ramps =>
      intro q mem
      obtain ⟨p, there, rfl⟩ := List.mem_map.1 mem
      exact advance_wf (h p there)
  | judges =>
      obtain ⟨n, eq | eq⟩ := judgeSwap_cases s
      · rw [eq]; exact h
      · rw [eq]; exact exchange_pathsWf (s := judged s) h
  | starts => exact (openRoutes_eases (s := begun s) rfl).pathsWf h
  | stops => exact forall_mem_of_eq_nil (stopRun_paths s)
  | resets low => exact forall_mem_of_eq_nil (resetAll_paths low s)

/-! ## Paths, queues and delivery lists -/

/-- The agreement speaks of the paths by their identities and their key holders. -/
theorem Agrees.carry {s t : State} (h : Agrees none s)
    (paths : ∀ q ∈ t.paths, ∃ p ∈ s.paths, p.ident = q.ident ∧ p.keys = q.keys) (keys : t.keys = s.keys)
    (groups : t.groups = s.groups) (config : t.mode = .config → s.mode = .config ∧ t.routes.swapPending = false)
    (due : t.routes.judgementDue = true → t.routes.swapPending = true) : Agrees none t where
  config mode := by
    obtain ⟨mode', pending⟩ := config mode
    obtain ⟨none, waiters, -⟩ := h.config mode'
    refine ⟨List.eq_nil_iff_forall_not_mem.2 fun q mem => ?_, groups ▸ waiters, pending⟩
    obtain ⟨p, there, -⟩ := paths q mem
    rw [none] at there
    exact absurd there List.not_mem_nil
  judged := due
  members := groups ▸ h.members
  destinations := keys ▸ h.destinations
  active k engaged := by
    rw [keys]
    rcases engaged with ⟨q, mem, holds⟩ | waits
    · obtain ⟨p, there, -, same⟩ := paths q mem
      exact h.active k (.inl ⟨p, there, same ▸ holds⟩)
    · exact h.active k (.inr (groups ▸ waits))
  holders q mem k holds := by
    obtain ⟨p, there, ident, same⟩ := paths q mem
    obtain ⟨path, delivered⟩ := h.holders p there k (same ▸ holds)
    rw [ident] at path delivered
    exact ⟨(keyPath_of_owner (by rw [keys]) _).trans path, delivers_of_entries (by rw [keys]) delivered⟩
  waiters := groups ▸ keys ▸ h.waiters

/-- R41, R98, R173: nothing is delivered and nobody waits. -/
theorem agrees_of_quiet {t : State} (paths : t.paths = []) (waiters : ∀ g : GroupId, t.groups[g].waiters = [])
    (pending : t.routes.swapPending = false) (due : t.routes.judgementDue = false)
    (members : ∀ g : GroupId, (t.groups[g].members.map Member.port).Nodup) (entries : ∀ k : KeyId, t.keys[k].entries = []) :
    Agrees none t where
  config _ := ⟨paths, waiters, pending⟩
  judged h := by rw [due] at h; cases h
  members := members
  destinations k := by rw [dests, entries]; exact List.nodup_nil
  active k engaged := by
    rcases engaged with ⟨q, mem, -⟩ | ⟨g, waits⟩
    · rw [paths] at mem; exact absurd mem List.not_mem_nil
    · rw [waiters] at waits; exact absurd waits List.not_mem_nil
  holders := forall_mem_of_eq_nil paths
  waiters g k waits := by rw [waiters] at waits; exact absurd waits List.not_mem_nil

theorem stopRun_agrees {s : State} (h : Agrees none s) : Agrees none s.stopRun := by
  rw [stopRun_eq]
  have group (g : GroupId) : (stopped s).groups[g] = s.groups[g].stop := tableMap_get _ _ g
  have key (k : KeyId) : (stopped s).keys[k] = s.keys[k].stop := tableMap_get _ _ k
  refine agrees_of_quiet rfl (fun g => by rw [group]; rfl) rfl ?_ (fun g => ?_) fun k => by rw [key]; rfl
  · change (if s.routes.swapPending then false else s.routes.judgementDue) = false
    split
    · rfl
    · rename_i notPending
      exact Bool.eq_false_iff.2 fun due => notPending (h.judged due)
  · rw [group, GroupRecord.stop, List.map_map]
    exact h.members g

theorem resetAll_agrees (low : Bool) (s : State) : Agrees none (s.resetAll low) := by
  have group (g : GroupId) : (s.resetAll low).groups[g] = GroupRecord.reset := Vector.getElem_replicate _
  have key (k : KeyId) : (s.resetAll low).keys[k] = KeyRecord.reset := Vector.getElem_replicate _
  exact agrees_of_quiet rfl (fun g => by rw [group]; rfl) rfl rfl (fun g => by rw [group]; exact List.nodup_nil)
    fun k => by rw [key]; rfl

theorem agrees_of_sameTables {s t : State} (same : SameTables s t) (h : Agrees none s) : Agrees none t := by
  refine h.carry (fun q mem => ⟨q, same.paths ▸ mem, rfl, rfl⟩) same.keys same.groups (fun mode => ?_) fun due => ?_
  · have config : s.mode = .config := same.mode.symm.trans mode
    refine ⟨config, ?_⟩
    rcases same.pending with pending | ⟨run, -⟩
    · rw [pending]; exact (h.config config).2.2
    · rw [run] at config; cases config
  · rcases same.due due with before | pending
    · exact same.pending.elim (fun pending => pending.trans (h.judged before)) And.right
    · exact pending

/-- R169, R173: a judgement falls due in RUN alone. -/
theorem Agrees.run_of_due {s : State} (h : Agrees none s) (due : s.routes.judgementDue = true) : s.mode = .run := by
  cases mode : s.mode with
  | run => rfl
  | config =>
      obtain ⟨-, -, pending⟩ := h.config mode
      rw [h.judged due] at pending
      cases pending

theorem judgeSwap_agrees {s : State} (h : Agrees none s) (due : s.routes.judgementDue = true) : Agrees none s.judgeSwap := by
  have settled {u : State} (mode : u.mode = s.mode) (paths : u.paths = s.paths) (keys : u.keys = s.keys)
      (groups : u.groups = s.groups) (pending : u.routes.swapPending = false) (due : u.routes.judgementDue = false) :
      Agrees none u :=
    h.carry (fun q mem => ⟨q, paths ▸ mem, rfl, rfl⟩) keys groups (fun config => ⟨mode.symm.trans config, pending⟩) fun is => by
      rw [due] at is; cases is
  obtain ⟨n, eq | eq⟩ := judgeSwap_cases s
  · rw [eq]; exact settled rfl rfl rfl rfl rfl rfl
  · rw [eq]
    have exchanged : Agrees none (exchangedSets (judged s)) := settled rfl rfl rfl rfl rfl rfl
    exact ((exchange_eases (s := judged s) (h.run_of_due due)).trans (report_eases n _)).agrees exchanged

theorem startRun_agrees {s : State} (h : Agrees none s) : Agrees none s.startRun := by
  rw [startRun_eq_openRoutes]
  refine (openRoutes_eases (s := begun s) rfl).agrees ?_
  exact h.carry (fun q mem => ⟨q, mem, rfl, rfl⟩) rfl rfl (fun mode => by cases mode) h.judged

/-- R61, R62: a key whose record may be written holds no path and waits nowhere. -/
theorem Agrees.free_of_quiet {s : State} (h : Agrees none s) {k : KeyId} (quiet : s.keyBusy k = false) : ¬ Engaged s k := by
  cases mode : s.mode with
  | config =>
      obtain ⟨none, waiters, -⟩ := h.config mode
      rintro (⟨q, mem, -⟩ | ⟨g, waits⟩)
      · rw [none] at mem; exact absurd mem List.not_mem_nil
      · rw [waiters] at waits; exact absurd waits List.not_mem_nil
  | run =>
      have idle : s.keys[k].activation = .idle := by simpa [State.keyBusy, mode] using quiet
      exact h.free (by rw [Active, idle]; simp)

/-- R82: a group that is written has distinct members and nobody waits in it. -/
theorem setGroup_agrees {s : State} {g : GroupId} {r : GroupRecord} (h : Agrees none s) (waiters : r.waiters = [])
    (distinct : (r.members.map Member.port).Nodup) : Agrees none (s.setGroup g r) := by
  have waited {i : GroupId} {k : KeyId} (mem : k ∈ (s.setGroup g r).groups[i].waiters) : k ∈ s.groups[i].waiters := by
    rw [State.setGroup_groups, tableSet_get] at mem
    split at mem
    · rw [waiters] at mem; exact absurd mem List.not_mem_nil
    · exact mem
  refine ⟨fun mode => ?_, h.judged, fun i => ?_, h.destinations, fun k engaged => ?_, h.holders,
    fun i k waits => h.waiters i k (waited waits)⟩
  · obtain ⟨paths, none, pending⟩ := h.config mode
    refine ⟨paths, fun i => List.eq_nil_iff_forall_not_mem.2 fun k mem => ?_, pending⟩
    have before := waited mem
    rw [none] at before
    exact absurd before List.not_mem_nil
  · rw [State.setGroup_groups, tableSet_get]
    split
    · exact distinct
    · exact h.members i
  · exact h.active k (engaged.imp_right fun ⟨i, waits⟩ => ⟨i, waited waits⟩)

/-- R65, R66: an activation between inactive states is that of a key that holds nothing. -/
theorem activates_agrees {s : State} {k : KeyId} {a : Activation} (h : Agrees none s)
    (may : (a = .held ∨ a = .latched) ∨ ¬ Active s.keys[k]) : Agrees none (s.setActivation k a) := by
  rcases may with active | idle
  · exact setActivation_agrees h (.inr active)
  · exact (setActivation_agrees (x := some k) h (.inl rfl)).clear (h.free idle)

/-- R69: an idle key is activated and delivered. -/
theorem delivers_agrees {s : State} {k : KeyId} {a : Activation} (h : Agrees none s) (run : s.mode = .run)
    (idle : s.keys[k].activation = .idle) (active : a = .held ∨ a = .latched) :
    Agrees none ((s.setActivation k a).deliver k) := by
  refine deliver_agrees (setActivation_agrees h (.inr active)) run ?_ (h.free (by rw [Active, idle]; simp))
  rw [Active, setActivation_key, if_pos rfl]
  exact active

theorem event_agrees {s t : State} (e : Event s t) (h : Agrees none s) : Agrees none t := by
  cases e with
  | other same => exact agrees_of_sameTables same h
  | activates k a may => exact activates_agrees h may
  | delivers k a run idle active => exact delivers_agrees h run idle active
  | withdraws k a => exact withdraw_agrees (setActivation_agrees h (.inl rfl))
  | serves t => exact runPasses_keeps (fun g n _ h => servicePass_agrees g n h) t h
  | timesOut g k waits => exact timeOut_agrees h waits
  | removes which =>
      exact h.carry (fun q mem => ⟨q, (List.mem_filter.1 mem).1, rfl, rfl⟩) rfl rfl
        (fun mode => ⟨mode, (h.config mode).2.2⟩) h.judged
  | ramps =>
      refine h.carry (fun q mem => ?_) rfl rfl (fun mode => ⟨mode, (h.config mode).2.2⟩) h.judged
      obtain ⟨p, there, rfl⟩ := List.mem_map.1 mem
      exact ⟨p, there, rfl, rfl⟩
  | judges due => exact judgeSwap_agrees h due
  | exchanges =>
      exact h.carry (fun q mem => ⟨q, mem, rfl, rfl⟩) rfl rfl (fun mode => ⟨mode, (h.config mode).2.2⟩) h.judged
  | starts => exact startRun_agrees h
  | stops => exact stopRun_agrees h
  | resets low => exact resetAll_agrees low s
  | writesKey k r quiet entries =>
      refine setKey_agrees h (h.free_of_quiet quiet) (.inl rfl) ?_
      rw [dests]
      rcases entries with same | none
      · rw [same]; exact h.destinations k
      · rw [none]; exact List.nodup_nil
  | writesGroup g r waiters distinct => exact setGroup_agrees h waiters distinct

/-! ## Target levels (R21, R22, R171) -/

/-- The record of the path `id`, if there is one, is aimed. -/
def AimsPath (s : State) (id : PathId) : Prop := ∀ q ∈ s.paths, q.ident = id → AimedAt s q

theorem AimsPath.changes {s t : State} {id : PathId} (h : AimsPath s id) (changes : Changes s t) : AimsPath t id :=
  fun q mem ident => by
    rcases changes_aimedAt changes mem with before | aimed
    · exact aimedAt_of_same (fun k => (changes.sameRun.key k).level) (by rw [changes.sameRun.routes]) (h q before ident)
    · exact aimed

/-- A fold of changes, one of which aims the path `id`. -/
theorem aimsPath_foldl {f : State → Route → State} (changes : ∀ s r, Changes s (f s r)) {id : PathId} {r : Route}
    (aims : ∀ s, AimsPath (f s r) id) {rs : List Route} (mem : r ∈ rs) (s : State) : AimsPath (rs.foldl f s) id := by
  induction rs generalizing s with
  | nil => exact absurd mem List.not_mem_nil
  | cons x rs ih =>
      rcases List.mem_cons.1 mem with rfl | mem
      · exact (aims s).changes (Changes.foldl f changes rs (f s r))
      · exact ih mem (f s x)

theorem touchPath_aimsPath (s : State) (id : PathId) (f : Path → Path) : AimsPath (s.touchPath id f) id := fun _ mem ident =>
  (touchPath_aimedAt mem).resolve_left fun other => other.2 ident

theorem addHolder_aimsPath (s : State) (id : PathId) (j : Holder) (asked : Bool) : AimsPath (s.addHolder id j asked).1 id := by
  cases found : s.findPath id with
  | none =>
      have absent := findPath_none.1 found
      cases room : s.roomForNew id with
      | false =>
          rw [addHolder_of_full found room]
          exact fun q mem ident => absurd ident (absent q mem)
      | true =>
          rw [addHolder_of_absent found room]
          exact fun q mem ident => (createPath_aimedAt mem).resolve_left fun before => absent q before ident
  | some p =>
      cases closing : p.closing with
      | true => rw [addHolder_of_closing found closing]; exact touchPath_aimsPath s id _
      | false => rw [addHolder_of_open found closing]; exact touchPath_aimsPath s id _

theorem dropLeaving_changes (incoming : List Route) (s : State) (r : Route) : Changes s (dropLeaving incoming s r) := by
  unfold dropLeaving
  split
  · exact (State.removeHolder_changes _ _ _).trans (State.routeLeftEarpiece_changes _ _)
  · exact .refl s

theorem openEntering_changes (outgoing : List Route) (s : State) (r : Route) : Changes s (openEntering outgoing s r) := by
  unfold openEntering
  split
  · exact State.addHolder_changes _ _ _ _
  · split
    · exact .refl s
    · exact s.relevelPath_changes _

theorem dropLeaving_aimsPath {incoming : List Route} {r : Route} (leaves : findRoute r.ident incoming = none) (s : State) :
    AimsPath (dropLeaving incoming s r) r.ident := by
  rw [dropLeaving, leaves]
  exact (touchPath_aimsPath s r.ident _).changes (State.routeLeftEarpiece_changes _ _)

/-- R171: a route that enters, or whose level is another one, aims its path. -/
theorem openEntering_aimsPath {outgoing : List Route} {r : Route}
    (enters : ∀ o, findRoute r.ident outgoing = some o → o.level ≠ r.level) (s : State) : AimsPath (openEntering outgoing s r) r.ident := by
  unfold openEntering
  split
  · exact addHolder_aimsPath s r.ident .route false
  · rename_i o found
    rw [if_neg (enters o found)]
    exact touchPath_aimsPath s r.ident _

/-- R171: a path whose route has the level that it had. -/
theorem exchangedSets_aimsPath {s : State} (aimed : s.aimed) {id : PathId}
    (level : (findRoute id s.routes.standby).map Route.level = (findRoute id s.routes.active).map Route.level) :
    AimsPath (exchangedSets s) id := by
  rintro q mem rfl
  have same : (exchangedSets s).targetOf q = s.targetOf q := by
    have levels : ((exchangedSets s).routes.active.find? fun x : Route => decide (x.ident = q.ident)).map Route.level =
        (s.routes.active.find? fun x : Route => decide (x.ident = q.ident)).map Route.level := level
    rw [State.targetOf, State.targetOf, State.loudest, State.loudest, levels]
    rfl
  exact Eq.trans (aimed q mem) same.symm

theorem findRoute_some {id : PathId} {rs : List Route} {r : Route} (h : findRoute id rs = some r) : r ∈ rs ∧ r.ident = id :=
  ⟨List.mem_of_find?_eq_some h, by simpa using List.find?_some (p := fun r : Route => decide (r.ident = id)) h⟩

/-- R171: the exchange brings the target level of every path into line with the new active set: a route that leaves is dropped, one that
enters or changes its level aims its path, and any other has the level that it had. -/
theorem exchange_aimed {s : State} (aimed : s.aimed) : s.exchange.aimed := by
  have aims (id : PathId) : AimsPath s.exchange id := by
    rw [exchange_eq]
    have removes := Changes.foldl _ (dropLeaving_changes s.routes.standby) s.routes.active (exchangedSets s)
    have opens (u : State) := Changes.foldl _ (openEntering_changes s.routes.active) s.routes.standby u
    cases entering : findRoute id s.routes.standby with
    | none =>
        cases leaving : findRoute id s.routes.active with
        | none => exact (exchangedSets_aimsPath aimed (by rw [entering, leaving])).changes (removes.trans (opens _))
        | some o =>
            obtain ⟨mem, rfl⟩ := findRoute_some leaving
            exact (aimsPath_foldl (dropLeaving_changes _) (dropLeaving_aimsPath entering) mem _).changes (opens _)
    | some r =>
        by_cases level : (findRoute id s.routes.active).map Route.level = some r.level
        · exact (exchangedSets_aimsPath aimed (by rw [entering, level]; rfl)).changes (removes.trans (opens _))
        · obtain ⟨mem, rfl⟩ := findRoute_some entering
          refine aimsPath_foldl (openEntering_changes _) (openEntering_aimsPath fun o found same => level ?_) mem _
          rw [found, ← same]
          rfl
  exact fun q mem => aims q.ident q mem rfl

theorem aimed_of_nil {s : State} (none : s.paths = []) : s.aimed := forall_mem_of_eq_nil none

theorem report_aimed {s : State} (n : Notice) (h : s.aimed) : (s.report n).aimed := h

theorem judgeSwap_aimed {s : State} (h : s.aimed) : s.judgeSwap.aimed := by
  have cleared : (judged s).aimed := aimed_of_same (s := s) (fun _ => rfl) rfl rfl h
  obtain ⟨n, eq | eq⟩ := judgeSwap_cases s
  · rw [eq]; exact report_aimed n cleared
  · rw [eq]; exact report_aimed n (exchange_aimed cleared)

theorem advanceRamps_aimed {s : State} (h : s.aimed) : s.advanceRamps.aimed := fun q mem => by
  obtain ⟨p, there, rfl⟩ := List.mem_map.1 mem
  have same : s.advanceRamps.targetOf p.advance = s.targetOf p := targetOf_congr s rfl rfl rfl rfl rfl
  exact (h p there).trans same.symm

theorem setActivation_aimed {s : State} (k : KeyId) (a : Activation) (h : s.aimed) : (s.setActivation k a).aimed := by
  refine aimed_of_same (s := s) (fun j => ?_) rfl rfl h
  rw [setActivation_key]
  split
  · rename_i same; subst same; rfl
  · rfl

/-- R61: the level of a key that holds no path aims nothing. -/
theorem setKey_aimed {s : State} {k : KeyId} (r : KeyRecord) (free : ¬ Engaged s k) (h : s.aimed) : (s.setKey k r).aimed := fun q mem => by
  have levels : (q.keys.map fun j : KeyId => (s.setKey k r).keys[j].level) = q.keys.map fun j : KeyId => s.keys[j].level :=
    List.map_congr_left fun j holds => by
      have other : k ≠ j := fun same => free (.inl ⟨q, mem, by rw [same]; exact holds⟩)
      rw [State.setKey_keys, tableSet_ne _ _ other]
  have same : (s.setKey k r).targetOf q = s.targetOf q := by
    rw [State.targetOf, State.targetOf, State.loudest, State.loudest, levels]
    rfl
  exact (h q mem).trans same.symm

theorem event_aimed {s t : State} (e : Event s t) (agrees : Agrees none s) (h : s.aimed) : t.aimed := by
  cases e with
  | other same => exact aimed_of_same (fun k => by rw [same.keys]) same.active same.paths h
  | activates k a => exact setActivation_aimed k a h
  | delivers k a => exact changes_aimed (State.deliver_changes k _) (setActivation_aimed k a h)
  | withdraws k a => exact changes_aimed (State.withdraw_changes k _) (setActivation_aimed k a h)
  | serves t => exact changes_aimed (State.runPasses_changes t s) h
  | timesOut g k => exact changes_aimed (State.timeOut_changes g k s) h
  | removes which => exact fun q mem => h q (List.mem_filter.1 mem).1
  | ramps => exact advanceRamps_aimed h
  | judges => exact judgeSwap_aimed h
  | exchanges config => exact aimed_of_nil (agrees.config config).1
  | starts config => exact changes_aimed (openRoutes_changes (begun s)) (aimed_of_nil (agrees.config config).1)
  | stops => exact aimed_of_nil (stopRun_paths s)
  | resets low => exact aimed_of_nil (resetAll_paths low s)
  | writesKey k r quiet => exact setKey_aimed r (agrees.free_of_quiet quiet) h
  | writesGroup => exact h

/-! ## The obligation -/

/-- Settles O58: a step is a succession of events (`step_events`), each of which keeps the order of the table, its records, and the
agreement of paths, queues and delivery lists with the target levels. -/
theorem everyStepKeepsThePathTable : Obligations.EveryStepKeepsThePathTable := by
  unfold Obligations.EveryStepKeepsThePathTable
  intro s t stepped
  have events := step_events stepped
  refine ⟨events.keep (I := fun s => pathTableWf s.paths) fun _ _ => event_pathTableWf,
    events.keep (I := PathsWf) fun _ _ => event_pathsWf, fun lists deliveries => ?_⟩
  obtain ⟨-, -, members, -⟩ := lists
  have agrees : Agrees none s := agrees_iff.2 ⟨deliveries, members⟩
  refine ⟨(agrees_iff.1 (events.keep (fun _ _ => event_agrees) agrees)).1, fun aimed => ?_⟩
  have both := events.keep (I := fun s => Agrees none s ∧ s.aimed)
    (fun _ _ e h => ⟨event_agrees e h.1, event_aimed e h.1 h.2⟩) ⟨agrees, aimed⟩
  exact both.2

end Sys2Proof.Proofs
end

section
/-! PROOFS. What a listener hears of a bus (3.2): the other sources' sum, its independence of the listener, its limits. -/

namespace Sys2Proof.Proofs

open Sys2Proof.Machine

/-- R46: the sum of the products of the sources other than `k` in a bus. -/
def othersSum (paths : List Path) (inp : Vector Block 48) (k : PortId) (b : BusId) (j : Fin 48) : Int :=
  ((paths.filter fun q : Path => decide (q.ident.dst = .bus b ∧ q.ident.src ≠ .port k)).map (busTerm inp j)).sum

theorem busValue_eq_sat24_othersSum (paths : List Path) (inp : Vector Block 48) (k : PortId) (b : BusId) (j : Fin 48) :
    busValue paths inp k b j = sat24 (roundDiv 4096 (othersSum paths inp k b j)) := by
  rw [busValue, busAcc_sub_ownContribution, othersSum]

/-! ## The listener's own samples -/

theorem busTerm_set_of_src_ne {inp : Vector Block 48} {k : PortId} {q : Path} (other : q.ident.src ≠ .port k) (x : Block)
    (j : Fin 48) : busTerm (inp.set k x) j q = busTerm inp j q := by
  unfold busTerm
  cases source : q.ident.src with
  | bus b => rfl
  | port p =>
      have distinct : k ≠ p := fun same => other (by rw [source, same])
      have kept : (inp.set k x)[p] = inp[p] := tableSet_ne inp x distinct
      simp only [sourceSample, kept]

/-- R46: the listener's own samples have no part in the sum. -/
theorem othersSum_set (paths : List Path) (inp : Vector Block 48) (k : PortId) (b : BusId) (j : Fin 48) (x : Block) :
    othersSum paths (inp.set k x) k b j = othersSum paths inp k b j := by
  refine congrArg List.sum (List.map_congr_left fun q mem => ?_)
  obtain ⟨-, other⟩ := of_decide_eq_true (List.mem_filter.1 mem).2
  exact busTerm_set_of_src_ne other x j

/-! ## Limits (R19, R45, 0.4.1) -/

theorem sample_natAbs_le (x : Sample) : x.toInt.natAbs ≤ 8388608 := by
  have low := BitVec.le_toInt x
  have high := BitVec.toInt_lt (x := x)
  omega

theorem busTerm_natAbs_le (inp : Vector Block 48) (j : Fin 48) {q : Path} (level : q.level ≤ 8192) :
    (busTerm inp j q).natAbs ≤ 8388608 * 8192 := by
  unfold busTerm
  cases q.ident.src with
  | bus b => exact Nat.zero_le _
  | port p =>
      rw [Int.natAbs_mul, Int.natAbs_natCast]
      exact Nat.mul_le_mul (sample_natAbs_le _) level

theorem natAbs_sum_le_length_mul {xs : List Int} {m : Nat} (bound : ∀ x ∈ xs, x.natAbs ≤ m) :
    xs.sum.natAbs ≤ xs.length * m := by
  induction xs with
  | nil => simp
  | cons x xs ih =>
      obtain ⟨first, rest⟩ := List.forall_mem_cons.1 bound
      calc (x :: xs).sum.natAbs ≤ x.natAbs + xs.sum.natAbs := by rw [List.sum_cons]; exact Int.natAbs_add_le _ _
        _ ≤ m + xs.length * m := Nat.add_le_add first (ih rest)
        _ = (x :: xs).length * m := by rw [List.length_cons]; ring

/-- R46: the sources other than one are no more than all the sources of a bus. -/
theorem length_others_le (paths : List Path) (k : PortId) (b : BusId) :
    (paths.filter fun q : Path => decide (q.ident.dst = .bus b ∧ q.ident.src ≠ .port k)).length ≤
      (paths.filter fun q : Path => decide (q.ident.dst = .bus b)).length :=
  (List.monotone_filter_right paths fun _ found => decide_eq_true (of_decide_eq_true found).1).length_le

/-- R45: 32 products of a sample and a level lie within 2^41. -/
theorem othersSum_natAbs_le {paths : List Path} (inp : Vector Block 48) (k : PortId) {b : BusId} (j : Fin 48)
    (few : (paths.filter fun q : Path => decide (q.ident.dst = .bus b)).length ≤ 32) (levels : ∀ q ∈ paths, q.level ≤ 8192) :
    (othersSum paths inp k b j).natAbs ≤ 2199023255552 := by
  have terms : ∀ y ∈ (paths.filter fun q : Path => decide (q.ident.dst = .bus b ∧ q.ident.src ≠ .port k)).map (busTerm inp j),
      y.natAbs ≤ 8388608 * 8192 :=
    List.forall_mem_map.2 fun q mem => busTerm_natAbs_le inp j (levels q (List.mem_filter.1 mem).1)
  refine (natAbs_sum_le_length_mul terms).trans ?_
  rw [List.length_map]
  exact Nat.mul_le_mul_right (8388608 * 8192) ((length_others_le paths k b).trans few)

/-! ## The obligation -/

/-- Settles O42: the bus accumulator without the listener's contribution is `othersSum`, which does not read the listener's samples. -/
theorem listenerNeverHearsItself : Obligations.ListenerNeverHearsItself := by
  unfold Obligations.ListenerNeverHearsItself
  intro paths inp k b j others
  have sum : others = othersSum paths inp k b j := by
    refine congrArg (fun term => (List.map term _).sum) (funext fun q => ?_)
    rw [busTerm]
    cases q.ident.src <;> rfl
  rw [sum]
  refine ⟨busValue_eq_sat24_othersSum paths inp k b j, fun x => ?_, othersSum_natAbs_le inp k j⟩
  rw [busValue_eq_sat24_othersSum, othersSum_set, ← busValue_eq_sat24_othersSum]

end Sys2Proof.Proofs
end

section
/-! PROOFS. Rounding, output samples and clips (0.4.1, 0.4.3, 3.3, 3.5). -/

namespace Sys2Proof.Proofs

open Sys2Proof.Machine

/-! ## Rounding -/

/-- 0.4.3: what characterises rounding to nearest, halves toward +∞. -/
theorem roundDiv_bounds {n : Nat} (positive : 0 < n) (x : Int) :
    (n : Int) * roundDiv n x ≤ x + (n / 2 : Nat) ∧ x + (n / 2 : Nat) < (n : Int) * (roundDiv n x + 1) := by
  have pos : (0 : Int) < n := Int.natCast_pos.2 positive
  rw [roundDiv, mul_add, mul_one]
  exact ⟨Int.mul_ediv_self_le pos.ne', Int.lt_mul_ediv_self_add pos⟩

/-- R51: a multiple loses nothing to rounding; with 256, this is the term that is not dipped. -/
theorem roundDiv_mul_self {n : Nat} (positive : 0 < n) (x : Int) : roundDiv n (x * n) = x := by
  have pos : (0 : Int) < n := Int.natCast_pos.2 positive
  have half : ((n / 2 : Nat) : Int) / n = 0 := Int.ediv_eq_zero_of_lt (by omega) (by omega)
  rw [roundDiv, add_comm, Int.add_mul_ediv_right _ _ pos.ne', half, zero_add]

theorem sat24_of_mem {x : Int} (low : -8388608 ≤ x) (high : x ≤ 8388607) : sat24 x = x := by
  rw [sat24_eq, min_eq_right high, max_eq_right low]

/-! ## Output samples and clips of any measured values -/

theorem outputBlock_get_toInt (ms : List Int) (gain : Nat) (j : Fin 48) :
    ((outputBlock ms gain)[j]).toInt = max (-8388608) (min 8388607 (gained (ms.getD j.val 0) gain)) := by
  rw [outputBlock, tableOf_get, sampleOf_sat24_toInt, sat24_eq]

/-- A list read place by place. -/
theorem map_getD_finRange {ms : List Int} {n : Nat} (length : ms.length = n) :
    (List.finRange n).map (fun j => ms.getD j.val 0) = ms := by
  subst length
  conv_rhs => rw [← List.map_getElem_finRange ms]
  exact List.map_congr_left fun j _ => List.getD_eq_getElem ms 0 j.isLt

/-- R55: the clips are counted sample by sample. -/
theorem clipCount_eq_of_length {ms : List Int} (length : ms.length = 48) (gain : Nat) : clipCount ms gain =
    ((List.finRange 48).filter fun j => decide (gained (ms.getD j.val 0) gain < -8388608 ∨
      8388607 < gained (ms.getD j.val 0) gain)).length := by
  conv_lhs => rw [clipCount, ← map_getD_finRange length, List.filter_map, List.length_map]
  simp only [Function.comp_def, clips24_eq]

/-! ## The obligation -/

/-- Settles O43: rounding and saturation by their own lemmas, the output block sample by sample. -/
theorem outputIsRoundedOnceAndSaturated : Obligations.OutputIsRoundedOnceAndSaturated := by
  unfold Obligations.OutputIsRoundedOnceAndSaturated
  refine ⟨fun n x positive _ => roundDiv_bounds positive x, roundDiv_mul_self (by decide), fun x => ⟨?_, ?_, sat24_of_mem⟩,
    fun ms gain length => ⟨outputBlock_get_toInt ms gain, clipCount_eq_of_length length gain⟩⟩
  · rw [sat24_eq]; exact le_max_left _ _
  · rw [sat24_eq]; exact max_le (by decide) (min_le_left _ _)

end Sys2Proof.Proofs
end

section
/-! PROOFS. The key record (4.2, 4.4): its definition by KEY, its removal, its delivery state. -/

namespace Sys2Proof.Proofs

open Sys2Proof.Machine

/-! ## The delivery state (R73) -/

theorem isDenied_iff (st : EntryStatus) : st.isDenied = true ↔ ∃ why, st = .denied why := by
  cases st <;> simp [EntryStatus.isDenied]

/-- R73: the delivery state of a delivered key that stands in no wait queue, by its list. -/
theorem delivery_of_list {r : KeyRecord} (delivered : r.delivered = true) (noWait : r.deadline = none) :
    r.delivery =
      if r.entries = [] then .denied
      else if ∀ e ∈ r.entries, e.status = .live then .live
      else if ∀ e ∈ r.entries, e.status = .heldBack then .heldBack
      else if ∀ e ∈ r.entries, e.status.isDenied = true then .denied
      else .partly := by
  simp [KeyRecord.delivery, delivered, noWait]

/-- 11.8.4: entries whose status codes differ do not all answer alike. -/
theorem not_all_alike {es : List DestEntry} {e f : DestEntry} (he : e ∈ es) (hf : f ∈ es) (differ : e.status.code ≠ f.status.code)
    {P : EntryStatus → Prop} {n : Nat} (code : ∀ st, P st → st.code = n) : ¬ ∀ x ∈ es, P x.status := fun all =>
  differ ((code _ (all e he)).trans (code _ (all f hf)).symm)

/-- Settles O24: the flag and the deadline first, then the list's cases in the order in which R73 tells them apart. -/
theorem deliveryStateIsDerived : Obligations.DeliveryStateIsDerived := by
  unfold Obligations.DeliveryStateIsDerived
  intro r
  refine ⟨fun no => by simp [KeyRecord.delivery, no], fun yes waits => by simp [KeyRecord.delivery, yes, waits],
    fun yes noWait => ?_⟩
  rw [delivery_of_list yes noWait]
  refine ⟨fun empty => if_pos empty, fun some all => ?_, fun some all => ?_, fun some all => ?_, fun e he f hf differ => ?_⟩
  · rw [if_neg some, if_pos all]
  · obtain ⟨x, mem⟩ := List.exists_mem_of_ne_nil _ some
    have notLive : ¬ ∀ e ∈ r.entries, e.status = .live := fun live => by cases (live x mem).symm.trans (all x mem)
    rw [if_neg some, if_neg notLive, if_pos all]
  · obtain ⟨x, mem⟩ := List.exists_mem_of_ne_nil _ some
    obtain ⟨why, denied⟩ := all x mem
    have notLive : ¬ ∀ e ∈ r.entries, e.status = .live := fun live => by cases (live x mem).symm.trans denied
    have notHeld : ¬ ∀ e ∈ r.entries, e.status = .heldBack := fun held => by cases (held x mem).symm.trans denied
    rw [if_neg some, if_neg notLive, if_neg notHeld, if_pos fun e there => (isDenied_iff _).2 (all e there)]
  · have notLive := not_all_alike he hf differ (P := (· = .live)) (n := 1) (by rintro _ rfl; rfl)
    have notHeld := not_all_alike he hf differ (P := (· = .heldBack)) (n := 2) (by rintro _ rfl; rfl)
    have notDenied := not_all_alike he hf differ (P := (·.isDenied = true)) (n := 5) fun st denied => by
      obtain ⟨why, rfl⟩ := (isDenied_iff st).1 denied
      rfl
    rw [if_neg (List.ne_nil_of_mem he), if_neg notLive, if_neg notHeld, if_neg notDenied]

/-! ## The checks of KEY (R61, R62) -/

theorem keyBusy_iff (u : State) (k : KeyId) : u.keyBusy k = true ↔ u.mode = .run ∧ u.keys[k].activation ≠ .idle := by
  simp [State.keyBusy]

theorem targetRefused_iff (u : State) (o : PortId) (target : Target) :
    u.targetRefused o target = true ↔ ∃ p, target = .port p ∧ (p = o ∨ ¬ u.ports[p].kind.listens) := by
  simp only [← PortKind.hasOutput_iff]
  cases target <;> simp [State.targetRefused]

/-- R61: KEY with a target whose operands are in range. -/
theorem keyRequest_of_read (u : State) (k : KeyId) (o : PortId) (target : Target) (level priority : Option Nat) (m : Option KeyMode) :
    u.keyRequest k.val o.val target.typeCode target.number level priority (m.map KeyMode.code) =
      if u.keyBusy k then refuse .busy u
      else if !u.ports[o].kind.hasOutput then refuse .badArg u
      else if u.targetRefused o target then refuse .badArg u
      else accept (u.setKey k (u.keys[k].define o target level priority m)) := by
  obtain ⟨n, type⟩ : ∃ n, target.typeCode = n + 1 := by cases target <;> exact ⟨_, rfl⟩
  have mode : optionally keyModeOf (m.map KeyMode.code) = some m := optionally_map keyModeOf_code m
  have read : targetOf (n + 1) target.number = some target := by rw [← type]; exact targetOf_code target
  rw [type, State.keyRequest]
  simp only [objectNumber_val, read, mode]

/-- R61 check 1: KEY with a target one of whose operands is out of range. -/
theorem keyRequest_of_unread (u : State) {n o type number : Nat} (some : 0 < type) (level priority : Option Nat) {mode : Option Nat}
    (bad : 256 ≤ n ∨ 48 ≤ o ∨ targetOf type number = none ∨ optionally keyModeOf mode = none) :
    u.keyRequest n o type number level priority mode = refuse .badArg u := by
  obtain ⟨t, rfl⟩ := Nat.exists_eq_succ_of_ne_zero some.ne'
  rw [State.keyRequest]
  split
  · rename_i k p target m hn ho ht hm
    rcases bad with bad | bad | bad | bad
    · rw [objectNumber_eq_none.2 bad] at hn; cases hn
    · rw [objectNumber_eq_none.2 bad] at ho; cases ho
    · rw [ht] at bad; cases bad
    · rw [hm] at bad; cases bad
  · rfl

/-- R61 check 1: the targets that cannot be read. -/
theorem targetOf_none {type number : Nat} (some : 0 < type)
    (bad : 4 ≤ type ∨ (type = 1 ∧ 48 ≤ number) ∨ (type = 2 ∧ 8 ≤ number) ∨ (type = 3 ∧ 32 ≤ number)) :
    targetOf type number = none := by
  rcases bad with large | ⟨rfl, out⟩ | ⟨rfl, out⟩ | ⟨rfl, out⟩
  · rw [targetOf] <;> omega
  all_goals rw [targetOf, objectNumber_eq_none.2 out]; rfl

theorem keyModeOf_none {x : Nat} (bad : 3 ≤ x) : keyModeOf x = none := by rw [keyModeOf] <;> omega

/-- R61: a KEY request that is refused. -/
theorem key_refused {s : State} {st : Status} {tag : Byte} {n o type number : Nat} {level priority mode : Option Nat}
    (takes : s.takesRequests) (answer : s.opened.keyRequest n o type number level priority mode = refuse st s.opened) :
    RefusedWith (.key tag n o type number level priority mode) st s :=
  RefusedWith.of (act := State.keyRequest n o type number level priority mode) takes rfl rfl rfl answer

/-! ## KEY -/

/-- Settles O18: the operands are read back, no check refuses, and the record written is the one stated. -/
theorem keyDefinesAKey : Obligations.KeyDefinesAKey := by
  unfold Obligations.KeyDefinesAKey
  rintro s tag k o target level priority m u rfl takes idle owner aims
  have free : s.opened.keyBusy k ≠ true := fun busy => by
    obtain ⟨run, active⟩ := (keyBusy_iff _ k).1 busy
    rw [s.opened_outside.2.1] at run
    rcases idle with config | idle
    · rw [config] at run; cases run
    · exact active idle
  have allowed : s.opened.targetRefused o target ≠ true := fun refused => by
    obtain ⟨p, rfl, bad⟩ := (targetRefused_iff _ o target).1 refused
    exact bad.elim (aims p rfl).1 fun deaf => deaf (aims p rfl).2
  have listens : ¬ (!s.opened.ports[o].kind.hasOutput) = true := by rw [(PortKind.hasOutput_iff _).2 owner]; decide
  have written : s.opened.keys[k].define o target level priority m = { s.opened.keys[k] with
      owner := some o, target := some target, level := min 8192 (level.getD 4096), priority := min 7 (priority.getD 0),
      mode := m.getD .momentary } := by
    rw [KeyRecord.define, clampTo_zero, clampTo_zero, Nat.min_comm, Nat.min_comm _ 7]
    rfl
  refine AcceptedWith.of (act := State.keyRequest _ _ _ _ _ _ _) takes rfl rfl rfl ?_
  rw [keyRequest_of_read, if_neg free, if_neg listens, if_neg allowed, written]
  rfl

/-- Settles O19: an operand out of range, then the checks in their order. -/
theorem keyRefusals : Obligations.KeyRefusals := by
  unfold Obligations.KeyRefusals
  rintro s tag level priority takes u rfl
  refine ⟨fun n o type number mode some bad => key_refused takes (keyRequest_of_unread _ some level priority ?_),
    fun k o target m => ?_⟩
  · rcases bad with bad | bad | bad | bad | bad | bad | ⟨x, rfl, bad⟩
    · exact .inl bad
    · exact .inr (.inl bad)
    · exact .inr (.inr (.inl (targetOf_none some (.inl bad))))
    · exact .inr (.inr (.inl (targetOf_none some (.inr (.inl bad)))))
    · exact .inr (.inr (.inl (targetOf_none some (.inr (.inr (.inl bad))))))
    · exact .inr (.inr (.inl (targetOf_none some (.inr (.inr (.inr bad))))))
    · exact .inr (.inr (.inr (optionally_of_none (keyModeOf_none bad))))
  · have busy : s.opened.keyBusy k = true ↔ s.mode = .run ∧ s.opened.keys[k].activation ≠ .idle := by
      rw [keyBusy_iff, s.opened_outside.2.1]
    refine ⟨fun refused => key_refused takes ?_, fun free deaf => key_refused takes ?_,
      fun p aims free bad => key_refused takes ?_⟩
    · rw [keyRequest_of_read, if_pos (busy.2 refused)]
    · rw [keyRequest_of_read, if_neg (free ∘ busy.1), if_pos (by simpa [← PortKind.hasOutput_iff] using deaf)]
    · rw [keyRequest_of_read, if_neg (free ∘ busy.1), if_pos ((targetRefused_iff _ o target).2 ⟨p, aims, bad⟩), ite_self]

/-! ## KEY without a target -/

/-- Settles O20: the key's number, the two grounds of BUSY, and the record of reset; target type 0 is the same request by definition. -/
theorem keyRemoveUndefinesAKey : Obligations.KeyRemoveUndefinesAKey := by
  unfold Obligations.KeyRemoveUndefinesAKey
  rintro s tag takes u rfl
  have busy (k : KeyId) : s.opened.keyBusy k = true ↔ s.mode = .run ∧ s.opened.keys[k].activation ≠ .idle := by
    rw [keyBusy_iff, s.opened_outside.2.1]
  have request (k : KeyId) : s.opened.removeRequest k.val = if s.opened.keyBusy k then refuse .busy s.opened
      else if s.opened.linkOwned k then refuse .busy s.opened
      else accept (s.opened.setKey k KeyRecord.reset) := by rw [State.removeRequest, objectNumber_val]
  refine ⟨fun n out => ?_, fun k grounds => ?_, fun k free unnamed => ?_, fun n o tn level priority m => rfl⟩
  · refine RefusedWith.of (act := State.removeRequest n) takes rfl rfl rfl ?_
    rw [State.removeRequest, objectNumber_eq_none.2 out]
  · refine RefusedWith.of (act := State.removeRequest k.val) takes rfl rfl rfl ?_
    rw [request]
    rcases grounds with active | named
    · rw [if_pos ((busy k).2 active)]
    · rw [if_pos ((State.linkOwned_iff _ k).2 named), ite_self]
  · refine AcceptedWith.of (act := State.removeRequest k.val) takes rfl rfl rfl ?_
    rw [request, if_neg (free ∘ (busy k).1), if_neg (unnamed ∘ (State.linkOwned_iff _ k).1)]
    rfl

end Sys2Proof.Proofs
end

section
/-! PROOFS. What offers, departures and deliveries leave of the groups and of the key records (4.4, chapter 6). -/

namespace Sys2Proof.Proofs

open Sys2Proof.Machine

/-! ## The relation -/

/-- From `s` to `t` the groups are the same, and so is every key record but for its list of destinations. -/
structure Steady (s t : State) : Prop where
  groups : t.groups = s.groups
  record : ∀ j : KeyId, t.keys[j] = { s.keys[j] with entries := t.keys[j].entries }

theorem Steady.of_eq {s t : State} (groups : t.groups = s.groups) (keys : t.keys = s.keys) : Steady s t :=
  ⟨groups, fun j => by rw [keys]⟩

theorem Steady.refl (s : State) : Steady s s := .of_eq rfl rfl

theorem Steady.trans {s t u : State} (h : Steady s t) (h' : Steady t u) : Steady s u :=
  ⟨h'.groups.trans h.groups, fun j => by rw [h'.record j, h.record j]⟩

theorem setEntries_steady (k : KeyId) (es : List DestEntry) (s : State) :
    Steady s (s.setKey k { s.keys[k] with entries := es }) := by
  refine ⟨rfl, fun j => ?_⟩
  rw [State.setKey_keys, tableSet_get]
  split
  · rename_i same; subst same; rfl
  · rfl

theorem report_steady (n : Notice) (s : State) : Steady s (s.report n) := ⟨rfl, fun _ => rfl⟩

theorem setEar_steady (p : PortId) (e : Option Ear) (s : State) : Steady s (s.setEar p e) := ⟨rfl, fun _ => rfl⟩

theorem appendEntry_steady (k : KeyId) (e : DestEntry) (s : State) : Steady s (s.appendEntry k e) :=
  (setEntries_steady k (s.keys[k].entries ++ [e]) s).trans (report_steady _ _)

theorem reportStanding_steady (k : KeyId) (p : PortId) (st : EntryStatus) (s : State) : Steady s (s.reportStanding k p st) :=
  (setEntries_steady k (s.keys[k].entries.map fun e => if e.dest = some (.port p) then { e with status := st } else e) s).trans
    (report_steady _ _)

theorem touchPath_steady (id : PathId) (f : Path → Path) (s : State) : Steady s (s.touchPath id f) :=
  .of_eq (by rw [State.touchPath_groups]) (by rw [State.touchPath_keys])

theorem addHolder_steady (id : PathId) (h : Holder) (asked : Bool) (s : State) : Steady s (s.addHolder id h asked).1 :=
  .of_eq (addHolder_same id h asked s).2 (addHolder_same id h asked s).1

/-! ## The earpiece unit (chapter 6) -/

theorem onKeyPath_steady {k : KeyId} {p : PortId} {f : PathId → State → State} (hf : ∀ id s, Steady s (f id s)) (s : State) :
    Steady s (s.onKeyPath k p f) := by
  unfold State.onKeyPath
  split
  · exact hf _ s
  · exact .refl s

theorem demoteHead_steady (p : PortId) (k : KeyId) (previous : Option TalkEntry) (s : State) :
    Steady s (s.demoteHead p k previous) := by
  unfold State.demoteHead
  split
  · exact .refl s
  · refine Steady.trans ?_ (reportStanding_steady _ _ _ _)
    split
    · exact .refl s
    · exact onKeyPath_steady (fun id s => touchPath_steady id Path.suspend s) s

theorem takeIn_steady (p : PortId) (k : KeyId) (e : Ear) (s : State) : Steady s (s.takeIn p k e).1 := by
  unfold State.takeIn
  dsimp only
  split
  · exact (((setEar_steady p _ s).trans (report_steady _ _)).trans (demoteHead_steady p k e.entries.head? _)).trans
      (onKeyPath_steady (fun id s => touchPath_steady id Path.resume s) _)
  · exact (setEar_steady p _ s).trans (report_steady _ _)

theorem evict_steady (p : PortId) (e : Ear) (victim : TalkEntry) (s : State) : Steady s (s.evict p e victim) :=
  (((setEar_steady p _ s).trans (report_steady _ _)).trans
    (onKeyPath_steady (fun id s => touchPath_steady id (Path.leave (.key victim.key)) s) _)).trans (reportStanding_steady _ _ _ _)

theorem offer_steady (p : PortId) (k : KeyId) (s : State) : Steady s (s.offer p k).1 := by
  unfold State.offer
  split
  · exact .refl s
  · split
    · exact takeIn_steady _ _ _ s
    · split
      · exact .refl s
      · split
        · exact (evict_steady _ _ _ s).trans (takeIn_steady _ _ _ _)
        · exact .refl s

/-! ## One destination (R69 to R71) -/

theorem deliverPlain_steady (k : KeyId) (d : Endpoint) (id : PathId) (s : State) : Steady s (s.deliverPlain k d id) :=
  (addHolder_steady _ _ _ _).trans (appendEntry_steady _ _ _)

theorem deliverEarpiece_steady (k : KeyId) (p : PortId) (id : PathId) (s : State) : Steady s (s.deliverEarpiece k p id) := by
  unfold State.deliverEarpiece
  split
  · dsimp only
    split
    · exact ((offer_steady _ _ _).trans (addHolder_steady _ _ _ _)).trans (appendEntry_steady _ _ _)
    · exact ((offer_steady _ _ _).trans (addHolder_steady _ _ _ _)).trans (appendEntry_steady _ _ _)
    · exact (offer_steady _ _ _).trans (appendEntry_steady _ _ _)
  · exact appendEntry_steady _ _ _

theorem deliverTo_steady (k : KeyId) (d : Endpoint) (s : State) : Steady s (s.deliverTo k d) := by
  unfold State.deliverTo
  split
  · exact .refl s
  · split
    · exact deliverPlain_steady _ _ _ _
    · split
      · exact deliverEarpiece_steady _ _ _ _
      · exact deliverPlain_steady _ _ _ _

/-! ## Full lists stay full (R85, R102) -/

/-- R100: the interrupt list of port `p` has no room for another entry. -/
def FullList (s : State) (p : PortId) : Prop := ∃ e, s.ears[p] = some e ∧ 4 ≤ e.entries.length

theorem fullList_of_ears {s t : State} (ears : t.ears = s.ears) {p : PortId} (h : FullList s p) : FullList t p := by
  rw [FullList, ears]
  exact h

theorem demoteHead_ears (p : PortId) (k : KeyId) (previous : Option TalkEntry) (s : State) :
    (s.demoteHead p k previous).ears = s.ears := by
  unfold State.demoteHead State.onKeyPath State.suspendPath
  split
  · rfl
  · dsimp only
    split
    · rfl
    · split <;> simp

theorem addHolder_ears (id : PathId) (h : Holder) (asked : Bool) (s : State) : (s.addHolder id h asked).1.ears = s.ears := by
  unfold State.addHolder
  split
  · split
    · rw [State.createPath_ears]
    · rfl
  · split <;> rw [State.touchPath_ears]

/-- R101: the list that has taken a key in has one entry more. -/
theorem takeIn_ears (p : PortId) (k : KeyId) (e : Ear) (s : State) : ∃ e' : Ear,
    (s.takeIn p k e).1.ears = tableSet s.ears p (some e') ∧ e'.entries.length = e.entries.length + 1 := by
  have path (j : KeyId) (u : State) : (u.onKeyPath j p State.resumePath).ears = u.ears := by
    unfold State.onKeyPath State.resumePath
    split <;> simp
  refine ⟨⟨placeEntry ⟨k, s.keys[k].priority, e.count + 1⟩ e.entries, e.count + 1,
    if e.entries.isEmpty then e.dip.aim (s.dipDepth p) else e.dip⟩, ?_, placeEntry_length _ e.entries⟩
  unfold State.takeIn
  dsimp only
  split
  · rw [path, demoteHead_ears]; rfl
  · rfl

theorem fullList_tableSet {s t : State} {p q : PortId} {e : Ear} (ears : t.ears = tableSet s.ears p (some e))
    (full : p = q → 4 ≤ e.entries.length) (h : FullList s q) : FullList t q := by
  rw [FullList, ears, tableSet_get]
  split
  · rename_i same; exact ⟨e, rfl, full same⟩
  · exact h

/-- R102: an offer leaves a full list full: it is turned away, or an entry is evicted for it. -/
theorem offer_fullList {p q : PortId} {k : KeyId} {s : State} (h : FullList s q) : FullList (s.offer p k).1 q := by
  unfold State.offer
  split
  · exact h
  · rename_i e there
    split
    · rename_i room
      obtain ⟨e', ears, length⟩ := takeIn_ears p k e s
      refine fullList_tableSet ears (fun same => ?_) h
      subst same
      obtain ⟨e0, there', full⟩ := h
      rw [there] at there'
      cases there'
      exact absurd room (Nat.not_lt_of_le full)
    · rename_i full
      split
      · exact h
      · rename_i victim _
        split
        · obtain ⟨e', ears, length⟩ := takeIn_ears p k e.lessLast (s.evict p e victim)
          rw [State.evict_ears, tableSet_tableSet] at ears
          refine fullList_tableSet ears (fun _ => ?_) h
          have : e.lessLast.entries.length = 3 := by
            rw [Ear.lessLast, List.length_take]
            exact Nat.min_eq_left (by simp only [Config.maxTalkers] at full ⊢; omega)
          omega
        · exact h

theorem deliverTo_fullList {k : KeyId} {d : Endpoint} {q : PortId} {s : State} (h : FullList s q) :
    FullList (s.deliverTo k d) q := by
  have plain (d : Endpoint) (id : PathId) : FullList (s.deliverPlain k d id) q :=
    fullList_of_ears (addHolder_ears id (.key k) false s) h
  unfold State.deliverTo
  split
  · exact h
  · rename_i id _
    split
    · exact plain _ _
    · rename_i p _
      split
      · unfold State.deliverEarpiece
        have offered := offer_fullList (p := p) (k := k) h
        split
        · dsimp only
          split
          · exact fullList_of_ears (addHolder_ears id (.key k) false _) offered
          · exact fullList_of_ears (addHolder_ears id (.key k) true _) offered
          · exact offered
        · exact h
      · exact plain _ _

/-! ## The list of the key delivered (R69) -/

/-- R69 to R71: a key that has an owner is given the destination, whatever the answer. -/
theorem deliverTo_lists (k : KeyId) (d : Endpoint) {s : State} (owned : s.keys[k].owner.isSome) :
    some d ∈ dests (s.deliverTo k d).keys[k] := by
  have appended (u : State) (st : EntryStatus) : some d ∈ dests (u.appendEntry k ⟨some d, st⟩).keys[k] := by
    rw [appendEntry_dests]
    exact List.mem_append_right _ (List.mem_singleton_self _)
  obtain ⟨o, owner⟩ := Option.isSome_iff_exists.1 owned
  have path : s.keyPath k d = some ⟨.port o, d, .talk⟩ := by rw [State.keyPath, owner]; rfl
  rw [State.deliverTo, path]
  dsimp only
  split
  · exact appended _ _
  · split
    · unfold State.deliverEarpiece
      split
      · dsimp only
        split <;> exact appended _ _
      · exact appended _ _
    · exact appended _ _

/-- Every key keeps the destinations that it has, and no key but `k` is given one. -/
theorem deliverTo_dests (k j : KeyId) (d : Endpoint) (s : State) :
    dests (s.deliverTo k d).keys[j] = dests s.keys[j] ∨
      (k = j ∧ dests (s.deliverTo k d).keys[j] = dests s.keys[j] ++ [some d]) := by
  have appended (u : State) (st : EntryStatus) (same : dests u.keys[j] = dests s.keys[j]) :
      dests (u.appendEntry k ⟨some d, st⟩).keys[j] = dests s.keys[j] ∨
        (k = j ∧ dests (u.appendEntry k ⟨some d, st⟩).keys[j] = dests s.keys[j] ++ [some d]) := by
    by_cases hit : k = j
    · subst hit
      exact .inr ⟨rfl, by rw [appendEntry_dests, same]⟩
    · exact .inl (by rw [appendEntry_key, if_neg hit, same])
  have step := deliverTo_delivers k d s
  generalize s.deliverTo k d = t at step ⊢
  cases step with
  | nothing => exact .inl rfl
  | denies u why room => exact appended u _ (room.dests j)
  | admits u id asked st room => exact appended _ _ (by rw [(addHolder_same id (.key k) asked u).1, room.dests])

/-- R24 to R26: delivering a key makes no other key the holder of a path. -/
theorem deliverTo_holders {k j : KeyId} (other : k ≠ j) {d : Endpoint} {s : State} {q : Path} (mem : q ∈ (s.deliverTo k d).paths)
    (holds : j ∈ q.keys) : ∃ p ∈ s.paths, p.ident = q.ident ∧ j ∈ p.keys := by
  generalize delivered : s.deliverTo k d = t at mem
  have step := delivered ▸ deliverTo_delivers k d s
  cases step with
  | nothing => exact ⟨q, mem, rfl, holds⟩
  | denies u why room => exact room.holders q mem j holds
  | admits u id asked st room =>
      rcases addHolder_holders mem holds with ⟨p, there, ident, held⟩ | ⟨same, -⟩
      · obtain ⟨r, there', ident', held'⟩ := room.holders p there j held
        exact ⟨r, there', ident'.trans ident, held'⟩
      · exact absurd (Holder.key.inj same) other

end Sys2Proof.Proofs
end

section
/-! PROOFS. Service passes (5.5.1): what the passes that an event triggers leave. -/

namespace Sys2Proof.Proofs

open Sys2Proof.Machine

/-! ## The relation -/

/-- R90, R91: what serving waiters does. Keys keep their destinations, queues only shrink, nobody becomes eligible, a member that is
engaged stays so; and a key that waits nowhere is left out of it. -/
structure Serves (s t : State) : Prop where
  run : s.sameRun t
  delivered : ∀ j : KeyId, t.keys[j].delivered = s.keys[j].delivered
  deadline : ∀ j : KeyId, s.keys[j].deadline = none → t.keys[j].deadline = none
  dests : ∀ (j : KeyId), ∀ y ∈ dests s.keys[j], y ∈ dests t.keys[j]
  waiters : ∀ g : GroupId, ∀ j ∈ t.groups[g].waiters, j ∈ s.groups[g].waiters
  canTake : ∀ (g : GroupId) (j : KeyId) (m : PortId), t.canTake g j m → s.canTake g j m
  engaged : ∀ (g : GroupId) (m : PortId) (j : KeyId), (∀ x ∈ s.groups[g].members, x.port = m → x.engagedBy = some j) →
    ∀ x ∈ t.groups[g].members, x.port = m → x.engagedBy = some j
  unlisted : ∀ j : KeyId, (∀ g : GroupId, j ∉ s.groups[g].waiters) → Proofs.dests t.keys[j] = Proofs.dests s.keys[j]
  unheld : ∀ j : KeyId, (∀ g : GroupId, j ∉ s.groups[g].waiters) → ∀ q ∈ t.paths, j ∈ q.keys →
    ∃ p ∈ s.paths, p.ident = q.ident ∧ j ∈ p.keys
  unengaged : ∀ j : KeyId, (∀ g : GroupId, j ∉ s.groups[g].waiters) → ∀ g : GroupId,
    (∀ x ∈ s.groups[g].members, x.engagedBy ≠ some j) → ∀ x ∈ t.groups[g].members, x.engagedBy ≠ some j

theorem Serves.refl (s : State) : Serves s s where
  run := s.sameRun_refl
  delivered _ := rfl
  deadline _ h := h
  dests _ _ h := h
  waiters _ _ h := h
  canTake _ _ _ h := h
  engaged _ _ _ h := h
  unlisted _ _ := rfl
  unheld _ _ q mem holds := ⟨q, mem, rfl, holds⟩
  unengaged _ _ _ h := h

theorem Serves.trans {s t u : State} (h : Serves s t) (h' : Serves t u) : Serves s u where
  run := h.run.trans h'.run
  delivered j := (h'.delivered j).trans (h.delivered j)
  deadline j none := h'.deadline j (h.deadline j none)
  dests j y mem := h'.dests j y (h.dests j y mem)
  waiters g j mem := h.waiters g j (h'.waiters g j mem)
  canTake g j m take := h.canTake g j m (h'.canTake g j m take)
  engaged g m j all := h'.engaged g m j (h.engaged g m j all)
  unlisted j free := (h'.unlisted j fun g mem => free g (h.waiters g j mem)).trans (h.unlisted j free)
  unheld j free q mem holds := by
    obtain ⟨p, mem', ident, holds'⟩ := h'.unheld j (fun g mem => free g (h.waiters g j mem)) q mem holds
    obtain ⟨r, mem'', ident', holds''⟩ := h.unheld j free p mem' holds'
    exact ⟨r, mem'', ident'.trans ident, holds''⟩
  unengaged j free g none := h'.unengaged j (fun g mem => free g (h.waiters g j mem)) g (h.unengaged j free g none)

/-! ## One turn (R90) -/

/-- R90 step 1: the waiter that is served, and its member. -/
theorem nextService_spec {s : State} {g : GroupId} {k : KeyId} {p : PortId} (next : s.nextService g = some (k, p)) :
    k ∈ s.groups[g].waiters ∧ s.canTake g k p := by
  refine ⟨nextService_waits next, ?_⟩
  obtain ⟨j, -, found⟩ := List.exists_of_findSome?_eq_some next
  obtain ⟨m, chosen, eq⟩ := Option.map_eq_some_iff.1 found
  obtain ⟨rfl, rfl⟩ := Prod.mk.inj eq
  exact (State.eligible_iff s g j m).1 (List.find?_some (p := fun p : PortId => s.eligible g j p) chosen)

/-- R90: with nobody to be served, no waiter has an eligible member. -/
theorem nextService_none {s : State} {g : GroupId} (none : s.nextService g = none) :
    ∀ k ∈ s.groups[g].waiters, ∀ m ∈ s.groups[g].lru, ¬ s.canTake g k m := by
  intro k waits m listed takes
  have noMember := Option.map_eq_none_iff.1 (List.findSome?_eq_none_iff.1 none k waits)
  exact List.find?_eq_none.1 noMember m listed ((State.eligible_iff s g k m).2 takes)

/-- R90, R86: the oldest waiter that some member can take is served by the first such member in LRU order. -/
theorem nextService_eq {s : State} {g : GroupId} {k : KeyId} {m : PortId} {older younger : List KeyId} {before later : List PortId}
    (waiters : s.groups[g].waiters = older ++ k :: younger) (unserved : ∀ j ∈ older, ∀ x ∈ s.groups[g].lru, ¬ s.canTake g j x)
    (lru : s.groups[g].lru = before ++ m :: later) (passed : ∀ x ∈ before, ¬ s.canTake g k x) (takes : s.canTake g k m) :
    s.nextService g = some (k, m) := by
  have chosen : s.chooseMember g k = some m := by
    rw [State.chooseMember, lru, List.find?_append, List.find?_eq_none.2 fun x mem => ?_, Option.none_or,
      List.find?_cons_of_pos ((State.eligible_iff s g k m).2 takes)]
    rw [State.eligible_iff]
    exact passed x mem
  have none (j : KeyId) (mem : j ∈ older) : s.chooseMember g j = none := by
    rw [State.chooseMember, List.find?_eq_none]
    intro x listed
    rw [State.eligible_iff]
    exact unserved j mem x listed
  rw [State.nextService, waiters, List.findSome?_append, List.findSome?_eq_none_iff.2 fun j mem => by rw [none j mem]; rfl,
    Option.none_or, List.findSome?_cons, chosen]
  rfl

/-- The group once a waiter has left it for its member. -/
def servedGroup (k : KeyId) (p : PortId) (r : GroupRecord) : GroupRecord :=
  ({ r with waiters := r.waiters.filter fun x : KeyId => decide (x ≠ k) } : GroupRecord).engage p k

/-- R90: one turn of a service pass. -/
def serveOne (g : GroupId) (k : KeyId) (p : PortId) (s : State) : State := (s.leaveQueue g k).huntDeliver g k p

theorem serveOne_group (g h : GroupId) (k : KeyId) (p : PortId) (s : State) :
    (serveOne g k p s).groups[h] = if g = h then servedGroup k p s.groups[g] else s.groups[h] := by
  rw [serveOne, State.huntDeliver, (deliverTo_steady k (.port p) _).groups, State.leaveQueue]
  dsimp only
  simp only [State.setGroup_groups, State.setKey_groups, tableSet_get, if_true]
  split <;> rfl

/-- The state in which the waiter's delivery begins. -/
def taken (g : GroupId) (k : KeyId) (p : PortId) (s : State) : State :=
  (s.leaveQueue g k).setGroup g ((s.leaveQueue g k).groups[g].engage p k)

theorem serveOne_eq (g : GroupId) (k : KeyId) (p : PortId) (s : State) : serveOne g k p s = (taken g k p s).deliverTo k (.port p) :=
  rfl

theorem taken_key (g : GroupId) (k j : KeyId) (p : PortId) (s : State) :
    (taken g k p s).keys[j] = if k = j then { s.keys[k] with deadline := none } else s.keys[j] := leaveQueue_key g k j s

theorem taken_kept (g : GroupId) (k j : KeyId) (p : PortId) (s : State) :
    dests (taken g k p s).keys[j] = dests s.keys[j] ∧ (taken g k p s).keys[j].owner = s.keys[j].owner ∧
      (taken g k p s).keys[j].delivered = s.keys[j].delivered ∧
      (s.keys[j].deadline = none ∨ k = j → (taken g k p s).keys[j].deadline = none) := by
  rw [taken_key]
  split
  · rename_i same; subst same; exact ⟨rfl, rfl, rfl, fun _ => rfl⟩
  · rename_i other; exact ⟨rfl, rfl, rfl, fun h => h.resolve_right other⟩

theorem mem_servedGroup {k : KeyId} {p : PortId} {r : GroupRecord} {x : Member} (mem : x ∈ (servedGroup k p r).members) :
    ∃ y ∈ r.members, y.port = x.port ∧ ((x.port = p ∧ x.engagedBy = some k) ∨ (x.port ≠ p ∧ x = y)) := by
  obtain ⟨y, there, rfl⟩ := List.mem_map.1 mem
  refine ⟨y, there, ?_⟩
  split
  · rename_i hit; exact ⟨rfl, .inl ⟨hit, rfl⟩⟩
  · rename_i miss; exact ⟨rfl, .inr ⟨miss, rfl⟩⟩

theorem mem_servedGroup_waiters {k j : KeyId} {p : PortId} {r : GroupRecord} :
    j ∈ (servedGroup k p r).waiters ↔ j ∈ r.waiters ∧ j ≠ k := by
  simp [servedGroup, GroupRecord.engage]

theorem serveOne_run (g : GroupId) (k : KeyId) (p : PortId) (s : State) : s.sameRun (serveOne g k p s) :=
  ((State.leaveQueue_changes g k s).trans (State.huntDeliver_changes g k p _)).sameRun

theorem serveOne_members {g h : GroupId} {k : KeyId} {p : PortId} {s : State} {x : Member}
    (mem : x ∈ (serveOne g k p s).groups[h].members) :
    x ∈ s.groups[h].members ∨ (g = h ∧ x.port = p ∧ x.engagedBy = some k ∧ ∃ y ∈ s.groups[g].members, y.port = p) := by
  rw [serveOne_group] at mem
  split at mem
  · rename_i same
    subst same
    obtain ⟨y, there, port, ⟨hit, engaged⟩ | ⟨-, rfl⟩⟩ := mem_servedGroup mem
    · exact .inr ⟨rfl, hit, engaged, y, there, port.trans hit⟩
    · exact .inl there
  · exact .inl mem

/-- R85: who can take a key after a turn could take it before. -/
theorem serveOne_canTake {g h : GroupId} {k j : KeyId} {p m : PortId} {s : State} (takes : (serveOne g k p s).canTake h j m) :
    s.canTake h j m := by
  have run := serveOne_run g k p s
  obtain ⟨present, free, owner, room⟩ := takes
  refine ⟨?_, fun x mem port => ?_, (run.key j).owner ▸ owner, fun e kind there => Nat.lt_of_not_le fun full => ?_⟩
  · rw [State.presenceOf, run.ports, run.rx] at present
    exact present
  · rw [serveOne_group] at free
    split at free
    · rename_i same
      subst same
      by_cases hit : x.port = p
      · have left := free { x with engagedBy := some k }
          (List.mem_map.2 ⟨x, mem, if_pos hit⟩) port
        cases left
      · exact free x (List.mem_map.2 ⟨x, mem, if_neg hit⟩) port
    · exact free x mem port
  · obtain ⟨e', there', full'⟩ : FullList (serveOne g k p s) m := deliverTo_fullList (s := taken g k p s) ⟨e, there, full⟩
    exact absurd (room e' (by rw [run.ports]; exact kind) there') (Nat.not_lt_of_le full')

theorem serveOne_serves {g : GroupId} {k : KeyId} {p : PortId} {s : State} (next : s.nextService g = some (k, p)) :
    Serves s (serveOne g k p s) := by
  obtain ⟨waits, takes⟩ := nextService_spec next
  have steady := deliverTo_steady k (.port p) (taken g k p s)
  have bystander {j : KeyId} (free : ∀ g : GroupId, j ∉ s.groups[g].waiters) : k ≠ j := fun same => free g (same ▸ waits)
  exact {
    run := serveOne_run g k p s
    delivered := fun j => by rw [serveOne_eq, steady.record]; exact (taken_kept g k j p s).2.2.1
    deadline := fun j none => by rw [serveOne_eq, steady.record]; exact (taken_kept g k j p s).2.2.2 (.inl none)
    dests := fun j y mem => by
      rw [← (taken_kept g k j p s).1] at mem
      rcases deliverTo_dests k j (.port p) (taken g k p s) with same | ⟨-, more⟩
      · rw [serveOne_eq, same]; exact mem
      · rw [serveOne_eq, more]; exact List.mem_append_left _ mem
    waiters := fun h j mem => by
      rw [serveOne_group] at mem
      split at mem
      · rename_i same; subst same; exact (mem_servedGroup_waiters.1 mem).1
      · exact mem
    canTake := fun h j m => serveOne_canTake
    engaged := fun h m j all x mem port => by
      rcases serveOne_members mem with before | ⟨rfl, hit, engaged, y, there, hit'⟩
      · exact all x before port
      · have busy := all y there (hit'.trans (hit.symm.trans port))
        rw [takes.2.1 y there hit'] at busy
        cases busy
    unlisted := fun j free => by
      rcases deliverTo_dests k j (.port p) (taken g k p s) with same | ⟨same, -⟩
      · rw [serveOne_eq, same, (taken_kept g k j p s).1]
      · exact absurd same (bystander free)
    unheld := fun j free q mem holds => deliverTo_holders (s := taken g k p s) (bystander free) mem holds
    unengaged := fun j free h none x mem engaged => by
      rcases serveOne_members mem with before | ⟨-, -, engaged', -⟩
      · exact none x before engaged
      · exact bystander free (Option.some.inj (engaged'.symm.trans engaged)) }

/-! ## One pass (R90) -/

theorem servicePass_zero (g : GroupId) (s : State) : s.servicePass g 0 = s := rfl

theorem servicePass_none {g : GroupId} {s : State} (none : s.nextService g = none) (n : Nat) : s.servicePass g n = s := by
  cases n with
  | zero => rfl
  | succ n => rw [State.servicePass, none]

theorem servicePass_some {g : GroupId} {s : State} {k : KeyId} {p : PortId} (next : s.nextService g = some (k, p)) (n : Nat) :
    s.servicePass g (n + 1) = (serveOne g k p s).servicePass g n := by rw [State.servicePass, next]; rfl

/-- What every turn keeps, a pass keeps. -/
theorem servicePass_serves (g : GroupId) (n : Nat) (s : State) : Serves s (s.servicePass g n) := by
  induction n generalizing s with
  | zero => exact .refl s
  | succ n ih =>
      cases next : s.nextService g with
      | none => rw [servicePass_none next]; exact .refl s
      | some service => rw [servicePass_some next]; exact (serveOne_serves next).trans (ih _)

/-- R90: a pass in one group leaves the others. -/
theorem servicePass_other {g h : GroupId} (other : g ≠ h) (n : Nat) (s : State) : (s.servicePass g n).groups[h] = s.groups[h] := by
  induction n generalizing s with
  | zero => rfl
  | succ n ih =>
      cases next : s.nextService g with
      | none => rw [servicePass_none next]
      | some service => rw [servicePass_some next, ih, serveOne_group, if_neg other]

/-- R90: each turn takes a waiter out of the queue, so a pass of as many turns as there are waiters ends with nobody to be served. -/
theorem servicePass_ends (g : GroupId) (n : Nat) (s : State) (enough : s.groups[g].waiters.length ≤ n) :
    (s.servicePass g n).nextService g = none := by
  induction n generalizing s with
  | zero =>
      have empty : s.groups[g].waiters = [] := List.eq_nil_of_length_eq_zero (Nat.le_zero.1 enough)
      rw [servicePass_zero, State.nextService, empty]
      rfl
  | succ n ih =>
      cases next : s.nextService g with
      | none => rw [servicePass_none next]; exact next
      | some service =>
          obtain ⟨k, p⟩ := service
          rw [servicePass_some next]
          refine ih _ ?_
          rw [serveOne_group, if_pos rfl]
          have fewer : (s.groups[g].waiters.filter fun x : KeyId => decide (x ≠ k)).length < s.groups[g].waiters.length :=
            List.length_filter_lt_length_iff_exists.2 ⟨k, nextService_waits next, by simp⟩
          exact Nat.le_of_lt_succ (fewer.trans_le enough)

/-! ## The passes of an event (R89, R90) -/

/-- R90: the pass of one group, where the event triggers it. -/
def passIn (t : Triggers) (s : State) (g : GroupId) : State :=
  if s.triggered t g then s.servicePass g s.groups[g].waiters.length else s

theorem runPasses_eq (t : Triggers) (s : State) : s.runPasses t = (List.finRange 32).foldl (passIn t) s := rfl

theorem passIn_serves (t : Triggers) (s : State) (g : GroupId) : Serves s (passIn t s g) := by
  unfold passIn
  split
  · exact servicePass_serves g _ s
  · exact .refl s

theorem passIn_other (t : Triggers) (s : State) {g h : GroupId} (other : g ≠ h) : (passIn t s g).groups[h] = s.groups[h] := by
  unfold passIn
  split
  · exact servicePass_other other _ s
  · rfl

/-- R90: after the pass of a group that is triggered nobody is to be served there. -/
theorem passIn_ends {t : Triggers} {s : State} {g : GroupId} (runs : s.triggered t g = true) :
    (passIn t s g).nextService g = none := by
  rw [passIn, if_pos runs]
  exact servicePass_ends g _ s (Nat.le_refl _)

theorem passes_serve (t : Triggers) (gs : List GroupId) (s : State) : Serves s (gs.foldl (passIn t) s) := by
  induction gs generalizing s with
  | nil => exact .refl s
  | cons g gs ih => exact (passIn_serves t s g).trans (ih _)

theorem passes_other (t : Triggers) {gs : List GroupId} {h : GroupId} (other : h ∉ gs) (s : State) :
    (gs.foldl (passIn t) s).groups[h] = s.groups[h] := by
  induction gs generalizing s with
  | nil => rfl
  | cons g gs ih =>
      obtain ⟨ne, rest⟩ := not_or.1 (mt List.mem_cons.2 other)
      rw [List.foldl_cons, ih rest, passIn_other t s (Ne.symm ne)]

/-- R89: whether an event triggers a group's pass depends on that group alone. -/
theorem triggered_congr {s s' : State} {g : GroupId} (same : s'.groups[g] = s.groups[g]) (t : Triggers) :
    s'.triggered t g = s.triggered t g := by rw [State.triggered, State.triggered, same]

theorem passes_of_none (t : Triggers) {gs : List GroupId} {s : State} (none : ∀ g ∈ gs, s.triggered t g = false) :
    gs.foldl (passIn t) s = s := by
  induction gs with
  | nil => rfl
  | cons g gs ih =>
      have first : passIn t s g = s := if_neg (by rw [none g List.mem_cons_self]; decide)
      rw [List.foldl_cons, first]
      exact ih fun h mem => none h (List.mem_cons_of_mem _ mem)

theorem runPasses_serves (t : Triggers) (s : State) : Serves s (s.runPasses t) := passes_serve t _ s

theorem runPasses_of_none {t : Triggers} {s : State} (none : ∀ g, s.triggered t g = false) : s.runPasses t = s :=
  passes_of_none t fun g _ => none g

/-- R90: the passes in ascending order, cut at one group: those of lower groups, its own, those of higher groups. -/
theorem runPasses_cut (t : Triggers) (s : State) (g : GroupId) : ∃ lower higher : List GroupId,
    s.runPasses t = higher.foldl (passIn t) (passIn t (lower.foldl (passIn t) s) g) ∧ (∀ h ∈ lower, h < g) ∧ g ∉ higher := by
  obtain ⟨lower, higher, cut⟩ := List.append_of_mem (List.mem_finRange g)
  have sorted := List.pairwise_lt_finRange 32
  rw [cut, List.pairwise_append, List.pairwise_cons] at sorted
  obtain ⟨-, ⟨above, -⟩, below⟩ := sorted
  refine ⟨lower, higher, ?_, fun h mem => below h mem g List.mem_cons_self, fun mem => lt_irrefl _ (above g mem)⟩
  rw [runPasses_eq, cut, List.foldl_append, List.foldl_cons]

/-- R89, R90: what the passes of an event leave, `runs` being the groups that it triggers. -/
theorem runPasses_servedIn {t : Triggers} {s : State} {runs : GroupId → Prop} (triggers : ∀ g, s.triggered t g = true ↔ runs g) :
    s.servedIn (s.runPasses t) runs := by
  have idle {g : GroupId} (not : ¬ runs g) : s.triggered t g = false := Bool.eq_false_iff.2 fun yes => not ((triggers g).1 yes)
  refine ⟨fun g not => ?_, fun g runsHere k waits m listed takes => ?_, ?_⟩
  · obtain ⟨lower, higher, eq, below, notHigher⟩ := runPasses_cut t s g
    have before := passes_other t (fun mem => lt_irrefl _ (below g mem)) s
    have own : passIn t (lower.foldl (passIn t) s) g = lower.foldl (passIn t) s :=
      if_neg (by rw [triggered_congr before, idle not]; decide)
    rw [eq, passes_other t notHigher, own, before]
  · obtain ⟨lower, higher, eq, below, notHigher⟩ := runPasses_cut t s g
    have before := passes_other t (fun mem => lt_irrefl _ (below g mem)) s
    have ends := passIn_ends ((triggered_congr before t).trans ((triggers g).2 runsHere))
    generalize passIn t (lower.foldl (passIn t) s) g = u at eq ends
    have after := passes_other t notHigher u
    have serves := passes_serve t higher u
    rw [← eq] at after serves
    rw [after] at waits listed
    exact nextService_none ends k waits m listed (serves.canTake g k m takes)
  · intro g k m older younger before later runsHere first waiters notOlder notYounger unserved lru passed takes owned
    obtain ⟨lower, higher, eq, below, notHigher⟩ := runPasses_cut t s g
    rw [passes_of_none t fun h mem => idle (first h (below h mem))] at eq
    have own : passIn t s g = s.servicePass g s.groups[g].waiters.length := if_pos ((triggers g).2 runsHere)
    have next := nextService_eq waiters unserved lru passed takes
    obtain ⟨n, length⟩ : ∃ n, s.groups[g].waiters.length = n + 1 := ⟨older.length + younger.length, by
      rw [waiters, List.length_append, List.length_cons]; omega⟩
    rw [own, length, servicePass_some next] at eq
    have serves : Serves (serveOne g k m s) (s.runPasses t) := by
      rw [eq]
      exact (servicePass_serves g n _).trans (passes_serve t higher _)
    have group := serveOne_group g g k m s
    rw [if_pos rfl] at group
    refine ⟨fun waits => ?_, serves.deadline k ?_, serves.engaged g m k fun x mem port => ?_, ?_⟩
    · have still := serves.waiters g k waits
      rw [group] at still
      exact (mem_servedGroup_waiters.1 still).2 rfl
    · rw [serveOne_eq, (deliverTo_steady k (.port m) _).record]
      exact (taken_kept g k k m s).2.2.2 (.inr rfl)
    · rw [group] at mem
      obtain ⟨y, -, -, ⟨-, engaged⟩ | ⟨other, -⟩⟩ := mem_servedGroup mem
      · exact engaged
      · exact absurd port other
    · have given := deliverTo_lists k (.port m) (s := taken g k m s) (by rw [(taken_kept g k k m s).2.1]; exact owned)
      obtain ⟨⟨dest, st⟩, mem, rfl⟩ := List.mem_map.1 (serves.dests k _ given)
      exact ⟨st, mem⟩

end Sys2Proof.Proofs
end

section
/-! PROOFS. A key leaves an interrupt list (6.3): what its departure does at that port, and that it does nothing elsewhere. -/

namespace Sys2Proof.Proofs

open Sys2Proof.Machine

/-! ## The record of a path -/

/-- 2.1: the one record of its identity. -/
def IsRecord (s : State) (q : Path) : Prop := q ∈ s.paths ∧ ∀ x ∈ s.paths, x.ident = q.ident → x = q

theorem IsRecord.found {s : State} {q : Path} (h : IsRecord s q) : s.findPath q.ident = some q :=
  findPath_of_unique h.1 rfl h.2

/-- An operation on one path leaves the records of the others. -/
theorem mem_touchPath_other {s : State} {id : PathId} {f : Path → Path} (fixed : ∀ q, (f q).ident = q.ident) {x : Path}
    (other : x.ident ≠ id) : x ∈ (s.touchPath id f).paths ↔ x ∈ s.paths := by
  refine ⟨fun mem => ?_, fun mem => ?_⟩
  · rcases mem_touchPath mem with ⟨there, -⟩ | ⟨p, found, rfl⟩
    · exact there
    · exact absurd (by rw [aimedAfter_ident, fixed, (findPath_some found).2]) other
  · cases found : s.findPath id with
    | none => rwa [touchPath_of_none found]
    | some p =>
        rw [touchPath_paths found]
        exact List.mem_map.2 ⟨x, mem, if_neg other⟩

theorem IsRecord.touch {s : State} {q : Path} (h : IsRecord s q) {f : Path → Path} (fixed : ∀ q, (f q).ident = q.ident) :
    IsRecord (s.touchPath q.ident f) (aimedAfter s f q) := by
  have ident : (aimedAfter s f q).ident = q.ident := by rw [aimedAfter_ident, fixed]
  refine ⟨?_, fun x mem same => ?_⟩
  · rw [touchPath_paths h.found]
    exact List.mem_map.2 ⟨q, h.1, if_pos rfl⟩
  · rcases mem_touchPath mem with ⟨-, other⟩ | ⟨p, found, rfl⟩
    · exact absurd (same.trans ident) other
    · rw [Option.some.inj (found.symm.trans h.found)]

theorem IsRecord.touchOther {s : State} {q : Path} (h : IsRecord s q) {id : PathId} (other : q.ident ≠ id) {f : Path → Path}
    (fixed : ∀ q, (f q).ident = q.ident) : IsRecord (s.touchPath id f) q :=
  ⟨(mem_touchPath_other fixed other).2 h.1, fun x mem same =>
    h.2 x ((mem_touchPath_other fixed (fun hit => other (same.symm.trans hit))).1 mem) same⟩

theorem touchPath_idents (s : State) (id : PathId) {f : Path → Path} (fixed : ∀ q, (f q).ident = q.ident) :
    (s.touchPath id f).paths.map Path.ident = s.paths.map Path.ident := by
  cases found : s.findPath id with
  | none => rw [touchPath_of_none found]
  | some p =>
      rw [touchPath_paths found, List.map_map]
      refine List.map_congr_left fun r _ => ?_
      simp only [Function.comp_apply]
      split
      · rename_i hit
        rw [aimedAfter_ident, fixed, (findPath_some found).2, hit]
      · rfl

/-- R35: an opening is counted at its destination. -/
theorem openingIfRaised_record {d : Endpoint} {p : PortId} (other : d ≠ .port p) (before after : Nat) (s : State) :
    (s.openingIfRaised before after d).gov.records[p] = s.gov.records[p] := by
  unfold State.openingIfRaised State.reportOpening
  split
  · split
    · rfl
    · rename_i q
      dsimp only
      split
      · exact tableSet_ne _ _ fun same => other (congrArg Endpoint.port same)
      · rfl
  · rfl

theorem touchPath_record (s : State) {id : PathId} {p : PortId} (other : id.dst ≠ .port p) (f : Path → Path) :
    (s.touchPath id f).gov.records[p] = s.gov.records[p] := by
  cases found : s.findPath id with
  | none => rw [touchPath_of_none found]
  | some q => rw [touchPath_of_some found, openingIfRaised_record other]

/-! ## What a change at one port leaves alone -/

/-- What is at a destination `y` is the same: the entries of delivery lists, the interrupt list, the paths, the openings. -/
structure Spares (y : Option Endpoint) (s t : State) : Prop where
  entries : ∀ (j : KeyId) (n : Nat) (x : DestEntry), x.dest = y → (t.keys[j].entries[n]? = some x ↔ s.keys[j].entries[n]? = some x)
  ear : ∀ p : PortId, y = some (.port p) → t.ears[p] = s.ears[p]
  paths : ∀ q : Path, some q.ident.dst = y → (q ∈ t.paths ↔ q ∈ s.paths)
  record : ∀ p : PortId, y = some (.port p) → t.gov.records[p] = s.gov.records[p]

theorem Spares.of_eq {y : Option Endpoint} {s t : State} (entries : ∀ j : KeyId, t.keys[j].entries = s.keys[j].entries)
    (ears : t.ears = s.ears) (paths : t.paths = s.paths) (gov : t.gov = s.gov) : Spares y s t :=
  ⟨fun j n x _ => by rw [entries], fun p _ => by rw [ears], fun q _ => by rw [paths], fun p _ => by rw [gov]⟩

theorem Spares.refl (y : Option Endpoint) (s : State) : Spares y s s := .of_eq (fun _ => rfl) rfl rfl rfl

theorem Spares.trans {y : Option Endpoint} {s t u : State} (h : Spares y s t) (h' : Spares y t u) : Spares y s u where
  entries j n x at' := (h'.entries j n x at').trans (h.entries j n x at')
  ear p at' := (h'.ear p at').trans (h.ear p at')
  paths q at' := (h'.paths q at').trans (h.paths q at')
  record p at' := (h'.record p at').trans (h.record p at')

theorem IsRecord.spared {s t : State} {q : Path} (h : IsRecord s q) (spares : Spares (some q.ident.dst) s t) : IsRecord t q :=
  ⟨(spares.paths q rfl).2 h.1, fun x mem same => h.2 x ((spares.paths x (by rw [same])).1 mem) same⟩

/-- From `s` to `t` keys, paths and lists have changed at port `p` alone. -/
structure Within (p : PortId) (s t : State) : Prop where
  steady : Steady s t
  idents : t.paths.map Path.ident = s.paths.map Path.ident
  spares : ∀ y, y ≠ some (.port p) → Spares y s t

theorem Within.refl (p : PortId) (s : State) : Within p s s := ⟨.refl s, rfl, fun y _ => .refl y s⟩

theorem Within.trans {p : PortId} {s t u : State} (h : Within p s t) (h' : Within p t u) : Within p s u :=
  ⟨h.steady.trans h'.steady, h'.idents.trans h.idents, fun y ne => (h.spares y ne).trans (h'.spares y ne)⟩

theorem report_within (p : PortId) (n : Notice) (s : State) : Within p s (s.report n) :=
  ⟨report_steady n s, rfl, fun _ _ => .of_eq (fun _ => rfl) rfl rfl rfl⟩

theorem setEar_within (p : PortId) (e : Option Ear) (s : State) : Within p s (s.setEar p e) := by
  refine ⟨setEar_steady p e s, rfl, fun y ne => { Spares.refl y s with ear := fun q at' => ?_ }⟩
  exact tableSet_ne s.ears e fun same => ne (by rw [at', same])

theorem touchPath_within {p : PortId} {id : PathId} (into : id.dst = .port p) {f : Path → Path}
    (fixed : ∀ q, (f q).ident = q.ident) (s : State) : Within p s (s.touchPath id f) := by
  refine ⟨touchPath_steady id f s, touchPath_idents s id fixed, fun y ne => ⟨fun j n x _ => ?_, fun q _ => ?_, fun q at' => ?_,
    fun q at' => ?_⟩⟩
  · rw [State.touchPath_keys]
  · rw [State.touchPath_ears]
  · refine mem_touchPath_other fixed fun hit => ne ?_
    rw [← at', hit, into]
  · refine touchPath_record s (fun hit => ne ?_) f
    rw [at', ← hit, into]

theorem onKeyPath_within {j : KeyId} {p : PortId} {f : Path → Path} (fixed : ∀ q, (f q).ident = q.ident) (s : State) :
    Within p s (s.onKeyPath j p fun id s => s.touchPath id f) := by
  unfold State.onKeyPath
  split
  · rename_i path; exact touchPath_within (keyPath_dst path) fixed s
  · exact .refl p s

theorem reportStanding_within (j : KeyId) (p : PortId) (st : EntryStatus) (s : State) : Within p s (s.reportStanding j p st) := by
  refine ⟨reportStanding_steady j p st s, rfl, fun y ne => { Spares.refl y s with entries := fun i n x at' => ?_ }⟩
  rw [reportStanding_key]
  split
  · rename_i same
    subst same
    have told (z : DestEntry) : (if z.dest = some (.port p) then { z with status := st } else z) = x ↔ z = x := by
      split
      · rename_i hit
        exact ⟨fun eq => absurd (by rw [← at', ← eq]; exact hit) ne, fun eq => absurd (by rw [← at', ← eq]; exact hit) ne⟩
      · exact Iff.rfl
    rw [List.getElem?_map, Option.map_eq_some_iff]
    simp only [told, exists_eq_right]
  · exact Iff.rfl

theorem promoteHead_within (p : PortId) (head : Option TalkEntry) (s : State) : Within p s (s.promoteHead p head) := by
  unfold State.promoteHead
  split
  · exact .refl p s
  · exact (onKeyPath_within (fun q => (Path.resume_fixed q).2) s).trans (reportStanding_within _ _ _ _)

/-! ## The departure (R105) -/

/-- R105: the list that a key has left. -/
def listWithout (e : Ear) (k : KeyId) : Ear :=
  if e.without k = [] then ⟨[], 0, e.dip.aim 256⟩ else { e with entries := e.without k }

/-- R105, R113: the key has left the list. -/
def unlisted (p : PortId) (k : KeyId) (e : Ear) (s : State) : State :=
  (s.setEar p (some (listWithout e k))).report (.earpiece p)

/-- R105 step 1: the departing head's path is suspended, unless it is the new head's too. -/
def yields (p : PortId) (k : KeyId) (head : Option TalkEntry) (s : State) : State :=
  if (head.bind fun h : TalkEntry => s.keyPath h.key (.port p)) = s.keyPath k (.port p) then s
  else s.onKeyPath k p State.suspendPath

/-- R105: the departing head yields, and the new head is resumed and told that it is heard. -/
def handsOver (p : PortId) (k : KeyId) (head : Option TalkEntry) (s : State) : State := (yields p k head s).promoteHead p head

/-- The key has an entry in the list. -/
def Listed (k : KeyId) (e : Ear) : Prop := ∃ x ∈ e.entries, x.key = k

/-- The key is the head of the list. -/
abbrev Heads (k : KeyId) (e : Ear) : Prop := e.entries.head?.map TalkEntry.key = some k

theorem listWithout_entries (e : Ear) (k : KeyId) : (listWithout e k).entries = e.without k := by
  unfold listWithout
  split
  · rename_i empty; exact empty.symm
  · rfl

theorem not_listed_listWithout (e : Ear) (k : KeyId) : ¬ Listed k (listWithout e k) := by
  rintro ⟨x, mem, key⟩
  rw [listWithout_entries] at mem
  exact absurd key (by simpa using (List.mem_filter.1 mem).2)

/-- R105: what `depart` does where the key has an entry. -/
theorem depart_of_listed {s : State} {p : PortId} {k : KeyId} {e : Ear} (ear : s.ears[p] = some e) (listed : Listed k e) :
    s.depart p k = (if Heads k e then handsOver p k (e.without k).head? (unlisted p k e s) else unlisted p k e s,
      decide (e.entries.length = 4) && decide ((e.without k).length = 3)) := by
  have any : (e.entries.any fun x : TalkEntry => decide (x.key = k)) = true := by
    simpa [Listed] using listed
  have left : (if (e.entries.filter fun x : TalkEntry => decide (x.key ≠ k)).isEmpty then ⟨[], 0, e.dip.aim Config.noDip⟩
      else { e with entries := e.entries.filter fun x : TalkEntry => decide (x.key ≠ k) }) = listWithout e k := by
    simp only [List.isEmpty_iff]
    rfl
  rw [State.depart, ear]
  dsimp only
  rw [if_pos any, left]
  simp only [Heads, decide_eq_true_eq]
  rfl

/-- R105: a key without an entry leaves nothing. -/
theorem depart_of_unlisted {s : State} {p : PortId} {k : KeyId} (unlisted : ∀ e, s.ears[p] = some e → ¬ Listed k e) :
    s.depart p k = (s, false) := by
  rw [State.depart]
  split
  · rfl
  · rename_i e ear
    refine if_neg fun any => unlisted e ear ?_
    simpa [Listed] using any

theorem yields_within (p : PortId) (k : KeyId) (head : Option TalkEntry) (s : State) : Within p s (yields p k head s) := by
  unfold yields
  split
  · exact .refl p s
  · exact onKeyPath_within (fun q => (Path.suspend_fixed q).2) s

theorem handsOver_within (p : PortId) (k : KeyId) (head : Option TalkEntry) (s : State) : Within p s (handsOver p k head s) :=
  (yields_within p k head s).trans (promoteHead_within p head _)

theorem unlisted_within (p : PortId) (k : KeyId) (e : Ear) (s : State) : Within p s (unlisted p k e s) :=
  (setEar_within p _ s).trans (report_within p _ _)

theorem depart_within (p : PortId) (k : KeyId) (s : State) : Within p s (s.depart p k).1 := by
  by_cases listed : ∃ e, s.ears[p] = some e ∧ Listed k e
  · obtain ⟨e, ear, listed⟩ := listed
    rw [depart_of_listed ear listed]
    dsimp only
    split
    · exact (unlisted_within p k e s).trans (handsOver_within _ _ _ _)
    · exact unlisted_within p k e s
  · rw [depart_of_unlisted fun e ear is => listed ⟨e, ear, is⟩]
    exact .refl p s

end Sys2Proof.Proofs
end

section
/-! PROOFS. The departing head hands over to the next (6.3): the paths, the entries, the openings and the notices at that port. -/

namespace Sys2Proof.Proofs

open Sys2Proof.Machine

/-! ## Suspending and resuming a record (R31, R32) -/

theorem resume_eq (q : Path) : q.resume = { q with suspended := false } := by
  unfold Path.resume
  split
  · rfl
  · rename_i off
    rw [Bool.not_eq_true] at off
    rw [← off]

theorem suspend_eq {q : Path} (held : q.keys ≠ []) : q.suspend = { q with suspended := q.suspended || (!q.closing && !q.route) } := by
  have held' : q.keys.isEmpty = false := List.isEmpty_eq_false_iff.2 held
  rw [Path.suspend, held']
  split
  · rename_i may
    simp only [Bool.and_eq_true, Bool.not_eq_true'] at may
    obtain ⟨⟨⟨closing, -⟩, -⟩, route⟩ := may
    rw [closing, route, Bool.not_false, Bool.and_self, Bool.or_true]
  · rename_i mayNot
    have same : (q.suspended || (!q.closing && !q.route)) = q.suspended := by
      cases suspended : q.suspended with
      | true => rfl
      | false => simpa [suspended] using mayNot
    rw [same]

/-- R32: the record of the new head's path. -/
def resumed (s : State) (q : Path) : Path :=
  Path.retargeted { q with suspended := false } (s.targetOf { q with suspended := false })

/-- R105, R31, R32: the record of the departing head's path, `shared` where it is the new head's too. -/
def handedOver (s : State) (shared : Prop) [Decidable shared] (q : Path) : Path :=
  let q' := { q with suspended := if shared then false else q.suspended || (!q.closing && !q.route) }
  q'.retargeted (s.targetOf q')

theorem aimedAfter_resume (s : State) (q : Path) : aimedAfter s Path.resume q = resumed s q := by
  rw [aimedAfter, resume_eq, resumed]

/-! ## The two steps -/

/-- The owner of the new head. -/
abbrev headOwner (s : State) (head : Option TalkEntry) : Option PortId := head.bind fun h : TalkEntry => s.keys[h.key].owner

/-- 6.1.3: the path of an owner's keys into a port. -/
abbrev talkPath (o p : PortId) : PathId := ⟨.port o, .port p, .talk⟩

/-- 6.1.3: two keys have one path into a port exactly if they have one owner. -/
theorem headPath_eq_iff (s : State) (k : KeyId) (p : PortId) (head : Option TalkEntry) :
    (head.bind fun h : TalkEntry => s.keyPath h.key (.port p)) = s.keyPath k (.port p) ↔ headOwner s head = s.keys[k].owner := by
  have inj {a b : Option PortId} : a.map (fun o => talkPath o p) = b.map (fun o => talkPath o p) ↔ a = b :=
    Option.map_inj_right (fun x y h => by cases h; rfl)
  cases head with
  | none => exact inj (a := none)
  | some h => exact inj

theorem onKeyPath_of_owner {s : State} {j : KeyId} {o : PortId} (owner : s.keys[j].owner = some o) (p : PortId)
    (f : PathId → State → State) : s.onKeyPath j p f = f (talkPath o p) s := by
  rw [State.onKeyPath, State.keyPath, owner]
  rfl

theorem onKeyPath_of_none {s : State} {j : KeyId} (owner : s.keys[j].owner = none) (p : PortId) (f : PathId → State → State) :
    s.onKeyPath j p f = s := by
  rw [State.onKeyPath, State.keyPath, owner]
  rfl

section
variable {s : State} {k : KeyId} {p o : PortId} {head : Option TalkEntry}

theorem yields_of_none (owner : s.keys[k].owner = none) : yields p k head s = s := by
  rw [yields, onKeyPath_of_none owner, ite_self]

theorem yields_of_shared (shared : headOwner s head = s.keys[k].owner) : yields p k head s = s :=
  if_pos ((headPath_eq_iff s k p head).2 shared)

theorem yields_of_other (owner : s.keys[k].owner = some o) (other : headOwner s head ≠ some o) :
    yields p k head s = s.suspendPath (talkPath o p) := by
  rw [yields, if_neg fun same => other ?_, onKeyPath_of_owner owner]
  rw [← owner]
  exact (headPath_eq_iff s k p head).1 same

theorem yields_cases (s : State) (k : KeyId) (p : PortId) (head : Option TalkEntry) : yields p k head s = s ∨
    ∃ o, s.keys[k].owner = some o ∧ headOwner s head ≠ some o ∧ yields p k head s = s.suspendPath (talkPath o p) := by
  cases owner : s.keys[k].owner with
  | none => exact .inl (yields_of_none owner)
  | some o =>
      by_cases shared : headOwner s head = some o
      · exact .inl (yields_of_shared (shared.trans owner.symm))
      · exact .inr ⟨o, rfl, shared, yields_of_other owner shared⟩

/-- Yielding leaves the key records, the groups, the lists and the control link. -/
theorem yields_same : (yields p k head s).keys = s.keys ∧ (yields p k head s).groups = s.groups ∧
    (yields p k head s).ears = s.ears ∧ (yields p k head s).link = s.link ∧ (yields p k head s).routes = s.routes := by
  unfold yields State.onKeyPath State.suspendPath
  split
  · exact ⟨rfl, rfl, rfl, rfl, rfl⟩
  · split <;> simp

/-- The new head's path is resumed; the rest of the promotion is what the head is told. -/
theorem promoteHead_of_owner (owner : headOwner s head = some o) : (s.promoteHead p head).paths = (s.resumePath (talkPath o p)).paths ∧
    (s.promoteHead p head).gov = (s.resumePath (talkPath o p)).gov := by
  obtain ⟨h, rfl, owner⟩ := Option.bind_eq_some_iff.1 owner
  rw [State.promoteHead, onKeyPath_of_owner owner]
  exact ⟨rfl, rfl⟩

theorem promoteHead_of_none (owner : headOwner s head = none) : (s.promoteHead p head).paths = s.paths ∧
    (s.promoteHead p head).gov = s.gov := by
  cases head with
  | none => exact ⟨rfl, rfl⟩
  | some h =>
      rw [State.promoteHead, onKeyPath_of_none owner]
      exact ⟨rfl, rfl⟩

theorem headOwner_yields (head' : Option TalkEntry) : headOwner (yields p k head s) head' = headOwner s head' := by
  rw [headOwner, headOwner, (yields_same).1]

/-! ## The paths -/

theorem IsRecord.of_paths {s t : State} {q : Path} (paths : t.paths = s.paths) (h : IsRecord s q) : IsRecord t q := by
  rw [IsRecord, paths]
  exact h

theorem targetOf_yields (q : Path) : (yields p k head s).targetOf q = s.targetOf q :=
  targetOf_of_same (fun j => by rw [(yields_same).1]) (by rw [(yields_same).2.2.2.2]) q

/-- A record that is neither the departing head's nor the new head's. -/
theorem handsOver_otherPath {x : Path} (mem : x ∈ s.paths) (notOwn : ∀ o, s.keys[k].owner = some o → x.ident ≠ talkPath o p)
    (notHeads : ∀ o, headOwner s head = some o → x.ident ≠ talkPath o p) : x ∈ (handsOver p k head s).paths := by
  have first : x ∈ (yields p k head s).paths := by
    rcases yields_cases s k p head with same | ⟨o, owner, -, eq⟩
    · rwa [same]
    · rw [eq]
      exact (mem_touchPath_other (fun q => (Path.suspend_fixed q).2) (notOwn o owner)).2 mem
  rw [handsOver]
  cases owner : headOwner s head with
  | none => rwa [(promoteHead_of_none (by rw [headOwner_yields]; exact owner)).1]
  | some o =>
      rw [(promoteHead_of_owner (by rw [headOwner_yields]; exact owner)).1]
      exact (mem_touchPath_other (fun q => (Path.resume_fixed q).2) (notHeads o owner)).2 first

/-- R105, R31: the departing head's own path. -/
theorem handsOver_ownPath {q : Path} (owner : s.keys[k].owner = some o) (ident : q.ident = talkPath o p) (h : IsRecord s q)
    (holds : k ∈ q.keys) : IsRecord (handsOver p k head s) (handedOver s (headOwner s head = some o) q) := by
  have resumeFixed (q : Path) : q.resume.ident = q.ident := (Path.resume_fixed q).2
  by_cases shared : headOwner s head = some o
  · have step := h.touch resumeFixed
    rw [ident, aimedAfter_resume] at step
    have same : yields p k head s = s := yields_of_shared (shared.trans owner.symm)
    have eq : handedOver s (headOwner s head = some o) q = resumed s q := by rw [handedOver, if_pos shared]; rfl
    rw [handsOver, eq, same]
    exact step.of_paths (promoteHead_of_owner shared).1
  · have step := h.touch fun q => (Path.suspend_fixed q).2
    have eq : handedOver s (headOwner s head = some o) q = aimedAfter s Path.suspend q := by
      rw [handedOver, if_neg shared, aimedAfter, suspend_eq (List.ne_nil_of_mem holds)]
    rw [ident, ← eq] at step
    have ident' : (handedOver s (headOwner s head = some o) q).ident = talkPath o p := by
      rw [eq, aimedAfter_ident, (Path.suspend_fixed q).2, ident]
    rw [handsOver]
    have yield : yields p k head s = s.suspendPath (talkPath o p) := yields_of_other owner shared
    have first : IsRecord (yields p k head s) (handedOver s (headOwner s head = some o) q) := by rw [yield]; exact step
    cases next : headOwner s head with
    | none => exact (next ▸ first).of_paths (promoteHead_of_none (by rw [headOwner_yields]; exact next)).1
    | some o' =>
        have other : talkPath o p ≠ talkPath o' p := fun same => shared (by rw [next]; cases same; rfl)
        have kept := first.touchOther (ident'.trans_ne other) resumeFixed
        rw [next] at kept
        exact kept.of_paths (promoteHead_of_owner (by rw [headOwner_yields]; exact next)).1

/-- R105, R32: the new head's path, where it is not the departing key's too. -/
theorem handsOver_headPath {q : Path} (next : headOwner s head = some o) (notShared : s.keys[k].owner ≠ some o)
    (ident : q.ident = talkPath o p) (h : IsRecord s q) : IsRecord (handsOver p k head s) (resumed s q) := by
  have first : IsRecord (yields p k head s) q := by
    rcases yields_cases s k p head with same | ⟨o', owner, -, eq⟩
    · rwa [same]
    · have other : q.ident ≠ talkPath o' p := fun same => notShared (by rw [owner]; cases ident.symm.trans same; rfl)
      rw [eq]
      exact h.touchOther other fun q => (Path.suspend_fixed q).2
  have step := first.touch fun q => (Path.resume_fixed q).2
  rw [ident, aimedAfter_resume] at step
  have eq : resumed (yields p k head s) q = resumed s q := by rw [resumed, resumed, targetOf_yields]
  rw [handsOver, ← eq]
  exact step.of_paths (promoteHead_of_owner (by rw [headOwner_yields]; exact next)).1

/-- R105: the new head is heard. -/
theorem handsOver_heard {q : Path} (next : headOwner s head = some o) (mem : q ∈ (handsOver p k head s).paths)
    (ident : q.ident = talkPath o p) : q.suspended = false := by
  rw [handsOver, (promoteHead_of_owner (by rw [headOwner_yields]; exact next)).1] at mem
  rcases mem_touchPath mem with ⟨-, other⟩ | ⟨q0, -, rfl⟩
  · exact absurd ident other
  · rw [aimedAfter_resume]
    exact (retargeted_keeps _ _).2.2.2.2.1

/-! ## What the keys, the lists and the control link are told -/

/-- R74: the entry of a new head at port `p` is LIVE. -/
def toldLive (p : PortId) (head : Option TalkEntry) (j : KeyId) (x : DestEntry) : DestEntry :=
  if x.dest = some (.port p) ∧ head.map TalkEntry.key = some j then { x with status := .live } else x

theorem handsOver_entries (j : KeyId) : (handsOver p k head s).keys[j].entries = s.keys[j].entries.map (toldLive p head j) := by
  have same : (yields p k head s).keys = s.keys := (yields_same).1
  cases head with
  | none =>
      have id : toldLive p none j = id := funext fun x => by simp [toldLive]
      rw [id, List.map_id]
      exact congrArg (fun keys => keys[j].entries) same
  | some h =>
      have keys : ((yields p k (some h) s).onKeyPath h.key p State.resumePath).keys = s.keys := by
        unfold State.onKeyPath State.resumePath
        split <;> simp [same]
      change (State.reportStanding h.key p .live _).keys[j].entries = _
      rw [reportStanding_key, keys]
      split
      · rename_i hit; subst hit
        exact List.map_congr_left fun x _ => by simp [toldLive]
      · rename_i miss
        have id : toldLive p (some h) j = id := funext fun x => by simp [toldLive, miss]
        rw [id, List.map_id]

theorem handsOver_ears : (handsOver p k head s).ears = s.ears := by
  have same : (yields p k head s).ears = s.ears := (yields_same).2.2.1
  cases head with
  | none => exact same
  | some h =>
      refine Eq.trans ?_ same
      change ((yields p k (some h) s).onKeyPath h.key p State.resumePath).ears = _
      unfold State.onKeyPath State.resumePath
      split <;> simp

theorem handsOver_link : (handsOver p k head s).link = reported (head.toList.map fun h : TalkEntry => .key h.key) s.link := by
  have same : (yields p k head s).link = s.link := (yields_same).2.2.2.1
  cases head with
  | none => exact same
  | some h =>
      refine congrArg (ControlLink.report (n := .key h.key)) (Eq.trans ?_ same)
      unfold State.onKeyPath State.resumePath
      split <;> simp

end

/-! ## The openings (R35, R158) -/

/-- R35: an operation that does not raise the target of its path from 0 counts no opening. -/
theorem touchPath_gov {s : State} {id : PathId} {f : Path → Path}
    (lowers : ∀ q, s.findPath id = some q → s.targetOf (f q) ≤ q.target) : (s.touchPath id f).gov = s.gov := by
  cases found : s.findPath id with
  | none => rw [touchPath_of_none found]
  | some q =>
      have target : (aimedAfter s f q).target = s.targetOf (f q) := (retargeted_keeps _ _).2.2.2.2.2.2.2
      have lower := lowers q found
      rw [touchPath_of_some found, State.openingIfRaised, if_neg (by omega)]

theorem suspend_lowers (s : State) (q : Path) : s.targetOf q.suspend ≤ s.targetOf q := by
  unfold Path.suspend
  split
  · rw [State.targetOf, if_pos (.inl rfl)]; exact Nat.zero_le _
  · exact Nat.le_refl _

/-- R105, R35: the new head's path is resumed to a level above 0. -/
def OpensTo (s : State) (p : PortId) (head : Option TalkEntry) : Prop :=
  ∃ o, headOwner s head = some o ∧ ∃ q ∈ s.paths, q.ident = talkPath o p ∧ q.suspended = true ∧ q.closing = false ∧
    0 < s.loudest q.ident q.keys q.route

/-- The paths into a port are aimed. -/
def AimedInto (s : State) (p : PortId) : Prop := ∀ q ∈ s.paths, q.ident.dst = .port p → q.target = s.targetOf q

/-- R32, R35, R158: resuming a path counts an opening exactly if it was silent and is heard now. -/
theorem resumePath_record {s : State} {o p : PortId} (run : s.mode = .run) (aimed : AimedInto s p)
    (distinct : s.paths.Pairwise fun a b => a.ident ≠ b.ident) :
    let opens := ∃ q ∈ s.paths, q.ident = talkPath o p ∧ q.suspended = true ∧ q.closing = false ∧
      0 < s.loudest q.ident q.keys q.route
    (opens → (s.resumePath (talkPath o p)).gov.records[p] = s.withOpenings p 1) ∧
      (¬ opens → (s.resumePath (talkPath o p)).gov.records[p] = s.gov.records[p]) := by
  intro opens
  cases found : s.findPath (talkPath o p) with
  | none =>
      have absent := findPath_none.1 found
      rw [State.resumePath, touchPath_of_none found]
      exact ⟨fun ⟨q, mem, ident, _⟩ => absurd ident (absent q mem), fun _ => rfl⟩
  | some q =>
      obtain ⟨mem, ident⟩ := findPath_some found
      have before : q.target = s.targetOf q := aimed q mem (by rw [ident])
      have only (x : Path) (there : x ∈ s.paths) (same : x.ident = talkPath o p) : x = q :=
        List.inj_on_of_nodup_map (List.pairwise_map.2 distinct) there mem (same.trans ident.symm)
      have opens_iff : opens ↔ q.suspended = true ∧ q.closing = false ∧ 0 < s.loudest q.ident q.keys q.route := by
        refine ⟨fun ⟨x, there, same, rest⟩ => ?_, fun rest => ⟨q, mem, ident, rest⟩⟩
        rw [← only x there same]
        exact rest
      have after : (aimedAfter s Path.resume q).target = if q.closing = true then 0 else s.loudest q.ident q.keys q.route := by
        rw [aimedAfter_resume, resumed, (retargeted_keeps _ _).2.2.2.2.2.2.2, State.targetOf]
        simp
      have raised : (q.target = 0 ∧ 0 < (aimedAfter s Path.resume q).target) ↔ opens := by
        rw [opens_iff, before, after, State.targetOf]
        cases q.suspended <;> cases q.closing <;> simp
      have record : (s.resumePath (talkPath o p)).gov.records[p] = s.withOpenings p
          (if q.target = 0 ∧ 0 < (aimedAfter s Path.resume q).target then 1 else 0) := by
        rw [State.resumePath, touchPath_of_run run found]
        exact tableSet_self s.gov.records p _
      refine ⟨fun yes => ?_, fun no => ?_⟩
      · rw [record, if_pos (raised.2 yes)]
      · rw [record, if_neg (fun h => no (raised.1 h)), withOpenings_zero]

theorem AimedInto.touch {s : State} {p : PortId} (aimed : AimedInto s p) (id : PathId) (f : Path → Path) :
    AimedInto (s.touchPath id f) p := fun q mem dst => by
  rcases touchPath_aimedAt mem with ⟨there, -⟩ | aims
  · exact aimedAt_of_same (fun j => by rw [State.touchPath_keys]) (by rw [State.touchPath_routes]) (aimed q there dst)
  · exact aims

/-- R105, R35: handing over counts an opening exactly if the new head's path is resumed to a level above 0. -/
theorem handsOver_record {s : State} {k : KeyId} {p : PortId} {head : Option TalkEntry} (run : s.mode = .run)
    (aimed : AimedInto s p) (distinct : s.paths.Pairwise fun a b => a.ident ≠ b.ident) :
    (OpensTo s p head → (handsOver p k head s).gov.records[p] = s.withOpenings p 1) ∧
      (¬ OpensTo s p head → (handsOver p k head s).gov.records[p] = s.gov.records[p]) := by
  -- the state in which the new head's path is resumed
  obtain ⟨y, yield⟩ : ∃ y, yields p k head s = y := ⟨_, rfl⟩
  have kept : y.gov = s.gov ∧ y.ports = s.ports ∧ y.mode = s.mode ∧ AimedInto y p ∧
      y.paths.map Path.ident = s.paths.map Path.ident ∧
      ∀ o, headOwner s head = some o → ∀ q : Path, q.ident = talkPath o p → (q ∈ y.paths ↔ q ∈ s.paths) := by
    rw [← yield]
    rcases yields_cases s k p head with same | ⟨o', owner, other, eq⟩
    · rw [same]; exact ⟨rfl, rfl, rfl, aimed, rfl, fun _ _ _ _ => Iff.rfl⟩
    · rw [eq]
      refine ⟨touchPath_gov fun q found => ?_, by rw [State.suspendPath, State.touchPath_ports],
        by rw [State.suspendPath, State.touchPath_mode], aimed.touch _ _,
        touchPath_idents s _ fun q => (Path.suspend_fixed q).2, fun o next q ident => ?_⟩
      · obtain ⟨mem, ident⟩ := findPath_some found
        rw [aimed q mem (by rw [ident])]
        exact suspend_lowers s q
      · refine mem_touchPath_other (fun q => (Path.suspend_fixed q).2) fun same => other ?_
        rw [next]
        cases ident.symm.trans same
        rfl
  obtain ⟨gov, ports, mode, aimed', idents, paths⟩ := kept
  have loudest (q : Path) : y.loudest q.ident q.keys q.route = s.loudest q.ident q.keys q.route := by
    rw [State.loudest, State.loudest, ← yield, (yields_same).1, (yields_same).2.2.2.2]
  have counted : y.withOpenings p 1 = s.withOpenings p 1 := by rw [State.withOpenings, State.withOpenings, gov, ports]
  rw [handsOver]
  cases next : headOwner s head with
  | none =>
      rw [(promoteHead_of_none (by rw [headOwner_yields]; exact next)).2, yield, gov]
      exact ⟨fun ⟨o, owner, _⟩ => (by rw [next] at owner; cases owner), fun _ => rfl⟩
  | some o =>
      have distinct' : y.paths.Pairwise fun a b => a.ident ≠ b.ident := by
        rw [← List.pairwise_map (f := Path.ident) (R := (· ≠ ·))] at distinct ⊢
        rwa [idents]
      obtain ⟨yes, no⟩ := resumePath_record (o := o) (mode.trans run) aimed' distinct'
      have opens : OpensTo s p head ↔ ∃ q ∈ y.paths, q.ident = talkPath o p ∧ q.suspended = true ∧ q.closing = false ∧
          0 < y.loudest q.ident q.keys q.route := by
        refine ⟨fun ⟨o', owner, q, mem, ident, rest⟩ => ?_, fun ⟨q, mem, ident, rest⟩ => ⟨o, next, q, ?_, ident, ?_⟩⟩
        · obtain rfl := Option.some.inj (owner.symm.trans next)
          exact ⟨q, (paths o' next q ident).2 mem, ident, by rw [loudest]; exact rest⟩
        · exact (paths o next q ident).1 mem
        · rw [← loudest]; exact rest
      rw [(promoteHead_of_owner (by rw [headOwner_yields]; exact next)).2, yield, opens, ← counted, ← gov]
      exact ⟨yes, no⟩

end Sys2Proof.Proofs
end

section
/-! PROOFS. A withdrawn key leaves every interrupt list (4.5 step 1): at each port its first departure is the only one. -/

namespace Sys2Proof.Proofs

open Sys2Proof.Machine

/-! ## What stays until the withdrawal ends -/

/-- From `s` to `t`, a withdrawal of key `k` under way, all of this is the same. -/
structure Kept (k : KeyId) (s t : State) : Prop where
  ports : t.ports = s.ports
  mode : t.mode = s.mode
  routes : t.routes = s.routes
  govConfig : t.gov.config = s.gov.config
  windowDue : t.gov.windowDue = s.gov.windowDue
  groups : t.groups = s.groups
  other : ∀ j : KeyId, j ≠ k → t.keys[j] = { s.keys[j] with entries := t.keys[j].entries }
  owner : t.keys[k].owner = s.keys[k].owner
  target : t.keys[k].target = s.keys[k].target
  level : t.keys[k].level = s.keys[k].level
  priority : t.keys[k].priority = s.keys[k].priority
  keyMode : t.keys[k].mode = s.keys[k].mode
  deadline : t.keys[k].deadline = s.keys[k].deadline
  idents : t.paths.map Path.ident = s.paths.map Path.ident

theorem Kept.of_steady {k : KeyId} {s t : State} (run : s.sameRun t) (steady : Steady s t)
    (idents : t.paths.map Path.ident = s.paths.map Path.ident) : Kept k s t where
  ports := run.ports
  mode := run.mode
  routes := run.routes
  govConfig := run.govConfig
  windowDue := run.windowDue
  groups := steady.groups
  other j _ := steady.record j
  owner := by rw [steady.record]
  target := by rw [steady.record]
  level := by rw [steady.record]
  priority := by rw [steady.record]
  keyMode := by rw [steady.record]
  deadline := by rw [steady.record]
  idents := idents

theorem Kept.refl (k : KeyId) (s : State) : Kept k s s := .of_steady s.sameRun_refl (.refl s) rfl

theorem Kept.trans {k : KeyId} {s t u : State} (h : Kept k s t) (h' : Kept k t u) : Kept k s u where
  ports := h'.ports.trans h.ports
  mode := h'.mode.trans h.mode
  routes := h'.routes.trans h.routes
  govConfig := h'.govConfig.trans h.govConfig
  windowDue := h'.windowDue.trans h.windowDue
  groups := h'.groups.trans h.groups
  other j ne := by rw [h'.other j ne, h.other j ne]
  owner := h'.owner.trans h.owner
  target := h'.target.trans h.target
  level := h'.level.trans h.level
  priority := h'.priority.trans h.priority
  keyMode := h'.keyMode.trans h.keyMode
  deadline := h'.deadline.trans h.deadline
  idents := h'.idents.trans h.idents

section
variable {k : KeyId} {s t : State} (h : Kept k s t)
include h

theorem Kept.owners (j : KeyId) : t.keys[j].owner = s.keys[j].owner := by
  by_cases same : j = k
  · subst same; exact h.owner
  · rw [h.other j same]

theorem Kept.levels (j : KeyId) : t.keys[j].level = s.keys[j].level := by
  by_cases same : j = k
  · subst same; exact h.level
  · rw [h.other j same]

theorem Kept.targetOf (q : Path) : t.targetOf q = s.targetOf q := targetOf_of_same h.levels (by rw [h.routes]) q

theorem Kept.loudest (id : PathId) (keys : List KeyId) (route : Bool) : t.loudest id keys route = s.loudest id keys route := by
  rw [State.loudest, State.loudest, h.routes]
  simp only [h.levels]

theorem Kept.keyPath (j : KeyId) (d : Endpoint) : t.keyPath j d = s.keyPath j d := keyPath_of_owner (h.owners j) d

theorem Kept.headOwner (head : Option TalkEntry) : headOwner t head = headOwner s head := by
  rw [Proofs.headOwner, Proofs.headOwner]
  simp only [h.owners]

theorem Kept.distinct (distinct : s.paths.Pairwise fun a b => a.ident ≠ b.ident) :
    t.paths.Pairwise fun a b => a.ident ≠ b.ident := by
  rw [← List.pairwise_map (f := Path.ident) (R := (· ≠ ·))] at distinct ⊢
  rwa [h.idents]

end

/-! ## One entry of the delivery list -/

/-- R76: the entry's destination is an earpiece that the key has been delivered to. -/
def Acts (s : State) (e : DestEntry) (p : PortId) : Prop :=
  e.dest = some (.port p) ∧ e.status.holdsPath = true ∧ s.ports[p].kind = .earpiece

theorem acts_congr {s t : State} (ports : t.ports = s.ports) (e : DestEntry) (p : PortId) : Acts t e p ↔ Acts s e p := by
  rw [Acts, Acts, ports]

theorem holdsPath_iff (st : EntryStatus) : st.holdsPath = true ↔ st = .live ∨ st = .heldBack := by
  cases st <;> simp [EntryStatus.holdsPath, EntryStatus.isDenied]

theorem acts_iff_delivers (v : State) (k : KeyId) (p : PortId) :
    (∃ e ∈ v.keys[k].entries, Acts v e p) ↔ v.delivers k (.port p) ∧ v.ports[p].kind = .earpiece := by
  simp only [Acts, holdsPath_iff]
  exact ⟨fun ⟨e, mem, dest, heard, kind⟩ => ⟨⟨e, mem, dest, heard⟩, kind⟩,
    fun ⟨⟨e, mem, dest, heard⟩, kind⟩ => ⟨e, mem, dest, heard, kind⟩⟩

theorem leaveEarpiece_acts {k : KeyId} {e : DestEntry} {a : State × List PortId} {p : PortId} (acts : Acts a.1 e p) :
    State.leaveEarpiece k e a = ((a.1.depart p k).1, if (a.1.depart p k).2 then a.2 ++ [p] else a.2) := by
  obtain ⟨dest, heard, kind⟩ := acts
  rw [State.leaveEarpiece, dest]
  exact if_pos (by rw [heard, kind]; rfl)

theorem leaveEarpiece_idle {k : KeyId} {e : DestEntry} {a : State × List PortId} (idle : ∀ p, ¬ Acts a.1 e p) :
    State.leaveEarpiece k e a = a := by
  unfold State.leaveEarpiece
  split
  · rename_i p dest
    refine if_neg fun may => idle p ⟨dest, ?_⟩
    simpa using may
  · rfl

theorem leaveEarpiece_kept (k : KeyId) (e : DestEntry) (a : State × List PortId) : Kept k a.1 (State.leaveEarpiece k e a).1 := by
  by_cases acts : ∃ p, Acts a.1 e p
  · obtain ⟨p, acts⟩ := acts
    have within := depart_within p k a.1
    rw [leaveEarpiece_acts acts]
    exact .of_steady (State.depart_changes p k a.1).sameRun within.steady within.idents
  · rw [leaveEarpiece_idle fun p is => acts ⟨p, is⟩]
    exact .refl k a.1

/-- What an entry's destination does not touch. -/
theorem leaveEarpiece_spares {k : KeyId} {e : DestEntry} {a : State × List PortId} {y : Option Endpoint}
    (elsewhere : ∀ p, y = some (.port p) → ¬ Acts a.1 e p) : Spares y a.1 (State.leaveEarpiece k e a).1 ∧
      ∀ p, y = some (.port p) → (p ∈ (State.leaveEarpiece k e a).2 ↔ p ∈ a.2) := by
  by_cases acts : ∃ p, Acts a.1 e p
  · obtain ⟨p, acts⟩ := acts
    have ne : y ≠ some (.port p) := fun same => elsewhere p same acts
    rw [leaveEarpiece_acts acts]
    refine ⟨(depart_within p k a.1).spares y ne, fun q at' => ?_⟩
    have other : q ≠ p := fun same => ne (by rw [at', same])
    dsimp only
    split
    · simp [other]
    · exact Iff.rfl
  · rw [leaveEarpiece_idle fun p is => acts ⟨p, is⟩]
    exact ⟨.refl y a.1, fun _ _ => Iff.rfl⟩

/-! ## Every entry -/

/-- A fold whose steps keep `I` until one of them acts, and `J` from then on. -/
theorem foldl_once {σ α : Type} {f : σ → α → σ} {acts : α → Prop} {I J : σ → Prop} (keepI : ∀ a x, ¬ acts x → I a → I (f a x))
    (turn : ∀ a x, acts x → I a → J (f a x)) (keepJ : ∀ a x, J a → J (f a x)) (xs : List α) {a : σ} (start : I a) :
    ((∃ x ∈ xs, acts x) → J (xs.foldl f a)) ∧ ((∀ x ∈ xs, ¬ acts x) → I (xs.foldl f a)) := by
  have later (xs : List α) {a : σ} (h : J a) : J (xs.foldl f a) := by
    induction xs generalizing a with
    | nil => exact h
    | cons x xs ih => exact ih (keepJ a x h)
  induction xs generalizing a with
  | nil => exact ⟨fun ⟨x, mem, _⟩ => absurd mem List.not_mem_nil, fun _ => start⟩
  | cons x xs ih =>
      by_cases here : acts x
      · exact ⟨fun _ => later xs (turn a x here start), fun none => absurd here (none x List.mem_cons_self)⟩
      · obtain ⟨some, none⟩ := ih (keepI a x here start)
        refine ⟨fun ⟨y, mem, acts⟩ => some ?_, fun all => none fun y mem => all y (List.mem_cons_of_mem _ mem)⟩
        rcases List.mem_cons.1 mem with rfl | mem
        · exact absurd acts here
        · exact ⟨y, mem, acts⟩

/-- R76 step 1: the lists that the key leaves, and the ports where a place has become free in a full one. -/
def leftLists (k : KeyId) (es : List DestEntry) (s : State) : State × List PortId :=
  es.foldl (fun a e => State.leaveEarpiece k e a) (s, [])

theorem leftLists_kept (k : KeyId) (es : List DestEntry) (s : State) : Kept k s (leftLists k es s).1 := by
  have fold (es : List DestEntry) (a : State × List PortId) :
      Kept k a.1 (es.foldl (fun a e => State.leaveEarpiece k e a) a).1 := by
    induction es generalizing a with
    | nil => exact .refl k a.1
    | cons e es ih => exact (leaveEarpiece_kept k e a).trans (ih _)
  exact fold es (s, [])

/-- What is at `y` when a withdrawal begun in `v` comes to it. -/
structure Untouched (k : KeyId) (y : Option Endpoint) (v s : State) : Prop where
  kept : Kept k v s
  spares : Spares y v s

theorem Untouched.trans {k : KeyId} {y : Option Endpoint} {v s t : State} (h : Untouched k y v s) (h' : Untouched k y s t) :
    Untouched k y v t := ⟨h.kept.trans h'.kept, h.spares.trans h'.spares⟩

/-- What is at port `p` once the key has left the list there. -/
structure LeftAt (k : KeyId) (p : PortId) (v s : State) (freed : List PortId) : Prop where
  kept : Kept k v s
  once : ∃ s0, Untouched k (some (.port p)) v s0 ∧ Spares (some (.port p)) (s0.depart p k).1 s ∧
    (p ∈ freed ↔ (s0.depart p k).2 = true)

theorem depart_ears {s : State} {p : PortId} {k : KeyId} {e : Ear} (ear : s.ears[p] = some e) (listed : Listed k e) :
    (s.depart p k).1.ears = tableSet s.ears p (some (listWithout e k)) := by
  rw [depart_of_listed ear listed]
  dsimp only
  split
  · rw [handsOver_ears]; rfl
  · rfl

/-- R105: a key that has departed has no entry left. -/
theorem depart_unlisted (s : State) (p : PortId) (k : KeyId) : ∀ e, (s.depart p k).1.ears[p] = some e → ¬ Listed k e := by
  intro e' there
  by_cases listed : ∃ e, s.ears[p] = some e ∧ Listed k e
  · obtain ⟨e, ear, listed⟩ := listed
    have left : (s.depart p k).1.ears[p] = some (listWithout e k) := by rw [depart_ears ear listed]; exact tableSet_self _ _ _
    rw [← Option.some.inj (left.symm.trans there)]
    exact not_listed_listWithout e k
  · rw [depart_of_unlisted fun e ear is => listed ⟨e, ear, is⟩] at there
    exact fun is => listed ⟨e', there, is⟩

/-- At each port the key departs at most once. -/
theorem leftLists_at (k : KeyId) (p : PortId) (es : List DestEntry) {v s : State} (start : Untouched k (some (.port p)) v s) :
    ((∃ e ∈ es, Acts v e p) → LeftAt k p v (leftLists k es s).1 (leftLists k es s).2) ∧
      ((∀ e ∈ es, ¬ Acts v e p) → Untouched k (some (.port p)) v (leftLists k es s).1 ∧ p ∉ (leftLists k es s).2) := by
  refine foldl_once (f := fun a e => State.leaveEarpiece k e a) (acts := fun e => Acts v e p)
    (I := fun a => Untouched k (some (.port p)) v a.1 ∧ p ∉ a.2) (J := fun a => LeftAt k p v a.1 a.2)
    (fun a e idle h => ?_) (fun a e acts h => ?_) (fun a e h => ?_) es ⟨start, List.not_mem_nil⟩
  · obtain ⟨untouched, notFreed⟩ := h
    obtain ⟨spares, freed⟩ := leaveEarpiece_spares (k := k) (e := e) (a := a) (y := some (.port p)) fun q at' acts => by
      cases at'; exact idle ((acts_congr untouched.kept.ports e p).1 acts)
    exact ⟨untouched.trans ⟨leaveEarpiece_kept k e a, spares⟩, fun mem => notFreed ((freed p rfl).1 mem)⟩
  · obtain ⟨untouched, notFreed⟩ := h
    refine ⟨untouched.kept.trans (leaveEarpiece_kept k e a), a.1, untouched, ?_⟩
    rw [leaveEarpiece_acts ((acts_congr untouched.kept.ports e p).2 acts)]
    refine ⟨.refl _ _, ?_⟩
    dsimp only
    split
    · rename_i freed; simp [freed]
    · rename_i full; simp [full, notFreed]
  · obtain ⟨kept, s0, untouched, spares, freed⟩ := h
    refine ⟨kept.trans (leaveEarpiece_kept k e a), s0, untouched, ?_⟩
    by_cases acts : Acts a.1 e p
    · have gone : a.1.depart p k = (a.1, false) := depart_of_unlisted fun e ear => depart_unlisted s0 p k e (by
        rw [← spares.ear p rfl]; exact ear)
      rw [leaveEarpiece_acts acts, gone]
      exact ⟨spares, freed⟩
    · obtain ⟨spares', freed'⟩ := leaveEarpiece_spares (k := k) (e := e) (a := a) (y := some (.port p)) fun q at' acts' => by
        cases at'; exact acts acts'
      exact ⟨spares.trans spares', (freed' p rfl).trans freed⟩

/-- Nothing happens where the key does not depart. -/
theorem leftLists_elsewhere (k : KeyId) (y : Option Endpoint) (es : List DestEntry) {v s : State} (start : Untouched k y v s)
    (idle : ∀ e ∈ es, ∀ p, y = some (.port p) → ¬ Acts v e p) : Untouched k y v (leftLists k es s).1 := by
  by_cases port : ∃ p, y = some (.port p)
  · obtain ⟨p, rfl⟩ := port
    exact ((leftLists_at k p es start).2 fun e mem => idle e mem p rfl).1
  · have fold (es : List DestEntry) (a : State × List PortId) :
        Spares y a.1 (es.foldl (fun a e => State.leaveEarpiece k e a) a).1 := by
      induction es generalizing a with
      | nil => exact .refl y a.1
      | cons e es ih => exact (leaveEarpiece_spares fun p at' => absurd ⟨p, at'⟩ port).1.trans (ih _)
    exact start.trans ⟨leftLists_kept k es s, fold es (s, [])⟩

end Sys2Proof.Proofs
end

section
/-! PROOFS. What the departures of a withdrawal leave at each port (4.5 step 1, 6.3), said of the state that it began in. -/

namespace Sys2Proof.Proofs

open Sys2Proof.Machine

/-! ## The three courses of a departure -/

/-- R105: the key has been delivered to an earpiece at port `p`. -/
abbrev HeardAt (v : State) (k : KeyId) (p : PortId) : Prop := v.delivers k (.port p) ∧ v.ports[p].kind = .earpiece

theorem leads_iff (v : State) (k : KeyId) (p : PortId) : v.leads k p ↔ HeardAt v k p ∧ ∃ e, v.ears[p] = some e ∧ Heads k e := by
  rw [State.leads, ← and_assoc]
  refine and_congr_right fun _ => ?_
  cases v.ears[p] <;> simp [Heads]

theorem heads_listed {k : KeyId} {e : Ear} (heads : Heads k e) : Listed k e := by
  obtain ⟨x, head, key⟩ := Option.map_eq_some_iff.1 heads
  exact ⟨x, List.mem_of_mem_head? head, key⟩

theorem nextHead_of_heads {v : State} {k : KeyId} {p : PortId} {e : Ear} (heard : HeardAt v k p) (ear : v.ears[p] = some e)
    (heads : Heads k e) : v.nextHead k p = (e.without k).head? := by
  rw [State.nextHead, if_pos ((leads_iff v k p).2 ⟨heard, e, ear, heads⟩), ear]
  rfl

theorem nextHead_of_not_leads {v : State} {k : KeyId} {p : PortId} (not : ¬ v.leads k p) : v.nextHead k p = none := if_neg not

/-- What a withdrawal of key `k` begun in `v` has made of port `p`, with the ports where a list has dropped to 3: the key had no entry
there, or it had one behind the head, or it was the head and has handed over. -/
inductive AtPort (k : KeyId) (p : PortId) (v w : State) (freed : List PortId) : Prop
  | stays (notListed : HeardAt v k p → ∀ e, v.ears[p] = some e → ¬ Listed k e) (untouched : Untouched k (some (.port p)) v w)
      (notFreed : p ∉ freed)
  | leaves (e : Ear) (s : State) (heard : HeardAt v k p) (ear : v.ears[p] = some e) (listed : Listed k e) (notHead : ¬ Heads k e)
      (untouched : Untouched k (some (.port p)) v s) (spares : Spares (some (.port p)) (unlisted p k e s) w)
      (frees : p ∈ freed ↔ e.entries.length = 4 ∧ (e.without k).length = 3)
  | hands (e : Ear) (s : State) (heard : HeardAt v k p) (ear : v.ears[p] = some e) (heads : Heads k e)
      (untouched : Untouched k (some (.port p)) v s)
      (spares : Spares (some (.port p)) (handsOver p k (v.nextHead k p) (unlisted p k e s)) w)
      (frees : p ∈ freed ↔ e.entries.length = 4 ∧ (e.without k).length = 3)

theorem leftLists_atPort {k : KeyId} {v s : State} (p : PortId) (begun : Untouched k (some (.port p)) v s) :
    AtPort k p v (leftLists k v.keys[k].entries s).1 (leftLists k v.keys[k].entries s).2 := by
  obtain ⟨once, never⟩ := leftLists_at k p v.keys[k].entries begun
  by_cases acts : ∃ e ∈ v.keys[k].entries, Acts v e p
  · have heard := (acts_iff_delivers v k p).1 acts
    obtain ⟨kept, s0, untouched, spares, frees⟩ := once acts
    have ears : s0.ears[p] = v.ears[p] := untouched.spares.ear p rfl
    by_cases listed : ∃ e, v.ears[p] = some e ∧ Listed k e
    · obtain ⟨e, ear, listed⟩ := listed
      rw [depart_of_listed (ears.trans ear) listed] at spares frees
      simp only [Bool.and_eq_true, decide_eq_true_eq] at frees
      by_cases heads : Heads k e
      · rw [if_pos heads, ← nextHead_of_heads heard ear heads] at spares
        exact .hands e s0 heard ear heads untouched spares frees
      · rw [if_neg heads] at spares
        exact .leaves e s0 heard ear listed heads untouched spares frees
    · have none : s0.depart p k = (s0, false) := depart_of_unlisted fun e ear is => listed ⟨e, ears.symm.trans ear, is⟩
      rw [none] at spares frees
      exact .stays (fun _ e ear is => listed ⟨e, ear, is⟩) ⟨kept, untouched.spares.trans spares⟩ fun mem =>
        absurd (frees.1 mem) Bool.false_ne_true
  · obtain ⟨untouched, notFreed⟩ := never fun e mem is => acts ⟨e, mem, is⟩
    exact .stays (fun heard => absurd ((acts_iff_delivers v k p).2 heard) acts) untouched notFreed

/-! ## What each course leaves -/

section
variable {k : KeyId} {p : PortId} {v w : State} {freed : List PortId}

theorem not_leads_of_notListed (h : HeardAt v k p → ∀ e, v.ears[p] = some e → ¬ Listed k e) : ¬ v.leads k p := fun leads => by
  obtain ⟨heard, e, ear, heads⟩ := (leads_iff v k p).1 leads
  exact h heard e ear (heads_listed heads)

theorem not_leads_of_notHead {e : Ear} (ear : v.ears[p] = some e) (notHead : ¬ Heads k e) : ¬ v.leads k p := fun leads => by
  obtain ⟨-, e', ear', heads⟩ := (leads_iff v k p).1 leads
  exact notHead (Option.some.inj (ear'.symm.trans ear) ▸ heads)

theorem unlisted_kept (k : KeyId) (p : PortId) (e : Ear) (s : State) : Kept k s (unlisted p k e s) := { Kept.refl k s with }

/-- R89: the ports where a full list has a place again. -/
theorem AtPort.mem_freed (h : AtPort k p v w freed) : p ∈ freed ↔
    HeardAt v k p ∧ ∃ e, v.ears[p] = some e ∧ e.entries.length = 4 ∧ (e.without k).length = 3 := by
  have only {e : Ear} (heard : HeardAt v k p) (ear : v.ears[p] = some e) : (e.entries.length = 4 ∧ (e.without k).length = 3) ↔
      HeardAt v k p ∧ ∃ e, v.ears[p] = some e ∧ e.entries.length = 4 ∧ (e.without k).length = 3 := by
    rw [ear]
    exact ⟨fun full => ⟨heard, e, rfl, full⟩, fun ⟨_, e', eq, full⟩ => Option.some.inj eq ▸ full⟩
  cases h with
  | stays notListed untouched notFreed =>
      refine ⟨fun mem => absurd mem notFreed, fun ⟨heard, e, ear, four, three⟩ => ?_⟩
      have same : e.without k = e.entries := List.filter_eq_self.2 fun x mem =>
        decide_eq_true fun key => notListed heard e ear ⟨x, mem, key⟩
      rw [same, four] at three
      omega
  | leaves e s heard ear listed notHead untouched spares frees => exact frees.trans (only heard ear)
  | hands e s heard ear heads untouched spares frees => exact frees.trans (only heard ear)

/-- R105: the list at the port. -/
theorem AtPort.ear (h : AtPort k p v w freed) : (¬ HeardAt v k p → w.ears[p] = v.ears[p]) ∧
    ∀ e, HeardAt v k p → v.ears[p] = some e → (¬ Listed k e → w.ears[p] = some e) ∧
      (Listed k e → w.ears[p] = some (listWithout e k)) := by
  have one {e : Ear} (heard : HeardAt v k p) (ear : v.ears[p] = some e) (listed : Listed k e)
      (left : w.ears[p] = some (listWithout e k)) : (¬ HeardAt v k p → w.ears[p] = v.ears[p]) ∧
      ∀ e, HeardAt v k p → v.ears[p] = some e → (¬ Listed k e → w.ears[p] = some e) ∧
        (Listed k e → w.ears[p] = some (listWithout e k)) := by
    refine ⟨fun not => absurd heard not, fun e' _ ear' => ?_⟩
    obtain rfl := Option.some.inj (ear.symm.trans ear')
    exact ⟨fun not => absurd listed not, fun _ => left⟩
  cases h with
  | stays notListed untouched notFreed =>
      have same : w.ears[p] = v.ears[p] := untouched.spares.ear p rfl
      exact ⟨fun _ => same, fun e heard ear => ⟨fun _ => same.trans ear, fun listed => absurd listed (notListed heard e ear)⟩⟩
  | leaves e s heard ear listed notHead untouched spares frees =>
      exact one heard ear listed ((spares.ear p rfl).trans (tableSet_self _ _ _))
  | hands e s heard ear heads untouched spares frees =>
      refine one heard ear (heads_listed heads) ((spares.ear p rfl).trans ?_)
      rw [handsOver_ears]
      exact tableSet_self _ _ _

theorem toldLive_none (p : PortId) (j : KeyId) (x : DestEntry) : toldLive p none j x = x := by simp [toldLive]

theorem toldLive_dest (p : PortId) (head : Option TalkEntry) (j : KeyId) (x : DestEntry) : (toldLive p head j x).dest = x.dest := by
  unfold toldLive; split <;> rfl

/-- R74: the entries for the port in the delivery lists. -/
theorem AtPort.entries (h : AtPort k p v w freed) (j : KeyId) (n : Nat) {x : DestEntry} (at' : x.dest = some (.port p)) :
    w.keys[j].entries[n]? = some x ↔ ∃ z, v.keys[j].entries[n]? = some z ∧ toldLive p (v.nextHead k p) j z = x := by
  cases h with
  | stays notListed untouched notFreed =>
      rw [untouched.spares.entries j n x at', nextHead_of_not_leads (not_leads_of_notListed notListed)]
      simp only [toldLive_none, exists_eq_right]
  | leaves e s heard ear listed notHead untouched spares frees =>
      rw [spares.entries j n x at', nextHead_of_not_leads (not_leads_of_notHead ear notHead)]
      simp only [toldLive_none, exists_eq_right]
      exact untouched.spares.entries j n x at'
  | hands e s heard ear heads untouched spares frees =>
      rw [spares.entries j n x at', handsOver_entries, List.getElem?_map, Option.map_eq_some_iff]
      refine exists_congr fun z => and_congr_left fun told => untouched.spares.entries j n z ?_
      rw [← toldLive_dest p (v.nextHead k p) j z, told, at']

/-- A path into the port that is neither the key's own nor the new head's. -/
theorem AtPort.otherPath (h : AtPort k p v w freed) {x : Path} (mem : x ∈ v.paths) (into : x.ident.dst = .port p)
    (notOwn : HeardAt v k p → ∀ o, v.keys[k].owner = some o → x.ident ≠ talkPath o p)
    (notHeads : ∀ o, headOwner v (v.nextHead k p) = some o → x.ident ≠ talkPath o p) : x ∈ w.paths := by
  cases h with
  | stays notListed untouched notFreed => exact (untouched.spares.paths x (by rw [into])).2 mem
  | leaves e s heard ear listed notHead untouched spares frees =>
      exact (spares.paths x (by rw [into])).2 ((untouched.spares.paths x (by rw [into])).2 mem)
  | hands e s heard ear heads untouched spares frees =>
      have kept := untouched.kept.trans (unlisted_kept k p e s)
      refine (spares.paths x (by rw [into])).2 (handsOver_otherPath ((untouched.spares.paths x (by rw [into])).2 mem)
        (fun o owner => notOwn heard o ?_) fun o owner => notHeads o ?_)
      · rw [← kept.owners]; exact owner
      · rw [← kept.headOwner]; exact owner

/-- R105: the key's own path into the port. -/
theorem AtPort.ownPath (h : AtPort k p v w freed) {q : Path} {o : PortId} (owner : v.keys[k].owner = some o)
    (ident : q.ident = talkPath o p) (record : IsRecord v q) (holds : k ∈ q.keys) : IsRecord w (v.afterDeparture k o q) := by
  have dst : q.ident.dst = .port p := by rw [ident]
  have into : some q.ident.dst = some (.port p) := congrArg some dst
  have same (not : ¬ v.leads k p) : v.afterDeparture k o q = q := by
    rw [State.afterDeparture, dst]
    exact if_neg not
  cases h with
  | stays notListed untouched notFreed =>
      rw [same (not_leads_of_notListed notListed)]
      exact record.spared (into ▸ untouched.spares)
  | leaves e s heard ear listed notHead untouched spares frees =>
      rw [same (not_leads_of_notHead ear notHead)]
      have first : IsRecord (unlisted p k e s) q := (record.spared (t := s) (into ▸ untouched.spares)).of_paths rfl
      exact first.spared (into ▸ spares)
  | hands e s heard ear heads untouched spares frees =>
      have kept := untouched.kept.trans (unlisted_kept k p e s)
      have first : IsRecord (unlisted p k e s) q := (record.spared (t := s) (into ▸ untouched.spares)).of_paths rfl
      have step := handsOver_ownPath (head := v.nextHead k p) ((kept.owners k).trans owner) ident first holds
      have eq : handedOver (unlisted p k e s) (headOwner (unlisted p k e s) (v.nextHead k p) = some o) q =
          v.afterDeparture k o q := by
        rw [State.afterDeparture, dst]
        dsimp only
        rw [if_pos ((leads_iff v k p).2 ⟨heard, e, ear, heads⟩), handedOver]
        simp only [kept.targetOf, kept.headOwner]
      rw [eq] at step
      have ident' : (v.afterDeparture k o q).ident = q.ident := by
        rw [← eq, handedOver]
        exact (retargeted_keeps _ _).2.1
      exact step.spared (by rw [ident', ident]; exact spares)

/-- R105, R32: the new head's path, where it is not the departing key's too. -/
theorem AtPort.headPath (h : AtPort k p v w freed) {q : Path} {o : PortId} (next : headOwner v (v.nextHead k p) = some o)
    (notShared : v.keys[k].owner ≠ some o) (ident : q.ident = talkPath o p) (record : IsRecord v q) : IsRecord w (resumed v q) := by
  have into : some q.ident.dst = some (.port p) := by rw [ident]
  have leads (not : ¬ v.leads k p) : False := by rw [nextHead_of_not_leads not] at next; cases next
  cases h with
  | stays notListed untouched notFreed => exact (leads (not_leads_of_notListed notListed)).elim
  | leaves e s heard ear listed notHead untouched spares frees => exact (leads (not_leads_of_notHead ear notHead)).elim
  | hands e s heard ear heads untouched spares frees =>
      have kept := untouched.kept.trans (unlisted_kept k p e s)
      have first : IsRecord (unlisted p k e s) q := (record.spared (t := s) (into ▸ untouched.spares)).of_paths rfl
      have step := handsOver_headPath (by rw [kept.headOwner]; exact next) (by rw [kept.owners]; exact notShared) ident first
      have eq : resumed (unlisted p k e s) q = resumed v q := by rw [resumed, resumed, kept.targetOf]
      rw [eq] at step
      have ident' : (resumed v q).ident = q.ident := (retargeted_keeps _ _).2.1
      exact step.spared (by rw [ident', ident]; exact spares)

/-- R105: the new head is heard. -/
theorem AtPort.heard (h : AtPort k p v w freed) {q : Path} {o : PortId} (next : headOwner v (v.nextHead k p) = some o)
    (mem : q ∈ w.paths) (ident : q.ident = talkPath o p) : q.suspended = false := by
  have leads (not : ¬ v.leads k p) : False := by rw [nextHead_of_not_leads not] at next; cases next
  cases h with
  | stays notListed untouched notFreed => exact (leads (not_leads_of_notListed notListed)).elim
  | leaves e s heard ear listed notHead untouched spares frees => exact (leads (not_leads_of_notHead ear notHead)).elim
  | hands e s heard ear heads untouched spares frees =>
      have kept := untouched.kept.trans (unlisted_kept k p e s)
      exact handsOver_heard (by rw [kept.headOwner]; exact next) ((spares.paths q (by rw [ident])).1 mem) ident

/-- R35, R105, R158: the openings counted at the port. -/
theorem AtPort.record (h : AtPort k p v w freed) (run : v.mode = .run) (aimed : v.aimed)
    (distinct : v.paths.Pairwise fun a b => a.ident ≠ b.ident) :
    (OpensTo v p (v.nextHead k p) → w.gov.records[p] = v.withOpenings p 1) ∧
      (¬ OpensTo v p (v.nextHead k p) → w.gov.records[p] = v.gov.records[p]) := by
  have leads (not : ¬ v.leads k p) : ¬ OpensTo v p (v.nextHead k p) := by
    rintro ⟨o, next, -⟩
    rw [nextHead_of_not_leads not] at next
    cases next
  cases h with
  | stays notListed untouched notFreed =>
      exact ⟨fun opens => absurd opens (leads (not_leads_of_notListed notListed)), fun _ => untouched.spares.record p rfl⟩
  | leaves e s heard ear listed notHead untouched spares frees =>
      exact ⟨fun opens => absurd opens (leads (not_leads_of_notHead ear notHead)), fun _ =>
        (spares.record p rfl).trans (untouched.spares.record p rfl)⟩
  | hands e s heard ear heads untouched spares frees =>
      have kept := untouched.kept.trans (unlisted_kept k p e s)
      have same (q : Path) (into : q.ident.dst = .port p) : q ∈ (unlisted p k e s).paths ↔ q ∈ v.paths :=
        untouched.spares.paths q (by rw [into])
      have aimed' : AimedInto (unlisted p k e s) p := fun q mem into => by
        rw [kept.targetOf]
        exact aimed q ((same q into).1 mem)
      have record : (unlisted p k e s).gov.records[p] = v.gov.records[p] := untouched.spares.record p rfl
      have opens : OpensTo (unlisted p k e s) p (v.nextHead k p) ↔ OpensTo v p (v.nextHead k p) := by
        rw [OpensTo, OpensTo, kept.headOwner]
        refine exists_congr fun o => and_congr_right fun _ => exists_congr fun q => ?_
        rw [kept.loudest]
        exact ⟨fun ⟨mem, ident, rest⟩ => ⟨(same q (by rw [ident])).1 mem, ident, rest⟩,
          fun ⟨mem, ident, rest⟩ => ⟨(same q (by rw [ident])).2 mem, ident, rest⟩⟩
      have counted : (unlisted p k e s).withOpenings p 1 = v.withOpenings p 1 := by
        rw [State.withOpenings, State.withOpenings, kept.ports, kept.govConfig, record]
      have step := handsOver_record (k := k) (head := v.nextHead k p) (kept.mode.trans run) aimed' (kept.distinct distinct)
      rw [opens, counted, record] at step
      rw [spares.record p rfl]
      exact step

end

/-! ## Every delivery list -/

/-- R74, R105: an entry once every new head has been told. -/
def toldHeads (v : State) (k j : KeyId) (x : DestEntry) : DestEntry :=
  match x.dest with
  | some (.port p) => if (v.nextHead k p).map TalkEntry.key = some j then { x with status := .live } else x
  | _ => x

theorem toldHeads_dest (v : State) (k j : KeyId) (x : DestEntry) : (toldHeads v k j x).dest = x.dest := by
  unfold toldHeads
  split
  · split <;> rfl
  · rfl

theorem toldHeads_port {v : State} {k j : KeyId} {x : DestEntry} {p : PortId} (at' : x.dest = some (.port p)) :
    toldHeads v k j x = toldLive p (v.nextHead k p) j x := by
  rw [toldHeads, toldLive, at']
  simp

theorem leftLists_entries {k : KeyId} {v s : State} (begun : ∀ y, Untouched k y v s) (j : KeyId) :
    (leftLists k v.keys[k].entries s).1.keys[j].entries = v.keys[j].entries.map (toldHeads v k j) := by
  refine List.ext_getElem? fun n => Option.ext fun x => ?_
  rw [List.getElem?_map, Option.map_eq_some_iff]
  by_cases port : ∃ p, x.dest = some (.port p)
  · obtain ⟨p, at'⟩ := port
    rw [(leftLists_atPort p (begun _)).entries j n at']
    refine exists_congr fun z => and_congr_right fun _ => ?_
    by_cases there : z.dest = some (.port p)
    · rw [toldHeads_port there]
    · refine ⟨fun told => absurd ?_ there, fun told => absurd ?_ there⟩
      · rw [← at', ← told, toldLive_dest]
      · rw [← at', ← told, toldHeads_dest]
  · have untouched := leftLists_elsewhere k x.dest v.keys[k].entries (begun x.dest) fun e _ p at' => absurd ⟨p, at'⟩ port
    rw [untouched.spares.entries j n x rfl]
    have id (z : DestEntry) : toldHeads v k j z = x ↔ z = x := by
      unfold toldHeads
      split
      · rename_i p at'
        have there (z' : DestEntry) (dest : z'.dest = z.dest) : z' ≠ x := fun same => port ⟨p, by rw [← same, dest, at']⟩
        exact ⟨fun told => absurd told (there _ (by split <;> rfl)), fun same => absurd same (there z rfl)⟩
      · exact Iff.rfl
    simp only [id, exists_eq_right]

/-! ## The notices -/

theorem depart_link_of_listed {s : State} {k : KeyId} {p : PortId} {e : Ear} (ear : s.ears[p] = some e) (listed : Listed k e) :
    (s.depart p k).1.link = reported
      (.earpiece p :: if Heads k e then (e.without k).head?.toList.map fun h : TalkEntry => .key h.key else []) s.link := by
  rw [depart_of_listed ear listed]
  dsimp only
  split
  · rw [handsOver_link]; rfl
  · rfl

/-- R105, R113: the notices that one entry of the delivery list brings about. -/
theorem leaveEarpiece_link {k : KeyId} {v : State} {x : DestEntry} {a : State × List PortId} (ports : a.1.ports = v.ports)
    (ears : ∀ p : PortId, x.dest = some (.port p) → a.1.ears[p] = v.ears[p])
    (heard : ∀ d, x.dest = some d → (x.status.holdsPath = true ↔ v.delivers k d)) :
    (State.leaveEarpiece k x a).1.link = reported (v.departureNotices k x) a.1.link := by
  by_cases acts : ∃ p, Acts v x p
  · obtain ⟨p, acts⟩ := acts
    have at' : HeardAt v k p := ⟨(heard _ acts.1).1 acts.2.1, acts.2.2⟩
    rw [leaveEarpiece_acts ((acts_congr ports x p).2 acts)]
    by_cases listed : ∃ e, v.ears[p] = some e ∧ Listed k e
    · obtain ⟨e, ear, listed⟩ := listed
      have notices : v.departureNotices k x =
          .earpiece p :: (v.nextHead k p).toList.map fun h : TalkEntry => .key h.key := by
        rw [State.departureNotices, acts.1]
        exact if_pos ⟨at'.1, at'.2, e, ear, listed⟩
      rw [depart_link_of_listed ((ears p acts.1).trans ear) listed, notices]
      by_cases heads : Heads k e
      · rw [if_pos heads, nextHead_of_heads at' ear heads]
      · rw [if_neg heads, nextHead_of_not_leads (not_leads_of_notHead ear heads)]
        rfl
    · have quiet : v.departureNotices k x = [] := by
        rw [State.departureNotices, acts.1]
        exact if_neg fun all => listed (by obtain ⟨-, -, e, ear, is⟩ := all; exact ⟨e, ear, is⟩)
      rw [quiet, depart_of_unlisted fun e ear is => listed ⟨e, (ears p acts.1).symm.trans ear, is⟩]
      rfl
  · have quiet : v.departureNotices k x = [] := by
      rw [State.departureNotices]
      split
      · rename_i p dest
        exact if_neg fun all => acts ⟨p, dest, (heard _ dest).2 all.1, all.2.1⟩
      · rfl
    rw [leaveEarpiece_idle fun p is => acts ⟨p, (acts_congr ports x p).1 is⟩, quiet]
    rfl

/-- R105, R113: the notices of every departure, in the order of the delivery list. -/
theorem leftLists_link {k : KeyId} {v s : State} (kept : Kept k v s) (ears : s.ears = v.ears)
    (distinct : (v.keys[k].entries.map DestEntry.dest).Nodup) :
    (leftLists k v.keys[k].entries s).1.link = reported (v.keys[k].entries.flatMap (v.departureNotices k)) s.link := by
  have heard (x : DestEntry) (mem : x ∈ v.keys[k].entries) (d : Endpoint) (dest : x.dest = some d) :
      x.status.holdsPath = true ↔ v.delivers k d := by
    rw [holdsPath_iff]
    refine ⟨fun yes => ⟨x, mem, dest, yes⟩, fun ⟨y, mem', dest', yes⟩ => ?_⟩
    rwa [List.inj_on_of_nodup_map distinct mem mem' (dest.trans dest'.symm)]
  have fold (es : List DestEntry) (sub : ∀ x ∈ es, x ∈ v.keys[k].entries) (distinct : (es.map DestEntry.dest).Nodup)
      (a : State × List PortId) (kept : Kept k v a.1) (ears : ∀ p : PortId, some (.port p) ∈ es.map DestEntry.dest →
        a.1.ears[p] = v.ears[p]) :
      (es.foldl (fun a e => State.leaveEarpiece k e a) a).1.link = reported (es.flatMap (v.departureNotices k)) a.1.link := by
    induction es generalizing a with
    | nil => rfl
    | cons x es ih =>
        obtain ⟨first, rest⟩ := List.nodup_cons.1 distinct
        rw [List.foldl_cons, List.flatMap_cons, reported_append, ← leaveEarpiece_link kept.ports
          (fun p dest => ears p (by rw [List.map_cons, dest]; exact List.mem_cons_self)) (heard x (sub x List.mem_cons_self))]
        refine ih (fun y mem => sub y (List.mem_cons_of_mem _ mem)) rest _ (kept.trans (leaveEarpiece_kept k x a)) fun p mem => ?_
        refine Eq.trans ?_ (ears p (List.mem_cons_of_mem _ mem))
        refine (leaveEarpiece_spares (y := some (.port p)) fun q same acts => first ?_).1.ear p rfl
        rw [acts.1, ← same]
        exact mem
  exact fold _ (fun _ mem => mem) distinct (s, []) kept fun p _ => by rw [ears]

end Sys2Proof.Proofs
end

section
/-! PROOFS. A withdrawn key leaves its paths and its group (4.5 steps 2 and 3, 5.5.2). -/

namespace Sys2Proof.Proofs

open Sys2Proof.Machine

/-! ## A key leaves a record (R27, R28) -/

theorem leave_of_notHeld {k : KeyId} {q : Path} (free : k ∉ q.keys) : q.leave (.key k) = q := by
  rw [Path.leave]
  exact if_neg (by simpa [Path.heldBy] using free)

theorem leave_of_held {k : KeyId} {q : Path} (holds : k ∈ q.keys) : q.leave (.key k) =
    let others := q.keys.filter fun j : KeyId => decide (j ≠ k)
    if others = [] ∧ q.route = false then { q with keys := [], closing := true, suspended := false } else { q with keys := others } := by
  have test : (q.keys.filter (· != k)) = q.keys.filter fun j : KeyId => decide (j ≠ k) :=
    List.filter_congr fun j _ => by rw [bne, beq_eq_decide, decide_not]
  rw [Path.leave, if_pos (by simpa [Path.heldBy] using holds)]
  dsimp only
  rw [test]
  by_cases none : (q.keys.filter fun j : KeyId => decide (j ≠ k)) = [] ∧ q.route = false
  · rw [if_pos (by simp only [Path.unheld, none.1, none.2]; rfl), if_pos none, none.1]
  · rw [if_neg (by simpa [Path.unheld, and_comm] using none), if_neg none]

theorem foldl_max_sublist {ms ns : List Nat} (sub : ms.Sublist ns) : ms.foldl max 0 ≤ ns.foldl max 0 := by
  induction sub with
  | slnil => exact Nat.le_refl _
  | cons n _ ih => rw [List.foldl_cons, foldl_max (max 0 n)]; omega
  | cons_cons n _ ih => rw [List.foldl_cons, List.foldl_cons, foldl_max (max 0 n), foldl_max (max 0 n)]; omega

/-- R27, R28: a holder that leaves raises no target. -/
theorem leave_lowers (s : State) (j : Holder) (q : Path) : s.targetOf (q.leave j) ≤ s.targetOf q := by
  rcases leave_cases j q with same | ⟨ks, r, eq, sub, route, -⟩
  · rw [same]
  · rw [eq]
    split
    · rw [State.targetOf, if_pos (.inr rfl)]; exact Nat.zero_le _
    · rw [State.targetOf, State.targetOf]
      dsimp only
      split
      · exact Nat.zero_le _
      · have keys := foldl_max_sublist (sub.map fun j : KeyId => s.keys[j].level)
        rw [State.loudest, State.loudest]
        cases r with
        | false => simp only [Bool.false_eq_true, if_false]; omega
        | true => rw [route rfl]; omega

/-- A key's paths once it has left them. -/
def withoutKey (s : State) (k : KeyId) (q : Path) : Path := aimedAfter s (Path.leave (.key k)) q

theorem withoutKey_ident (s : State) (k : KeyId) (q : Path) : (withoutKey s k q).ident = q.ident := by
  rw [withoutKey, aimedAfter_ident, (Path.leave_fixed _ q).2]

/-- R27: a key leaves a path once. -/
theorem withoutKey_again (s : State) (k : KeyId) (q : Path) : withoutKey s k (withoutKey s k q) = withoutKey s k q := by
  have free : k ∉ (withoutKey s k q).keys := by rw [withoutKey, aimedAfter_keys]; exact notMem_leave_key k q
  have aimed : AimedAt s (withoutKey s k q) := aimedAfter_aimed s _ q
  rw [withoutKey, aimedAfter, leave_of_notHeld free]
  exact if_pos aimed.symm

/-! ## Every path of the key (R76 step 2) -/

/-- R76: the entry holds a path into `d`. -/
def HoldsInto (e : DestEntry) (d : Endpoint) : Prop := e.dest = some d ∧ e.status.holdsPath = true

theorem leavePath_of_holds {s : State} {k : KeyId} {e : DestEntry} {o : PortId} {d : Endpoint} (owner : s.keys[k].owner = some o)
    (holds : HoldsInto e d) : s.leavePath k e = s.removeHolder ⟨.port o, d, .talk⟩ (.key k) := by
  have path : s.keyPath k d = some ⟨.port o, d, .talk⟩ := by rw [State.keyPath, owner]; rfl
  rw [State.leavePath, holds.1]
  dsimp only
  rw [if_pos holds.2, path]

theorem leavePath_cases (s : State) (k : KeyId) (e : DestEntry) : s.leavePath k e = s ∨
    ∃ o d, s.keys[k].owner = some o ∧ HoldsInto e d ∧ s.leavePath k e = s.removeHolder ⟨.port o, d, .talk⟩ (.key k) := by
  by_cases owned : ∃ o, s.keys[k].owner = some o
  · obtain ⟨o, owner⟩ := owned
    by_cases holds : ∃ d, HoldsInto e d
    · obtain ⟨d, holds⟩ := holds
      exact .inr ⟨o, d, owner, holds, leavePath_of_holds owner holds⟩
    · refine .inl ?_
      rw [State.leavePath]
      split
      · rename_i d dest
        exact if_neg fun heard => holds ⟨d, dest, heard⟩
      · rfl
  · refine .inl ?_
    rw [State.leavePath]
    split
    · split
      · split
        · rename_i id path
          obtain ⟨o, owner, -⟩ := Option.map_eq_some_iff.1 path
          exact absurd ⟨o, owner⟩ owned
        · rfl
      · rfl
    · rfl

theorem leaveFixed (k : KeyId) (q : Path) : (q.leave (.key k)).ident = q.ident := (Path.leave_fixed _ q).2

theorem leavePath_kept (k : KeyId) (e : DestEntry) (s : State) : Kept k s (s.leavePath k e) := by
  have run := (State.leavePath_changes k e s).sameRun
  rcases leavePath_cases s k e with same | ⟨o, d, -, -, eq⟩
  · rw [same]; exact .refl k s
  · rw [eq] at run ⊢
    exact .of_steady run (touchPath_steady _ _ s) (touchPath_idents s _ (leaveFixed k))

/-- R76 step 2: the paths that the key leaves. -/
def leavesPaths (k : KeyId) (es : List DestEntry) (s : State) : State := es.foldl (fun s e => s.leavePath k e) s

/-- What each step keeps, leaving every path keeps. -/
theorem leavesPaths_keeps {I : State → Prop} {k : KeyId} (step : ∀ s e, I s → I (s.leavePath k e)) (es : List DestEntry) {s : State}
    (h : I s) : I (leavesPaths k es s) := by
  induction es generalizing s with
  | nil => exact h
  | cons e es ih => exact ih (step s e h)

theorem leavesPaths_kept (k : KeyId) (es : List DestEntry) (s : State) : Kept k s (leavesPaths k es s) :=
  leavesPaths_keeps (I := Kept k s) (fun t e h => h.trans (leavePath_kept k e t)) es (.refl k s)

/-- R76: leaving its paths changes the path table and the openings alone. -/
theorem leavesPaths_same (k : KeyId) (es : List DestEntry) (s : State) : (leavesPaths k es s).keys = s.keys ∧
    (leavesPaths k es s).ears = s.ears ∧ (leavesPaths k es s).link = s.link := by
  refine leavesPaths_keeps (I := fun t => t.keys = s.keys ∧ t.ears = s.ears ∧ t.link = s.link) (fun t e h => ?_) es ⟨rfl, rfl, rfl⟩
  rcases leavePath_cases t k e with same | ⟨o, d, -, -, eq⟩
  · rw [same]; exact h
  · rw [eq, State.removeHolder, State.touchPath_keys, State.touchPath_ears, State.touchPath_link]; exact h

/-- R27, R28, R35: leaving its paths counts no opening. -/
theorem leavesPaths_gov (k : KeyId) (es : List DestEntry) {s : State} (aimed : s.aimed) : (leavesPaths k es s).gov = s.gov := by
  refine (leavesPaths_keeps (I := fun t => t.aimed ∧ t.gov = s.gov) (fun t e ⟨aimed, gov⟩ =>
    ⟨changes_aimed (State.leavePath_changes k e t) aimed, ?_⟩) es ⟨aimed, rfl⟩).2
  rcases leavePath_cases t k e with same | ⟨o, d, -, -, eq⟩
  · rw [same, gov]
  · rw [eq, State.removeHolder, touchPath_gov fun q found => ?_, gov]
    rw [aimed q (findPath_some found).1]
    exact leave_lowers t _ q

/-- A path that is none of the key's. -/
theorem leavesPaths_otherPath {k : KeyId} {es : List DestEntry} {s : State} {x : Path} (mem : x ∈ s.paths)
    (notOwn : ∀ o d, s.keys[k].owner = some o → (∃ e ∈ es, HoldsInto e d) → x.ident ≠ ⟨.port o, d, .talk⟩) :
    x ∈ (leavesPaths k es s).paths := by
  induction es generalizing s with
  | nil => exact mem
  | cons e es ih =>
      have kept := leavePath_kept k e s
      refine ih (s := s.leavePath k e) ?_ fun o d owner ⟨e', mem', holds⟩ =>
        notOwn o d (kept.owner ▸ owner) ⟨e', List.mem_cons_of_mem _ mem', holds⟩
      rcases leavePath_cases s k e with same | ⟨o, d, owner, holds, eq⟩
      · rwa [same]
      · rw [eq]
        exact (mem_touchPath_other (leaveFixed k) (notOwn o d owner ⟨e, List.mem_cons_self, holds⟩)).2 mem

/-- R27, R28: a path of the key. -/
theorem leavesPaths_ownPath {k : KeyId} {es : List DestEntry} {s : State} {q : Path} {o : PortId} {d : Endpoint}
    (owner : s.keys[k].owner = some o) (ident : q.ident = ⟨.port o, d, .talk⟩) (record : IsRecord s q)
    (holds : ∃ e ∈ es, HoldsInto e d) : IsRecord (leavesPaths k es s) (withoutKey s k q) := by
  have touched {t : State} {x : Path} (kept : Kept k s t) (ident : x.ident = ⟨.port o, d, .talk⟩) (record : IsRecord t x)
      {e : DestEntry} (holds : HoldsInto e d) : IsRecord (t.leavePath k e) (withoutKey s k x) := by
    have same : withoutKey s k x = aimedAfter t (Path.leave (.key k)) x := by rw [withoutKey, aimedAfter, aimedAfter, kept.targetOf]
    rw [leavePath_of_holds (kept.owner.trans owner) holds, same, ← ident]
    exact record.touch (leaveFixed k)
  have other {t : State} {x : Path} (kept : Kept k s t) (ident : x.ident = ⟨.port o, d, .talk⟩) (record : IsRecord t x)
      {e : DestEntry} (not : ¬ HoldsInto e d) : IsRecord (t.leavePath k e) x := by
    rcases leavePath_cases t k e with same | ⟨o', d', -, holds, eq⟩
    · rwa [same]
    · rw [eq]
      refine record.touchOther (fun same => not ?_) (leaveFixed k)
      cases ident.symm.trans same
      exact holds
  have ident' : (withoutKey s k q).ident = ⟨.port o, d, .talk⟩ := (withoutKey_ident s k q).trans ident
  refine ((foldl_once (f := fun t e => State.leavePath k e t) (acts := fun e => HoldsInto e d)
    (I := fun t => Kept k s t ∧ IsRecord t q) (J := fun t => Kept k s t ∧ IsRecord t (withoutKey s k q))
    (fun t e not h => ?_) (fun t e holds h => ?_) (fun t e h => ?_) es ⟨.refl k s, record⟩).1 holds).2
  · exact ⟨h.1.trans (leavePath_kept k e t), other h.1 ident h.2 not⟩
  · exact ⟨h.1.trans (leavePath_kept k e t), touched h.1 ident h.2 holds⟩
  · refine ⟨h.1.trans (leavePath_kept k e t), ?_⟩
    by_cases holds : HoldsInto e d
    · have step := touched h.1 ident' h.2 holds
      rwa [withoutKey_again] at step
    · exact other h.1 ident' h.2 holds

/-- R28, R31: leaving a path suspends none. -/
theorem leavesPaths_suspended {k : KeyId} {es : List DestEntry} {s : State} : ∀ q ∈ (leavesPaths k es s).paths, q.suspended = true →
    ∃ q0 ∈ s.paths, q0.ident = q.ident ∧ q0.suspended = true := by
  refine leavesPaths_keeps (I := fun t => ∀ q ∈ t.paths, q.suspended = true → ∃ q0 ∈ s.paths, q0.ident = q.ident ∧
    q0.suspended = true) (fun t e h q mem suspended => ?_) es fun q mem suspended => ⟨q, mem, rfl, suspended⟩
  rcases leavePath_cases t k e with same | ⟨o, d, -, -, eq⟩
  · rw [same] at mem; exact h q mem suspended
  · rw [eq] at mem
    rcases mem_touchPath mem with ⟨there, -⟩ | ⟨p, found, rfl⟩
    · exact h q there suspended
    · have before : p.suspended = true := by
        rw [aimedAfter, (retargeted_keeps _ _).2.2.2.2.1] at suspended
        rcases leave_cases (.key k) p with same | ⟨ks, r, eq, -⟩
        · rwa [same] at suspended
        · rw [eq] at suspended
          split at suspended
          · cases suspended
          · exact suspended
      obtain ⟨q0, mem0, ident0, suspended0⟩ := h p (findPath_some found).1 before
      exact ⟨q0, mem0, by rw [ident0, aimedAfter_ident, leaveFixed], suspended0⟩

/-! ## The key's group (R76 step 3, R91) -/

/-- R91: a group once key `k` has left its queue and engages nobody there. -/
def leftBy (k : KeyId) (r : GroupRecord) : GroupRecord := { r with
  waiters := r.waiters.filter fun x : KeyId => decide (x ≠ k)
  members := r.members.map fun x : Member => if x.engagedBy = some k then { x with engagedBy := none } else x }

theorem engagedFor_iff (r : GroupRecord) (k : KeyId) : r.engagedFor k = true ↔ ∃ x ∈ r.members, x.engagedBy = some k := by
  simp [GroupRecord.engagedFor]

theorem disengage_of_not {r : GroupRecord} {k : KeyId} (not : r.engagedFor k ≠ true) : r.disengage k = r := by
  have same : (r.members.map fun m : Member => if m.engagedBy = some k then { m with engagedBy := none } else m) = r.members :=
    (List.map_congr_left fun x mem => if_neg fun is => not ((engagedFor_iff r k).2 ⟨x, mem, is⟩)).trans (List.map_id _)
  rw [GroupRecord.disengage, same]

theorem disengage_queue (k : KeyId) (r : GroupRecord) :
    ({ r with waiters := r.waiters.filter fun x : KeyId => decide (x ≠ k) } : GroupRecord).disengage k = leftBy k r := rfl

/-- R91: the key leaves the queue of its group, where it waits there, and ends its engagement; which of the groups that frees. -/
theorem leftGroup_of_group {s : State} {k : KeyId} {g : GroupId} (target : s.keys[k].target = some (.group g))
    (waits : s.keys[k].deadline = none → k ∉ s.groups[g].waiters) :
    (leftGroup k s).1.groups = tableSet s.groups g (leftBy k s.groups[g]) ∧
      ∀ h, (leftGroup k s).2 = some h ↔ h = g ∧ ∃ x ∈ s.groups[g].members, x.engagedBy = some k := by
  have queue : (if s.keys[k].deadline.isSome then s.leaveQueue g k else s).groups =
      tableSet s.groups g { s.groups[g] with waiters := s.groups[g].waiters.filter fun x : KeyId => decide (x ≠ k) } := by
    split
    · rfl
    · rename_i noDeadline
      have free := waits (Option.not_isSome_iff_eq_none.1 noDeadline)
      have same : (s.groups[g].waiters.filter fun x : KeyId => decide (x ≠ k)) = s.groups[g].waiters :=
        List.filter_eq_self.2 fun x mem => decide_eq_true fun is => free (is ▸ mem)
      rw [same]
      exact (tableSet_getElem_self s.groups g).symm
  rw [leftGroup, target]
  dsimp only
  generalize (if s.keys[k].deadline.isSome then s.leaveQueue g k else s) = u at queue ⊢
  have group : u.groups[g] = { s.groups[g] with waiters := s.groups[g].waiters.filter fun x : KeyId => decide (x ≠ k) } := by
    rw [queue]; exact tableSet_self _ _ _
  have engaged : u.groups[g].engagedFor k = true ↔ ∃ x ∈ s.groups[g].members, x.engagedBy = some k := by
    rw [engagedFor_iff, group]
  split
  · rename_i is
    refine ⟨?_, fun h => ⟨fun same => ⟨(Option.some.inj same).symm, engaged.1 is⟩, fun both => congrArg some both.1.symm⟩⟩
    rw [State.setGroup_groups, group, disengage_queue, queue, tableSet_tableSet]
  · rename_i not
    refine ⟨?_, fun h => ⟨fun same => (by cases same), fun both => absurd (engaged.2 both.2) not⟩⟩
    rw [queue, ← disengage_queue, ← group, disengage_of_not not]

theorem leftGroup_of_other {s : State} {k : KeyId} (target : ∀ g, s.keys[k].target ≠ some (.group g)) : leftGroup k s = (s, none) := by
  rw [leftGroup]
  split
  · rename_i g aims; exact absurd aims (target g)
  · rfl

/-- R91: beside the group, at most the key's deadline changes. -/
theorem leftGroup_same (k : KeyId) (s : State) : ∃ deadline groups, (leftGroup k s).1 =
    { s with keys := tableSet s.keys k { s.keys[k] with deadline := deadline }, groups := groups } := by
  have self (groups : Vector GroupRecord 32) : { s with groups := groups } =
      { s with keys := tableSet s.keys k { s.keys[k] with deadline := s.keys[k].deadline }, groups := groups } :=
    congrArg (fun keys => ({ s with keys := keys, groups := groups } : State)) (tableSet_getElem_self s.keys k).symm
  unfold leftGroup
  split
  · dsimp only
    split
    · split <;> exact ⟨_, _, rfl⟩
    · split
      · exact ⟨_, _, self _⟩
      · exact ⟨_, _, self s.groups⟩
  · exact ⟨_, _, self s.groups⟩

end Sys2Proof.Proofs
end

section
/-! PROOFS. Withdrawal (4.5): what a withdrawn key leaves behind, before the service passes and after them. -/

namespace Sys2Proof.Proofs

open Sys2Proof.Machine

/-! ## The withdrawal as a whole -/

/-- A withdrawal of key `k` begins in `s`: only the key's activation and its press block have changed since `v`. -/
structure Begun (k : KeyId) (v s : State) : Prop where
  kept : Kept k v s
  entries : ∀ j : KeyId, s.keys[j].entries = v.keys[j].entries
  ears : s.ears = v.ears
  paths : s.paths = v.paths
  gov : s.gov = v.gov
  link : s.link = v.link

theorem Begun.untouched {k : KeyId} {v s : State} (h : Begun k v s) (y : Option Endpoint) : Untouched k y v s :=
  ⟨h.kept, .of_eq h.entries h.ears h.paths h.gov⟩

/-- R67: the change of activation, and its notice, before the withdrawal. -/
theorem setActivation_begun (k : KeyId) (a : Activation) (u : State) : Begun k (u.report (.key k)) (u.setActivation k a) := by
  have key (j : KeyId) := setActivation_key k j a u
  have own := key k
  rw [if_pos rfl] at own
  refine ⟨{ Kept.refl k u with
    other := fun j ne => ?_, owner := ?_, target := ?_, level := ?_, priority := ?_, keyMode := ?_, deadline := ?_ },
    fun j => ?_, rfl, rfl, rfl, rfl⟩
  · rw [key, if_neg (Ne.symm ne)]; rfl
  iterate 6 rw [own]; rfl
  · rw [key]
    split
    · rename_i same; subst same; rfl
    · rfl

/-- R76 steps 1 and 2. -/
theorem leftPaths_eq (k : KeyId) (s : State) :
    leftPaths k s = leavesPaths k s.keys[k].entries (leftLists k s.keys[k].entries s).1 := rfl

theorem withdraw_triggers (k : KeyId) (s : State) :
    (s.withdraw k).2 = ⟨(leftGroup k (leftPaths k s)).2, (leftLists k s.keys[k].entries s).2⟩ := rfl

/-- What a withdrawal does after its paths. -/
theorem withdraw_state (k : KeyId) (s : State) : ∃ groups, (leftGroup k (leftPaths k s)).1.groups = groups ∧
    (s.withdraw k).1 = { leftPaths k s with
      groups := groups
      keys := tableSet (leftPaths k s).keys k
        { (leftPaths k s).keys[k] with entries := [], delivered := false, deadline := none } } := by
  obtain ⟨deadline, groups, eq⟩ := leftGroup_same k (leftPaths k s)
  refine ⟨groups, by rw [eq], ?_⟩
  rw [withdraw_eq, eq, State.setKey]
  dsimp only
  rw [tableSet_tableSet, tableSet_self]

section
variable {k : KeyId} {v s : State} (begun : Begun k v s)
include begun

theorem Begun.leftPaths_kept : Kept k v (leftPaths k s) :=
  (begun.kept.trans (leftLists_kept k _ s)).trans (leavesPaths_kept k _ _)

theorem Begun.lists (p : PortId) :
    AtPort k p v (leftLists k s.keys[k].entries s).1 (leftLists k s.keys[k].entries s).2 := by
  rw [begun.entries]
  exact leftLists_atPort p (begun.untouched _)

/-! ## The groups and the keys -/

/-- The key waits in no group but the one that it aims at. -/
def OwnQueue (v : State) (k : KeyId) : Prop :=
  ∀ g : GroupId, k ∈ v.groups[g].waiters → v.keys[k].target = some (.group g) ∧ v.keys[k].deadline.isSome

theorem Begun.ownGroup (own : OwnQueue v k) {g : GroupId} (target : v.keys[k].target = some (.group g)) :
    (leftGroup k (leftPaths k s)).1.groups = tableSet v.groups g (leftBy k v.groups[g]) ∧
      ∀ h, (leftGroup k (leftPaths k s)).2 = some h ↔ h = g ∧ ∃ x ∈ v.groups[g].members, x.engagedBy = some k := by
  have kept := begun.leftPaths_kept
  have left := leftGroup_of_group (kept.target.trans target) fun none waits => by
    rw [kept.groups] at waits
    rw [kept.deadline] at none
    have deadline := (own g waits).2
    rw [none] at deadline
    cases deadline
  rwa [kept.groups] at left

/-- R91: the groups that a withdrawal leaves. -/
theorem Begun.groups (own : OwnQueue v k) (g : GroupId) : (s.withdraw k).1.groups[g] =
    if v.keys[k].target = some (.group g) then leftBy k v.groups[g] else v.groups[g] := by
  have kept := begun.leftPaths_kept
  obtain ⟨groups, eq, state⟩ := withdraw_state k s
  rw [state]
  change groups[g] = _
  rw [← eq]
  by_cases aims : ∃ h, v.keys[k].target = some (.group h)
  · obtain ⟨h, target⟩ := aims
    rw [(begun.ownGroup own target).1, tableSet_get, target]
    simp only [Option.some.injEq, Target.group.injEq]
    split
    · rename_i same; subst same; rfl
    · rfl
  · rw [leftGroup_of_other fun h target => aims ⟨h, kept.target ▸ target⟩, kept.groups,
      if_neg fun target => aims ⟨g, target⟩]

theorem Begun.key (j : KeyId) : (s.withdraw k).1.keys[j] =
    if j = k then { (leftPaths k s).keys[k] with entries := [], delivered := false, deadline := none }
    else { v.keys[j] with entries := v.keys[j].entries.map (toldHeads v k j) } := by
  obtain ⟨groups, -, state⟩ := withdraw_state k s
  rw [state]
  change (tableSet _ k _)[j] = _
  rw [tableSet_get]
  by_cases same : j = k
  · rw [if_pos same.symm, if_pos same]
  · rw [if_neg (Ne.symm same), if_neg same, begun.leftPaths_kept.other j same]
    have entries : (leftPaths k s).keys[j].entries = v.keys[j].entries.map (toldHeads v k j) := by
      rw [leftPaths_eq, (leavesPaths_same _ _ _).1, begun.entries]
      exact leftLists_entries begun.untouched j
    rw [entries]

omit begun in
theorem withdraw_outside (k : KeyId) (s : State) : (s.withdraw k).1.paths = (leftPaths k s).paths ∧
    (s.withdraw k).1.ears = (leftLists k s.keys[k].entries s).1.ears ∧ (s.withdraw k).1.gov = (leftPaths k s).gov ∧
    (s.withdraw k).1.link = (leftLists k s.keys[k].entries s).1.link := by
  obtain ⟨groups, -, state⟩ := withdraw_state k s
  rw [state]
  obtain ⟨-, ears, link⟩ := leavesPaths_same k s.keys[k].entries (leftLists k s.keys[k].entries s).1
  exact ⟨rfl, ears, rfl, link⟩

/-! ## The paths -/

omit begun in
theorem holdsInto_iff_delivers (v : State) (k : KeyId) (d : Endpoint) :
    (∃ e ∈ v.keys[k].entries, HoldsInto e d) ↔ v.delivers k d := by
  simp only [HoldsInto, holdsPath_iff, State.delivers]

/-- A record when the key has left its lists. -/
theorem Begun.ownPath_lists {q : Path} {o : PortId} {d : Endpoint} (owner : v.keys[k].owner = some o)
    (ident : q.ident = ⟨.port o, d, .talk⟩) (record : IsRecord v q) (holds : k ∈ q.keys) :
    IsRecord (leftLists k s.keys[k].entries s).1 (v.afterDeparture k o q) := by
  cases d with
  | port p => exact (begun.lists p).ownPath owner ident record holds
  | bus b =>
      have dst : q.ident.dst = .bus b := by rw [ident]
      have same : v.afterDeparture k o q = q := by rw [State.afterDeparture, dst]
      have untouched := leftLists_elsewhere k (some (.bus b)) s.keys[k].entries (begun.untouched _) fun e _ p at' => by cases at'
      rw [same]
      exact record.spared (dst ▸ untouched.spares)

omit begun in
theorem afterDeparture_keeps (v : State) (k : KeyId) (o : PortId) (q : Path) : (v.afterDeparture k o q).keys = q.keys ∧
    (v.afterDeparture k o q).route = q.route ∧ (v.afterDeparture k o q).ident = q.ident ∧
    (v.afterDeparture k o q).pos = q.pos ∧ (v.afterDeparture k o q).level = q.level := by
  unfold State.afterDeparture
  split
  · exact ⟨rfl, rfl, rfl, rfl, rfl⟩
  · split
    · dsimp only
      generalize shape : ({ q with suspended := _ } : Path) = q'
      obtain ⟨pos, ident, keys, route, -⟩ := retargeted_keeps q' (v.targetOf q')
      have level : (q'.retargeted (v.targetOf q')).level = q'.level := path_aim_level q' _
      rw [pos, ident, keys, route, level, ← shape]
      exact ⟨rfl, rfl, rfl, rfl, rfl⟩
    · exact ⟨rfl, rfl, rfl, rfl, rfl⟩

omit begun in
theorem withoutKey_afterDeparture {q : Path} (o : PortId) (holds : k ∈ q.keys) :
    withoutKey v k (v.afterDeparture k o q) = v.afterWithdrawal k o q := by
  obtain ⟨keys, route, -⟩ := afterDeparture_keeps v k o q
  rw [withoutKey, aimedAfter, leave_of_held (by rw [keys]; exact holds), State.afterWithdrawal]
  dsimp only
  rw [keys, route]

/-- R27, R28, R76, R105: the key's own path. -/
theorem Begun.ownPath {q : Path} {o : PortId} {d : Endpoint} (owner : v.keys[k].owner = some o) (delivers : v.delivers k d)
    (ident : q.ident = ⟨.port o, d, .talk⟩) (record : IsRecord v q) (holds : k ∈ q.keys) :
    v.afterWithdrawal k o q ∈ (s.withdraw k).1.paths := by
  have kept := begun.kept.trans (leftLists_kept k s.keys[k].entries s)
  have step := leavesPaths_ownPath (es := s.keys[k].entries) (kept.owner.trans owner)
    ((afterDeparture_keeps v k o q).2.2.1.trans ident) (begun.ownPath_lists owner ident record holds)
    (by rw [begun.entries]; exact (holdsInto_iff_delivers v k d).2 delivers)
  have same : withoutKey (leftLists k s.keys[k].entries s).1 k (v.afterDeparture k o q) = v.afterWithdrawal k o q := by
    rw [← withoutKey_afterDeparture o holds, withoutKey, withoutKey, aimedAfter, aimedAfter, kept.targetOf]
  rw [(withdraw_outside k s).1, leftPaths_eq, ← same]
  exact step.1

omit begun in
/-- R28: a path that the key alone held closes from its present level. -/
theorem afterWithdrawal_alone {q : Path} (o : PortId) (keys : q.keys = [k]) (route : q.route = false) :
    (v.afterWithdrawal k o q).ident = q.ident ∧ (v.afterWithdrawal k o q).pos = q.pos ∧ (v.afterWithdrawal k o q).keys = [] ∧
      (v.afterWithdrawal k o q).route = false ∧ (v.afterWithdrawal k o q).closing = true ∧
      (v.afterWithdrawal k o q).suspended = false ∧ (v.afterWithdrawal k o q).target = 0 ∧
      (v.afterWithdrawal k o q).level = q.level := by
  obtain ⟨-, route', ident', pos', level'⟩ := afterDeparture_keeps v k o q
  have alone : (q.keys.filter fun j : KeyId => decide (j ≠ k)) = [] := by simp [keys]
  rw [State.afterWithdrawal, if_pos ⟨alone, route⟩]
  generalize shape : ({ v.afterDeparture k o q with keys := [], closing := true, suspended := false } : Path) = q'
  obtain ⟨pos, ident, keys, route'', suspended, closing, -, target⟩ := retargeted_keeps q' (v.targetOf q')
  have level : (q'.retargeted (v.targetOf q')).level = q'.level := path_aim_level q' _
  have silent : v.targetOf q' = 0 := if_pos (.inr (by rw [← shape]))
  rw [pos, ident, keys, route'', suspended, closing, target, level, silent, ← shape]
  exact ⟨ident', pos', rfl, route'.trans route, rfl, rfl, rfl, level'⟩

/-- Every path but the key's own and those of new heads. -/
theorem Begun.otherPath {x : Path} (mem : x ∈ v.paths)
    (notOwn : ∀ o d, v.keys[k].owner = some o → v.delivers k d → x.ident ≠ ⟨.port o, d, .talk⟩)
    (notHeads : ∀ p o, headOwner v (v.nextHead k p) = some o → x.ident ≠ talkPath o p) : x ∈ (s.withdraw k).1.paths := by
  have kept := begun.kept.trans (leftLists_kept k s.keys[k].entries s)
  rw [(withdraw_outside k s).1, leftPaths_eq]
  refine leavesPaths_otherPath ?_ fun o d owner holds => notOwn o d (kept.owner ▸ owner)
    ((holdsInto_iff_delivers v k d).1 (by rw [← begun.entries]; exact holds))
  cases dst : x.ident.dst with
  | port p =>
      exact (begun.lists p).otherPath mem dst (fun heard o owner => notOwn o _ owner heard.1) fun o next => notHeads p o next
  | bus b =>
      have untouched := leftLists_elsewhere k (some (.bus b)) s.keys[k].entries (begun.untouched _) fun e _ p at' => by cases at'
      exact (untouched.spares.paths x (by rw [dst])).2 mem

/-- R105, R32: the path of a new head, where it is not the key's own too. -/
theorem Begun.headPath {q : Path} {p o : PortId} (next : headOwner v (v.nextHead k p) = some o)
    (notShared : v.keys[k].owner ≠ some o) (ident : q.ident = talkPath o p) (record : IsRecord v q) :
    resumed v q ∈ (s.withdraw k).1.paths := by
  have kept := begun.kept.trans (leftLists_kept k s.keys[k].entries s)
  have ident' : (resumed v q).ident = talkPath o p := (retargeted_keeps _ _).2.1.trans ident
  rw [(withdraw_outside k s).1, leftPaths_eq]
  refine leavesPaths_otherPath ((begun.lists p).headPath next notShared ident record).1 fun o' d owner _ same => notShared ?_
  rw [← kept.owner, owner]
  cases ident'.symm.trans same
  rfl

/-- R105: every new head is heard. -/
theorem Begun.headHeard {q : Path} {p o : PortId} (next : headOwner v (v.nextHead k p) = some o)
    (mem : q ∈ (s.withdraw k).1.paths) (ident : q.ident = talkPath o p) : q.suspended = false := by
  rw [(withdraw_outside k s).1, leftPaths_eq] at mem
  refine Bool.eq_false_iff.2 fun suspended => ?_
  obtain ⟨q0, mem0, ident0, suspended0⟩ := leavesPaths_suspended q mem suspended
  rw [(begun.lists p).heard next mem0 (ident0.trans ident)] at suspended0
  cases suspended0

/-! ## The openings -/

omit begun in
theorem opensBehind_iff (v : State) (k : KeyId) (p : PortId) : v.opensBehind k p ↔ OpensTo v p (v.nextHead k p) := by
  constructor
  · rintro ⟨h, o, next, owner, rest⟩
    exact ⟨o, by rw [headOwner, next]; exact owner, rest⟩
  · rintro ⟨o, next, rest⟩
    obtain ⟨h, head, owner⟩ := Option.bind_eq_some_iff.1 next
    exact ⟨h, o, head, owner, rest⟩

/-- R35, R105, R158: the openings that a withdrawal counts. -/
theorem Begun.record (run : v.mode = .run) (aimed : v.aimed) (distinct : v.paths.Pairwise fun a b => a.ident ≠ b.ident) (p : PortId) :
    (v.opensBehind k p → (s.withdraw k).1.gov.records[p] = v.withOpenings p 1) ∧
      (¬ v.opensBehind k p → (s.withdraw k).1.gov.records[p] = v.gov.records[p]) := by
  have aimed' : (leftLists k s.keys[k].entries s).1.aimed :=
    changes_aimed (State.leaveEarpieces_changes k s.keys[k].entries (s, []))
      (aimed_of_same begun.kept.levels (by rw [begun.kept.routes]) begun.paths aimed)
  rw [opensBehind_iff, (withdraw_outside k s).2.2.1, leftPaths_eq, leavesPaths_gov _ _ aimed']
  exact (begun.lists p).record run aimed distinct

/-! ## What has gone, and what is left -/

/-- R76, R91: the key is delivered nowhere. -/
theorem Begun.withdrawn (own : OwnQueue v k) : v.withdrawn (s.withdraw k).1 k := by
  have key := begun.key k
  rw [if_pos rfl] at key
  refine ⟨by rw [key], by rw [key], by rw [key], fun g waits => ?_, fun g target x mem engaged => ?_,
    fun o d owner delivers q mem ident => ?_⟩
  · rw [begun.groups own] at waits
    split at waits
    · simpa using (List.mem_filter.1 waits).2
    · rename_i other; exact other (own g waits).1
  · rw [begun.groups own, if_pos target] at mem
    obtain ⟨y, -, rfl⟩ := List.mem_map.1 mem
    split at engaged
    · cases engaged
    · rename_i other; exact other engaged
  · obtain ⟨e, listed, dest, heard⟩ := delivers
    have kept := begun.kept.trans (leftLists_kept k s.keys[k].entries s)
    rw [(withdraw_outside k s).1, leftPaths_eq] at mem
    refine leavePaths_gone (by rw [begun.entries]; exact listed) dest heard mem ?_
    rw [kept.keyPath, State.keyPath, owner, ident]
    rfl

/-- R76: everything that a withdrawal does before the service passes. -/
theorem Begun.takesBack (own : OwnQueue v k) : v.takesBack (s.withdraw k).1 k := by
  have kept := begun.leftPaths_kept
  have key := begun.key k
  rw [if_pos rfl] at key
  obtain ⟨paths, ears, gov, link⟩ := withdraw_outside k s
  have headOwner_of {p : PortId} {h : TalkEntry} {o : PortId} (next : v.nextHead k p = some h) (owner : v.keys[h.key].owner = some o) :
      headOwner v (v.nextHead k p) = some o := by rw [headOwner, next]; exact owner
  exact {
    groups := begun.groups own
    keys := fun j ne => (begun.key j).trans (if_neg ne)
    definition := by rw [key]; exact ⟨kept.owner, kept.target, kept.level, kept.priority, kept.keyMode⟩
    ears := fun p not => by rw [ears]; exact (begun.lists p).ear.1 not
    lists := fun p e delivers kind ear => by
      rw [ears]
      obtain ⟨stays, leaves⟩ := (begun.lists p).ear.2 e ⟨delivers, kind⟩ ear
      exact ⟨fun none => stays fun ⟨x, mem, is⟩ => none x mem is, leaves⟩
    idents := by rw [paths]; exact kept.idents
    otherPaths := fun x mem notOwn notHeads => begun.otherPath mem notOwn fun p o next => by
      obtain ⟨h, head, owner⟩ := Option.bind_eq_some_iff.1 next
      exact notHeads p h o head owner
    ownPath := fun o d owner delivers q mem ident only holds => begun.ownPath owner delivers ident ⟨mem, only⟩ holds
    closingPath := fun o d owner delivers q mem ident only keys route =>
      ⟨_, begun.ownPath owner delivers ident ⟨mem, only⟩ (by rw [keys]; exact List.mem_singleton_self k),
        afterWithdrawal_alone o keys route⟩
    headPath := fun p h o next owner notShared q mem ident only =>
      begun.headPath (headOwner_of next owner) notShared ident ⟨mem, fun x there same => only x there same⟩
    headHeard := fun p h o next owner q mem ident => begun.headHeard (headOwner_of next owner) mem ident
    governor := by rw [gov]; exact ⟨kept.govConfig, kept.windowDue⟩
    openings := begun.record
    notices := fun distinct => by
      rw [link, begun.entries, leftLists_link begun.kept begun.ears distinct, begun.link]
      rfl }

/-! ## The service passes -/

/-- R89, R91: the groups that a withdrawal triggers. -/
theorem Begun.triggers (own : OwnQueue v k) (g : GroupId) :
    (s.withdraw k).1.triggered (s.withdraw k).2 g = true ↔ v.freedIn (s.withdraw k).1 k g := by
  have kept := begun.leftPaths_kept
  have freed : (leftGroup k (leftPaths k s)).2 = some g ↔
      v.keys[k].target = some (.group g) ∧ ∃ x ∈ v.groups[g].members, x.engagedBy = some k := by
    by_cases aims : ∃ h, v.keys[k].target = some (.group h)
    · obtain ⟨h, target⟩ := aims
      rw [(begun.ownGroup own target).2, target]
      refine ⟨fun ⟨same, engaged⟩ => ?_, fun ⟨same, engaged⟩ => ?_⟩
      · subst same; exact ⟨rfl, engaged⟩
      · cases same; exact ⟨rfl, engaged⟩
    · rw [leftGroup_of_other fun h target => aims ⟨h, kept.target ▸ target⟩]
      exact ⟨fun same => (by cases same), fun both => absurd ⟨g, both.1⟩ aims⟩
  have ports (p : PortId) := (begun.lists p).mem_freed
  rw [State.triggered, withdraw_triggers, State.freedIn]
  simp only [Bool.and_eq_true, Bool.or_eq_true, decide_eq_true_eq, List.any_eq_true, List.contains_iff_mem, ports, freed,
    Bool.not_eq_true', List.isEmpty_eq_false_iff, and_assoc]

/-- R76, R90: a withdrawal and its service passes. -/
theorem Begun.withdrawnThen (own : OwnQueue v k) :
    v.withdrawnThen ((s.withdraw k).1.runPasses (s.withdraw k).2) k fun w => w := by
  have gone := begun.withdrawn own
  have serves := runPasses_serves (s.withdraw k).2 (s.withdraw k).1
  have triggers := begun.triggers own
  have free := gone.queues
  refine ⟨⟨?_, ?_, serves.deadline k gone.deadline, fun g waits => free g (serves.waiters g k waits), fun g target => ?_,
    fun o d owner delivers q mem ident holds => ?_⟩, (s.withdraw k).1, gone, begun.takesBack own, serves.run,
    runPasses_servedIn triggers, fun none => ?_⟩
  · rw [serves.delivered]; exact gone.delivered
  · exact entries_nil_of_dests (by rw [serves.unlisted k free, dests, gone.entries]; rfl)
  · exact serves.unengaged k free g (gone.engagement g target)
  · obtain ⟨p, there, ident', held⟩ := serves.unheld k free q mem holds
    exact gone.holdings o d owner delivers p there (ident'.trans ident) held
  · exact runPasses_of_none fun g => Bool.eq_false_iff.2 fun yes => none g ((triggers g).1 yes)

end

end Sys2Proof.Proofs
end

section
/-! PROOFS. PRESS and RELEASE (4.3): the transitions of every mode, with what each of them leaves. -/

namespace Sys2Proof.Proofs

open Sys2Proof.Machine

/-! ## Notices are queued behind those that wait (R183) -/

theorem change_notices {s t : State} (h : Change s t) : ∃ later, t.link.notices = s.link.notices ++ later := by
  have same (link : t.link = s.link) : ∃ later, t.link.notices = s.link.notices ++ later := ⟨[], by rw [link, List.append_nil]⟩
  cases h with
  | report n =>
      rcases s.link.report_cases n with ⟨kept, -⟩ | ⟨-, -, -, queued⟩
      · exact ⟨[], by rw [State.report_link, kept, List.append_nil]⟩
      · exact ⟨[n], queued⟩
  | key | group | ear => exact same rfl
  | touch id f fixed => exact same (by rw [State.touchPath_link])
  | create id j asked absent room => exact same (by rw [State.createPath_link])

theorem changes_notices {s t : State} (h : Changes s t) : ∃ later, t.link.notices = s.link.notices ++ later := by
  induction h with
  | refl => exact ⟨[], by rw [List.append_nil]⟩
  | tail _ step ih =>
      obtain ⟨first, eq⟩ := ih
      obtain ⟨then', eq'⟩ := change_notices step
      exact ⟨first ++ then', by rw [eq', eq, List.append_assoc]⟩

/-! ## A transition (R64 to R67) -/

/-- R67: what every transition of key `k` to the activation `a` makes of `u`: the key's activation and press block, its notice first;
the other keys' activations and the rest of the part stay. -/
def Moved (u t : State) (k : KeyId) (a : Activation) : Prop :=
  t.keys[k].activation = a ∧
    (∀ j : KeyId, j ≠ k → t.keys[j].activation = u.keys[j].activation ∧ t.keys[j].pressBlock = u.keys[j].pressBlock) ∧
    t.keys[k].pressBlock = (if u.keys[k].mode = .smart ∧ a = .held then some u.blockCount else none) ∧
    (∃ later, t.link.notices = (u.link.report (.key k)).notices ++ later) ∧
    t.ports = u.ports ∧ t.mode = u.mode ∧ t.blockCount = u.blockCount ∧ t.rx = u.rx ∧ t.tx = u.tx ∧
    t.checks = u.checks ∧ t.routes = u.routes ∧ t.mix = u.mix ∧ t.lanes = u.lanes

/-- R67: the action of a transition leaves what the change of activation has made. -/
theorem moved_of_changes {u t : State} {k : KeyId} {a : Activation} (h : Changes (u.setActivation k a) t) : Moved u t k a := by
  have run := h.sameRun
  have own := (setActivation_key k k a u).trans (if_pos rfl)
  refine ⟨?_, fun j ne => ⟨?_, ?_⟩, ?_, changes_notices h, run.ports, run.mode, run.blockCount, run.rx, run.tx, run.checks,
    run.routes, run.mix, run.lanes⟩
  · rw [(run.key k).activation, own]
  · rw [(run.key j).activation, setActivation_key, if_neg (Ne.symm ne)]
  · rw [(run.key j).pressBlock, setActivation_key, if_neg (Ne.symm ne)]
  · rw [(run.key k).pressBlock, own]

/-- PRESS or RELEASE of a key. -/
def pressRequest (press : Bool) (tag : Byte) (n : Nat) : Instr := if press then .press tag n else .release tag n

/-- R65, R66: the transition that the request calls for. -/
def pressedTo (press : Bool) (u : State) (k : KeyId) : Option (Activation × KeyAction) :=
  if press then State.pressOf u k else State.releaseOf u k

theorem pressRequest_accepted {s t : State} {press : Bool} (tag : Byte) {n : Nat} {body : List Field} (takes : s.takesRequests)
    (run : s.mode = .run) (answer : State.keyPressRequest n (pressedTo press) s.opened = (t, .ok, body)) :
    AcceptedWith (pressRequest press tag n) s t body := by
  have mode : AllowedIn.admits .runOnly s.mode = true := by rw [run]; rfl
  cases press with
  | true => exact AcceptedWith.of (act := State.keyPressRequest n State.pressOf) takes rfl rfl mode answer
  | false => exact AcceptedWith.of (act := State.keyPressRequest n State.releaseOf) takes rfl rfl mode answer

theorem pressRequest_refused {s : State} (press : Bool) (tag : Byte) {n : Nat} (takes : s.takesRequests) (run : s.mode = .run)
    (answer : ∀ f, State.keyPressRequest n f s.opened = refuse .badArg s.opened) :
    RefusedWith (pressRequest press tag n) .badArg s := by
  have mode : AllowedIn.admits .runOnly s.mode = true := by rw [run]; rfl
  cases press with
  | true => exact RefusedWith.of (act := State.keyPressRequest n State.pressOf) takes rfl rfl mode (answer _)
  | false => exact RefusedWith.of (act := State.keyPressRequest n State.releaseOf) takes rfl rfl mode (answer _)

/-! ## The refusals (R64) -/

theorem keyPressRequest_of_noKey (u : State) {n : Nat} (out : 256 ≤ n) (f : State → KeyId → Option (Activation × KeyAction)) :
    State.keyPressRequest n f u = refuse .badArg u := by rw [State.keyPressRequest, objectNumber_eq_none.2 out]

theorem keyPressRequest_of_refused {u : State} {k : KeyId} (bad : u.keys[k].target = none ∨ u.callKeyNamed k)
    (f : State → KeyId → Option (Activation × KeyAction)) : State.keyPressRequest k.val f u = refuse .badArg u := by
  rw [State.keyPressRequest, objectNumber_val]
  refine if_pos ?_
  rcases bad with undefined | named
  · rw [KeyRecord.defined, undefined]; rfl
  · rw [(State.linkOwned_iff u k).2 named, Bool.or_true]

/-! ## The transitions by their actions -/

section
variable {s u : State} {tag : Byte} {k : KeyId} {press : Bool} (opened : s.opened = u) (takes : s.takesRequests) (run : s.mode = .run)
  (target : u.keys[k].target.isSome) (free : ¬ u.callKeyNamed k)
include opened takes run target free

/-- R64: a defined key that is not link-owned makes its transition, and the reply gives the states that it ends in. -/
theorem press_answered : AcceptedWith (pressRequest press tag k.val) s (u.keyTransition k (pressedTo press u k))
    ((u.keyTransition k (pressedTo press u k)).keyStateFields k) := by
  have defined : (!u.keys[k].defined || u.linkOwned k) = false := by
    rw [KeyRecord.defined, target, Bool.eq_false_iff.2 fun owned => free ((State.linkOwned_iff u k).1 owned)]
    rfl
  refine pressRequest_accepted tag takes run ?_
  rw [opened, State.keyPressRequest, objectNumber_val]
  exact if_neg (by rw [defined]; exact Bool.false_ne_true)

/-- A key that makes a transition to `a`. -/
theorem press_moves {a : Activation} {act : KeyAction} (transition : pressedTo press u k = some (a, act)) :
    let t := (u.setActivation k a).keyAction k act
    AcceptedWith (pressRequest press tag k.val) s t [.u8 a.code, .u8 t.keys[k].delivery.code] ∧ Moved u t k a := by
  have moved : Moved u ((u.setActivation k a).keyAction k act) k a := moved_of_changes (State.keyAction_changes k act _)
  have accepted := press_answered (tag := tag) (press := press) opened takes run target free
  rw [transition, State.keyTransition, State.keyStateFields, moved.1] at accepted
  exact ⟨accepted, moved⟩

/-- R65, R66: without a transition nothing changes. -/
theorem press_stays (transition : pressedTo press u k = none) : AcceptedWith (pressRequest press tag k.val) s u
    [.u8 u.keys[k].activation.code, .u8 u.keys[k].delivery.code] := by
  have accepted := press_answered (tag := tag) (press := press) opened takes run target free
  rwa [transition] at accepted

/-- R66: a transition without an action changes the key's activation and queues its notice. -/
theorem press_turns {a : Activation} (transition : pressedTo press u k = some (a, .nothing)) (notHeld : a ≠ .held) :
    AcceptedWith (pressRequest press tag k.val) s
      (State.report (.key k) { u with keys := u.keys.set k { u.keys[k] with activation := a, pressBlock := none } })
      [.u8 a.code, .u8 u.keys[k].delivery.code] := by
  have eq : (u.setActivation k a).keyAction k .nothing =
      State.report (.key k) { u with keys := u.keys.set k { u.keys[k] with activation := a, pressBlock := none } } := by
    rw [State.keyAction, State.setActivation]
    dsimp only
    rw [if_neg fun both => notHeld both.2]
    rfl
  have delivery : ((u.setActivation k a).keyAction k .nothing).keys[k].delivery = u.keys[k].delivery := by
    have own : ((u.setActivation k a).keyAction k .nothing).keys[k] = _ := (setActivation_key k k a u).trans (if_pos rfl)
    rw [own]
    rfl
  have accepted := (press_moves (tag := tag) opened takes run target free transition).1
  rw [delivery, eq] at accepted
  exact accepted

/-- R76: a transition that withdraws takes the key back. -/
theorem press_leaves {a : Activation} (transition : pressedTo press u k = some (a, .withdraw)) : ∃ t,
    (AcceptedWith (pressRequest press tag k.val) s t [.u8 a.code, .u8 t.keys[k].delivery.code] ∧ Moved u t k a) ∧
      (OwnQueue u k → (State.report (.key k) u).withdrawnThen t k fun w => w) :=
  ⟨_, press_moves (tag := tag) opened takes run target free transition, (setActivation_begun k a u).withdrawnThen⟩

end

/-! ## The statement -/

theorem pressedQuickly_iff (u : State) (k : KeyId) :
    u.pressedQuickly k = true ↔ ∃ b, u.keys[k].pressBlock = some b ∧ (u.blockCount - b).toNat < 300 := by
  unfold State.pressedQuickly
  cases u.keys[k].pressBlock with
  | none => simp
  | some b =>
      simp only [Option.some.injEq, exists_eq_left', Config.smartBlocks]
      exact decide_eq_true_iff

/-- Settles O22: the refusals; then each mode's transition, by its action. A withdrawal is `Begun.withdrawnThen`. -/
theorem pressAndReleaseFollowTheMode : Obligations.PressAndReleaseFollowTheMode := by
  unfold Obligations.PressAndReleaseFollowTheMode
  refine ⟨fun s tag takes run => ⟨fun n out => ⟨?_, ?_⟩, fun k bad => ⟨?_, ?_⟩⟩, ?_⟩
  · exact pressRequest_refused true tag takes run (keyPressRequest_of_noKey _ out)
  · exact pressRequest_refused false tag takes run (keyPressRequest_of_noKey _ out)
  · exact pressRequest_refused true tag takes run (keyPressRequest_of_refused bad)
  · exact pressRequest_refused false tag takes run (keyPressRequest_of_refused bad)
  · intro s tag k press u opened r req quick moves goes turns ownQueue leaves takes run target free
    have pressed : pressedTo true u k = pressTransition r.mode r.activation := rfl
    have released : pressedTo false u k = releaseTransition (u.pressedQuickly k) r.mode r.activation := rfl
    have going {a : Activation} (transition : pressedTo press u k = some (a, .deliver)) : goes a :=
      ⟨_, press_moves (tag := tag) opened takes run target free transition⟩
    have leaving {a : Activation} (transition : pressedTo press u k = some (a, .withdraw)) : leaves a :=
      press_leaves (tag := tag) opened takes run target free transition
    have turning {a : Activation} (transition : pressedTo press u k = some (a, .nothing)) (notHeld : a ≠ .held) : turns a :=
      press_turns (tag := tag) opened takes run target free transition notHeld
    split
    · rename_i mode activation; exact going (by rw [pressed, mode, activation]; rfl)
    · rename_i mode activation; exact going (by rw [pressed, mode, activation]; rfl)
    · rename_i mode activation; exact leaving (by rw [pressed, mode, activation]; rfl)
    · rename_i mode activation; exact going (by rw [pressed, mode, activation]; rfl)
    · rename_i mode activation; exact leaving (by rw [pressed, mode, activation]; rfl)
    · rename_i mode activation; exact leaving (by rw [released, mode, activation]; rfl)
    · rename_i mode activation
      refine ⟨fun isQuick => turning ?_ (by decide), fun notQuick => leaving ?_⟩
      · rw [released, mode, activation, (pressedQuickly_iff u k).2 isQuick]; rfl
      · rw [released, mode, activation, Bool.eq_false_iff.2 fun yes => notQuick ((pressedQuickly_iff u k).1 yes)]; rfl
    · rename_i mode activation; exact turning (by rw [released, mode, activation]; rfl) (by decide)
    · rename_i press _ _ _ noTalk noLatch noUnlatch noHold noLeave noMute noLetGo noDone
      refine press_stays (tag := tag) opened takes run target free ?_
      cases press with
      | true => exact pressed.trans (pressTransition.eq_6 _ _ (noTalk rfl) (noLatch rfl) (noUnlatch rfl) (noHold rfl) (noLeave rfl))
      | false => exact released.trans (releaseTransition.eq_4 _ _ _ (noMute rfl) (noLetGo rfl) (noDone rfl))

end Sys2Proof.Proofs
end

section
/-! PROOFS. GROUP and PRESENCE (5.2, 5.6): the record that GROUP writes, the value that PRESENCE stores, and their refusals. -/

namespace Sys2Proof.Proofs

open Sys2Proof.Machine

/-! ## GROUP (R82) -/

theorem groupBusy_iff (u : State) (g : GroupId) : u.groupBusy g = true ↔
    u.mode = .run ∧ ((∃ m ∈ u.groups[g].members, m.engagedBy.isSome) ∨ u.groups[g].waiters ≠ []) := by
  simp [State.groupBusy]

theorem portNumbers_none {ms : List Nat} (out : ∃ p ∈ ms, 48 ≤ p) : portNumbers ms = none := by
  obtain ⟨p, mem, out⟩ := out
  induction ms with
  | nil => exact absurd mem List.not_mem_nil
  | cons n ns ih =>
      rw [portNumbers]
      rcases List.mem_cons.1 mem with rfl | mem
      · rw [objectNumber_eq_none.2 out]
      · rw [ih mem]
        cases objectNumber 48 n <;> rfl

theorem portNumbers_length {ms : List Nat} {ps : List PortId} (read : portNumbers ms = some ps) : ps.length = ms.length := by
  induction ms generalizing ps with
  | nil => cases read; rfl
  | cons n ns ih =>
      rw [portNumbers] at read
      split at read
      · rename_i numbers
        cases read
        rw [List.length_cons, List.length_cons, ih numbers]
      · cases read

theorem groupModeOf_none {x : Nat} (bad : 2 ≤ x) : groupModeOf x = none := by rw [groupModeOf] <;> omega

/-- R82: GROUP whose operands can be read, its list being no longer than 8. -/
theorem groupRequest_of_read (u : State) (g : GroupId) (m : GroupMode) (timeout : Option Nat) {ps : List PortId} (few : ps.length ≤ 8) :
    u.groupRequest g.val m.code timeout (ps.map Fin.val) =
      if u.groupBusy g then refuse .busy u
      else if ¬ ps.Nodup then refuse .badArg u
      else if !(ps.all fun p : PortId => u.ports[p].kind.hasOutput) then refuse .badArg u
      else accept (u.setGroup g (groupWritten m timeout ps)) := by
  rw [State.groupRequest, objectNumber_val, groupModeOf_code, portNumbers_val]
  exact if_neg (Nat.not_lt_of_le few)

/-- R82 check 1: GROUP one of whose operands is out of range. -/
theorem groupRequest_of_unread (u : State) {n m : Nat} (timeout : Option Nat) {ms : List Nat}
    (bad : 32 ≤ n ∨ 2 ≤ m ∨ 8 < ms.length ∨ ∃ p ∈ ms, 48 ≤ p) : u.groupRequest n m timeout ms = refuse .badArg u := by
  rw [State.groupRequest]
  split
  · rename_i g mode ports hg hm hp
    rcases bad with bad | bad | bad | bad
    · rw [objectNumber_eq_none.2 bad] at hg; cases hg
    · rw [groupModeOf_none bad] at hm; cases hm
    · exact if_pos (by rw [portNumbers_length hp]; exact bad)
    · rw [portNumbers_none bad] at hp; cases hp
  · rfl

theorem group_refused {s : State} {st : Status} {tag : Byte} {n m : Nat} {timeout : Option Nat} {ms : List Nat}
    (takes : s.takesRequests) (answer : s.opened.groupRequest n m timeout ms = refuse st s.opened) :
    RefusedWith (.group tag n m timeout ms) st s :=
  RefusedWith.of (act := State.groupRequest n m timeout ms) takes rfl rfl rfl answer

/-- R82, R81: the record written. -/
theorem groupWritten_eq (m : GroupMode) (timeout : Option Nat) (ps : List PortId) : groupWritten m timeout ps =
    if ps = [] then ⟨.all, [], [], [], 10000⟩
    else ⟨m, ps.map fun p => ⟨p, none⟩, ps, [], max 100 (min 60000 (timeout.getD 10000))⟩ := by
  simp only [groupWritten, List.isEmpty_iff]
  rfl

/-- Settles O21: the operands that cannot be read first; then the checks of a request that can be, in their order. -/
theorem groupWritesTheRecord : Obligations.GroupWritesTheRecord := by
  unfold Obligations.GroupWritesTheRecord
  rintro s tag timeout takes u rfl busy
  have isBusy (g : GroupId) : s.opened.groupBusy g = true ↔ busy g := by
    rw [groupBusy_iff, s.opened_outside.2.1]
  have deaf (ps : List PortId) : (!(ps.all fun p : PortId => s.opened.ports[p].kind.hasOutput)) = true ↔
      ∃ p ∈ ps, ¬ s.opened.ports[p].kind.listens := by
    simp [← PortKind.hasOutput_iff]
  refine ⟨fun g m ps few free distinct listen => ?_, fun n m ms bad => group_refused takes (groupRequest_of_unread _ timeout bad),
    fun g m ps few => ⟨fun refused => group_refused takes ?_, fun free bad => group_refused takes ?_⟩⟩
  · refine AcceptedWith.of (act := State.groupRequest _ _ _ _) takes rfl rfl rfl ?_
    have allListen : ¬ (!(ps.all fun p : PortId => s.opened.ports[p].kind.hasOutput)) = true := fun is => by
      obtain ⟨p, mem, not⟩ := (deaf ps).1 is
      exact not (listen p mem)
    rw [groupRequest_of_read _ g m timeout few, if_neg (free ∘ (isBusy g).1), if_neg (not_not_intro distinct), if_neg allListen,
      groupWritten_eq]
    rfl
  · rw [groupRequest_of_read _ g m timeout few, if_pos ((isBusy g).2 refused)]
  · rw [groupRequest_of_read _ g m timeout few, if_neg (free ∘ (isBusy g).1)]
    rcases bad with twice | silent
    · rw [if_pos twice]
    · rw [if_pos ((deaf ps).2 silent), ite_self]

/-! ## PRESENCE (R94) -/

theorem presenceValueOf_none {x : Nat} (bad : 3 ≤ x) : presenceValueOf x = none := by rw [presenceValueOf] <;> omega

theorem presence_refused {s : State} {st : Status} {tag : Byte} {n v : Nat} (takes : s.takesRequests)
    (answer : s.opened.presenceRequest n v = refuse st s.opened) : RefusedWith (.presence tag n v) st s :=
  RefusedWith.of (act := State.presenceRequest n v) takes rfl rfl rfl answer

theorem presence_accepted {s : State} (tag : Byte) {p : PortId} (v : Presence) (takes : s.takesRequests)
    (kind : s.opened.ports[p].kind = .panel ∨ s.opened.ports[p].kind = .earpiece) :
    AcceptedWith (.presence tag p.val v.code) s (s.opened.writePresence p v) [] := by
  refine AcceptedWith.of (act := State.presenceRequest _ _) takes rfl rfl rfl ?_
  rw [State.presenceRequest, objectNumber_val, presenceValueOf_code]
  exact if_pos ((PortKind.governed_iff _).2 kind)

/-- R94: the value is stored. -/
abbrev storedPresence (u : State) (p : PortId) (v : Presence) : State :=
  { u with ports := u.ports.set p { u.ports[p] with presence := v } }

/-- R94: a port that becomes AVAILABLE may have become eligible; any other change of value triggers nothing. -/
theorem writePresence_eq (u : State) (p : PortId) (v : Presence) : u.writePresence p v =
    if u.ports[p].presence ≠ .available ∧ v = .available then (storedPresence u p v).runPasses ⟨none, [p]⟩
    else storedPresence u p v := rfl

theorem storedPresence_triggered (u : State) (p : PortId) (v : Presence) (g : GroupId) :
    (storedPresence u p v).triggered ⟨none, [p]⟩ g = true ↔ u.servedBy p g :=
  State.triggered_iff (storedPresence u p v) p g

/-- R90: the passes of an event change nothing where no waiter of a group that it triggers has an eligible member. -/
theorem runPasses_of_noService {t : Triggers} {s : State} (nobody : ∀ g, s.triggered t g = true → s.nextService g = none) :
    s.runPasses t = s := by
  have still (gs : List GroupId) : gs.foldl (passIn t) s = s := by
    induction gs with
    | nil => rfl
    | cons g gs ih =>
        have first : passIn t s g = s := by
          unfold passIn
          split
          · rename_i triggers; exact servicePass_none (nobody g triggers) _
          · rfl
        rw [List.foldl_cons, first, ih]
  exact still _

theorem nextService_eq_none {s : State} {g : GroupId}
    (nobody : ∀ k ∈ s.groups[g].waiters, ∀ m ∈ s.groups[g].lru, ¬ s.canTake g k m) : s.nextService g = none := by
  refine List.findSome?_eq_none_iff.2 fun k waits => Option.map_eq_none_iff.2 (List.find?_eq_none.2 fun m listed => ?_)
  rw [State.eligible_iff]
  exact nobody k waits m listed

/-- R94: where the value does not become AVAILABLE, or nobody can be served, it is stored and that is all. -/
theorem writePresence_stays {u : State} {p : PortId} {v : Presence} (idle : v ≠ .available ∨ u.ports[p].presence = .available ∨
      ∀ g : GroupId, u.servedBy p g → ∀ k ∈ u.groups[g].waiters, ∀ m ∈ u.groups[g].lru, ¬ (storedPresence u p v).canTake g k m) :
    u.writePresence p v = storedPresence u p v := by
  rw [writePresence_eq]
  split
  · rename_i rises
    rcases idle with other | already | nobody
    · exact absurd rises.2 other
    · exact absurd already rises.1
    · exact runPasses_of_noService fun g runs => nextService_eq_none (nobody g ((storedPresence_triggered u p v g).1 runs))
  · rfl

/-- R94, R89, R90: what the value stored and the passes that it triggers leave. -/
theorem writePresence_serves (u : State) (p : PortId) (v : Presence) : (storedPresence u p v).sameRun (u.writePresence p v) ∧
    (∀ g : GroupId, ¬ u.servedBy p g → (u.writePresence p v).groups[g] = u.groups[g]) ∧
    (v = .available → u.ports[p].presence ≠ .available → (storedPresence u p v).served (u.writePresence p v) p) := by
  rw [writePresence_eq]
  split
  · have served := runPasses_servedIn (storedPresence_triggered u p v)
    exact ⟨(runPasses_serves _ _).run, served.1, fun _ _ => served⟩
  · rename_i stays
    exact ⟨State.sameRun_refl _, fun _ _ => rfl, fun now before => absurd ⟨before, now⟩ stays⟩

/-- R94: the requests that are refused: a number or a value out of range, and a port that keeps no presence. -/
theorem presenceRequest_refused (u : State) {n v : Nat}
    (bad : 48 ≤ n ∨ 3 ≤ v ∨ ∃ p : PortId, n = p.val ∧ u.ports[p].kind ≠ .panel ∧ u.ports[p].kind ≠ .earpiece) :
    u.presenceRequest n v = refuse .badArg u := by
  rw [State.presenceRequest]
  split
  · rename_i p w number value
    rcases bad with out | out | ⟨q, rfl, notPanel, notEar⟩
    · rw [objectNumber_eq_none.2 out] at number; cases number
    · rw [presenceValueOf_none out] at value; cases value
    · rw [objectNumber_val] at number
      cases number
      exact if_neg fun governed => ((PortKind.governed_iff _).1 governed).elim notPanel notEar
  · rfl

/-- Settles O14: what the passes leave is `runPasses_servedIn`, with the groups that the port triggers. -/
theorem presenceStoresTheValue : Obligations.PresenceStoresTheValue := by
  unfold Obligations.PresenceStoresTheValue
  intro s tag takes u opened
  refine ⟨fun p v kind => ?_, fun n v bad => ?_, fun p v notPanel notEar => ?_⟩
  · have accepted := presence_accepted tag v takes (opened ▸ kind)
    rw [opened] at accepted
    refine ⟨fun idle => ?_, _, accepted, writePresence_serves u p v⟩
    rwa [writePresence_stays idle] at accepted
  · exact presence_refused takes (presenceRequest_refused _ (bad.imp_right .inl))
  · refine presence_refused takes (presenceRequest_refused _ (.inr (.inr ⟨p, rfl, ?_, ?_⟩))) <;> rwa [opened]

end Sys2Proof.Proofs
end

section
/-! PROOFS. The record that a key finds and the record that it joins (2.2): what the operations of the path table make of the record of
one identity. -/

namespace Sys2Proof.Proofs

open Sys2Proof.Machine

/-! ## The record of an identity after an operation -/

/-- What an operation on an identity makes of its record. -/
theorem findPath_touchPath {id : PathId} {f : Path → Path} (fixed : ∀ q, (f q).ident = q.ident) (s : State) :
    (s.touchPath id f).findPath id = (s.findPath id).map (aimedAfter s f) := by
  cases found : s.findPath id with
  | none => rw [touchPath_of_none found, found]; rfl
  | some p =>
      have ident : (aimedAfter s f p).ident = id := by rw [aimedAfter_ident, fixed, (findPath_some found).2]
      have hit : ((fun q : Path => decide (q.ident = id)) ∘ fun r : Path => if r.ident = id then aimedAfter s f p else r) =
          fun q => decide (q.ident = id) := funext fun r => by
        simp only [Function.comp_apply]
        split
        · rename_i same; rw [ident, same]
        · rfl
      rw [State.findPath, touchPath_paths found, List.find?_map, hit]
      rw [State.findPath] at found
      rw [found, Option.map_some, Option.map_some, if_pos (of_decide_eq_true (List.find?_some found :))]

/-- An operation on another identity leaves the record. -/
theorem findPath_touchPath_other {id id' : PathId} {f : Path → Path} (fixed : ∀ q, (f q).ident = q.ident) (other : id' ≠ id)
    (s : State) : (s.touchPath id' f).findPath id = s.findPath id := by
  cases found : s.findPath id' with
  | none => rw [touchPath_of_none found]
  | some p =>
      have ident : (aimedAfter s f p).ident = id' := by rw [aimedAfter_ident, fixed, (findPath_some found).2]
      rw [State.findPath, State.findPath, touchPath_paths found, List.find?_map]
      have same : ((fun q : Path => decide (q.ident = id)) ∘ fun r : Path => if r.ident = id' then aimedAfter s f p else r) =
          fun q => decide (q.ident = id) := funext fun r => by
        simp only [Function.comp_apply]
        split
        · rename_i hit; rw [ident, hit]
        · rfl
      rw [same]
      cases hit : s.paths.find? fun q : Path => decide (q.ident = id) with
      | none => rfl
      | some q =>
          have ident' : q.ident = id := of_decide_eq_true (List.find?_some hit :)
          rw [Option.map_some, if_neg fun same => other (same.symm.trans ident')]

theorem findPath_insertByPos_other {q : Path} {id : PathId} (other : q.ident ≠ id) (ps : List Path) :
    (insertByPos q ps).find? (fun p : Path => decide (p.ident = id)) = ps.find? fun p => decide (p.ident = id) := by
  rw [← List.head?_filter, ← List.head?_filter, filter_insertByPos (decide_eq_false other)]

/-- Adding a holder to one identity leaves the records of others. -/
theorem findPath_addHolder_other {id id' : PathId} (other : id' ≠ id) (h : Holder) (asked : Bool) (s : State) :
    (s.addHolder id' h asked).1.findPath id = s.findPath id := by
  unfold State.addHolder
  split
  · split
    · rw [State.findPath, createPath_paths, findPath_insertByPos_other (by rw [newPath_ident]; exact other)]
      rfl
    · rfl
  · split
    · exact findPath_touchPath_other (fun q => (Path.reopen_fixed h asked q).2) other s
    · exact findPath_touchPath_other (fun q => (Path.join_fixed h q).2) other s

/-- The records of one destination stay when a path into another is changed. -/
theorem touchPath_filter_other {id : PathId} {d : Endpoint} {f : Path → Path} (fixed : ∀ q, (f q).ident = q.ident)
    (other : id.dst ≠ d) (s : State) : ((s.touchPath id f).paths.filter fun q : Path => decide (q.ident.dst = d)) =
      s.paths.filter fun q => decide (q.ident.dst = d) := by
  cases found : s.findPath id with
  | none => rw [touchPath_of_none found]
  | some p =>
      have ident : (aimedAfter s f p).ident = id := by rw [aimedAfter_ident, fixed, (findPath_some found).2]
      have same : ((fun q : Path => decide (q.ident.dst = d)) ∘ fun r : Path => if r.ident = id then aimedAfter s f p else r) =
          fun q => decide (q.ident.dst = d) := funext fun r => by
        simp only [Function.comp_apply]
        split
        · rename_i hit; rw [ident, hit]
        · rfl
      rw [touchPath_paths found, List.filter_map, same]
      refine (List.map_congr_left fun r mem => if_neg fun hit => other ?_).trans (List.map_id _)
      rw [← hit]
      exact of_decide_eq_true (List.mem_filter.1 mem).2

theorem addHolder_filter_other {id : PathId} {d : Endpoint} (other : id.dst ≠ d) (h : Holder) (asked : Bool) (s : State) :
    ((s.addHolder id h asked).1.paths.filter fun q : Path => decide (q.ident.dst = d)) =
      s.paths.filter fun q => decide (q.ident.dst = d) := by
  unfold State.addHolder
  split
  · split
    · rw [createPath_paths, filter_insertByPos (decide_eq_false (by rw [newPath_ident]; exact other))]
    · rfl
  · split
    · exact touchPath_filter_other (fun q => (Path.reopen_fixed h asked q).2) other s
    · exact touchPath_filter_other (fun q => (Path.join_fixed h q).2) other s

/-- R24 to R26: what adding a holder answers, and how many records it leaves. -/
theorem addHolder_answer (id : PathId) (h : Holder) (asked : Bool) (s : State) : (s.addHolder id h asked).2 = s.wouldAdd id ∧
    (s.addHolder id h asked).1.paths.length =
      s.paths.length + if s.findPath id = none ∧ s.roomForNew id = true then 1 else 0 := by
  have touched {p : Path} (found : s.findPath id = some p) {f : Path → Path} :
      (s.touchPath id f).paths.length = s.paths.length := by rw [touchPath_paths found, List.length_map]
  rw [State.wouldAdd]
  cases found : s.findPath id with
  | none =>
      cases room : s.roomForNew id with
      | true =>
          rw [addHolder_of_absent found room]
          refine ⟨rfl, ?_⟩
          rw [createPath_paths, (insertByPos_perm _ _).length_eq, if_pos ⟨rfl, rfl⟩]
          rfl
      | false =>
          rw [addHolder_of_full found room, if_neg fun both => Bool.false_ne_true both.2]
          exact ⟨rfl, rfl⟩
  | some p =>
      rw [if_neg fun both => by cases both.1]
      cases closing : p.closing with
      | true => rw [addHolder_of_closing found closing]; exact ⟨rfl, touched found⟩
      | false => rw [addHolder_of_open found closing]; exact ⟨rfl, touched found⟩

theorem wouldAdd_iff (s : State) (id : PathId) : s.wouldAdd id = true ↔ s.hasRoom id s.paths.length := by
  rw [State.wouldAdd, Bool.or_eq_true, roomForNew_iff, Option.isSome_iff_ne_none, Ne, findPath_none]
  simp

theorem findPath_touched {s : State} {id : PathId} {p : Path} (found : s.findPath id = some p) (f : Path → Path) :
    aimedAfter s f p ∈ (s.touchPath id f).paths := by
  rw [touchPath_paths found]
  obtain ⟨mem, ident⟩ := findPath_some found
  exact List.mem_map.2 ⟨p, mem, if_pos ident⟩

/-! ## Fields of a record after an operation -/

theorem aimedAfter_level (s : State) {f : Path → Path} {q : Path} (kept : (f q).level = q.level) :
    (aimedAfter s f q).level = q.level := (path_aim_level (f q) _).trans kept
theorem aimedAfter_pos (s : State) (f : Path → Path) (q : Path) : (aimedAfter s f q).pos = (f q).pos := (retargeted_keeps _ _).1
theorem aimedAfter_route (s : State) (f : Path → Path) (q : Path) : (aimedAfter s f q).route = (f q).route :=
  (retargeted_keeps _ _).2.2.2.1
theorem aimedAfter_suspended (s : State) (f : Path → Path) (q : Path) : (aimedAfter s f q).suspended = (f q).suspended :=
  (retargeted_keeps _ _).2.2.2.2.1
theorem aimedAfter_closing (s : State) (f : Path → Path) (q : Path) : (aimedAfter s f q).closing = (f q).closing :=
  (retargeted_keeps _ _).2.2.2.2.2.1

/-- R21: the target level of a path that is not closing. -/
theorem targetOf_open {s : State} {q : Path} (isOpen : q.closing = false) :
    s.targetOf q = if q.suspended then 0 else s.loudest q.ident q.keys q.route := by
  rw [State.targetOf, isOpen]
  simp

/-- R27, R31: leaving and suspending keep a record's place, its present level and ROUTE. -/
structure Still (q q' : Path) : Prop where
  pos : q'.pos = q.pos
  ident : q'.ident = q.ident
  level : q'.level = q.level
  route : q'.route = q.route

theorem Still.refl (q : Path) : Still q q := ⟨rfl, rfl, rfl, rfl⟩

theorem Still.trans {q q' q'' : Path} (h : Still q q') (h' : Still q' q'') : Still q q'' :=
  ⟨h'.pos.trans h.pos, h'.ident.trans h.ident, h'.level.trans h.level, h'.route.trans h.route⟩

theorem Still.aimed {q : Path} {f : Path → Path} (h : Still q (f q)) (s : State) : Still q (aimedAfter s f q) :=
  ⟨(aimedAfter_pos s f q).trans h.pos, (aimedAfter_ident s f q).trans h.ident, aimedAfter_level s h.level,
    (aimedAfter_route s f q).trans h.route⟩

theorem suspend_still (q : Path) : Still q q.suspend := by unfold Path.suspend; split <;> exact ⟨rfl, rfl, rfl, rfl⟩
theorem resume_still (q : Path) : Still q q.resume := by unfold Path.resume; split <;> exact ⟨rfl, rfl, rfl, rfl⟩
theorem leave_still (k : KeyId) (q : Path) : Still q (q.leave (.key k)) := by
  by_cases holds : k ∈ q.keys
  · rw [leave_of_held holds]
    dsimp only
    split <;> exact ⟨rfl, rfl, rfl, rfl⟩
  · rw [leave_of_notHeld holds]
    exact .refl q

theorem withoutKey_still (s : State) (k : KeyId) (q : Path) : Still q (withoutKey s k q) := (leave_still k q).aimed s

theorem withoutKey_keys (s : State) (k : KeyId) (q : Path) : (withoutKey s k q).keys = q.keys.filter fun j => decide (j ≠ k) := by
  rw [withoutKey, aimedAfter_keys]
  by_cases holds : k ∈ q.keys
  · rw [leave_of_held holds]
    dsimp only
    split
    · rename_i none; exact none.1.symm
    · rfl
  · have other (j : KeyId) (mem : j ∈ q.keys) : j ≠ k := fun same => holds (same ▸ mem)
    rw [leave_of_notHeld holds]
    exact (List.filter_eq_self.2 fun j mem => decide_eq_true (other j mem)).symm

/-- R28: a path closes with its last holder. -/
theorem withoutKey_flags (s : State) {k : KeyId} {q : Path} (holds : k ∈ q.keys) :
    ((withoutKey s k q).keys = [] ∧ q.route = false → (withoutKey s k q).closing = true ∧ (withoutKey s k q).suspended = false) ∧
      (¬ ((withoutKey s k q).keys = [] ∧ q.route = false) →
        (withoutKey s k q).closing = q.closing ∧ (withoutKey s k q).suspended = q.suspended) := by
  rw [withoutKey_keys, withoutKey, aimedAfter_closing, aimedAfter_suspended, leave_of_held holds]
  dsimp only
  exact ⟨fun none => by rw [if_pos none]; exact ⟨rfl, rfl⟩, fun some => by rw [if_neg some]; exact ⟨rfl, rfl⟩⟩

theorem suspend_closing (q : Path) : q.suspend.closing = q.closing := by unfold Path.suspend; split <;> rfl
theorem resume_closing (q : Path) : q.resume.closing = q.closing := by unfold Path.resume; split <;> rfl

/-! ## The record that a key joins (R25, R26, R102) -/

/-- From `q0` to `q` the keys `gone` have been evicted from a path, which closes with its last holder, and it has been resumed if the
key that it is made ready for is the head. -/
structure Readied (gone : KeyId → Prop) (heads : Bool) (q0 q : Path) : Prop where
  still : Still q0 q
  closing : q.closing = true ↔ q0.closing = true ∨ (q0.keys ≠ [] ∧ (∀ j ∈ q0.keys, gone j) ∧ q0.route = false)
  keys : q.closing = false → ∀ j, j ∈ q.keys ↔ j ∈ q0.keys ∧ ¬ gone j
  suspended : q.closing = false → q.suspended = if heads then false else q0.suspended

theorem readied_refl {gone : KeyId → Prop} (nobody : ∀ j, ¬ gone j) (q : Path) : Readied gone false q q where
  still := .refl q
  closing := by
    refine ⟨.inl, fun h => h.resolve_right fun ⟨held, all, _⟩ => ?_⟩
    obtain ⟨j, mem⟩ := List.exists_mem_of_ne_nil _ held
    exact nobody j (all j mem)
  keys _ j := ⟨fun mem => ⟨mem, nobody j⟩, And.left⟩
  suspended _ := rfl

/-- R102, R27, R28: the path of an evicted key. -/
theorem withoutKey_readied {gone : KeyId → Prop} {x : KeyId} (only : ∀ j, gone j ↔ j = x) (s : State) (q : Path) :
    Readied gone false q (withoutKey s x q) := by
  have keys := withoutKey_keys s x q
  by_cases holds : x ∈ q.keys
  · have alone : (withoutKey s x q).keys = [] ↔ ∀ j ∈ q.keys, gone j := by
      rw [keys, List.filter_eq_nil_iff]
      simp [only]
    obtain ⟨closes, stays⟩ := withoutKey_flags s holds
    have held := List.ne_nil_of_mem holds
    refine ⟨withoutKey_still s x q, ?_, fun _ j => ?_, fun isOpen => ?_⟩
    · by_cases last : (withoutKey s x q).keys = [] ∧ q.route = false
      · exact iff_of_true (closes last).1 (.inr ⟨held, alone.1 last.1, last.2⟩)
      · rw [(stays last).1]
        exact ⟨.inl, fun h => h.resolve_right fun ⟨_, all, route⟩ => last ⟨alone.2 all, route⟩⟩
    · rw [keys, List.mem_filter, decide_eq_true_eq, only]
    · by_cases last : (withoutKey s x q).keys = [] ∧ q.route = false
      · rw [(closes last).1] at isOpen; cases isOpen
      · exact (stays last).2
  · have same : Readied gone false q q := by
      refine ⟨.refl q, ⟨.inl, fun h => h.resolve_right fun ⟨held, all, _⟩ => ?_⟩, fun _ j => ?_, fun _ => rfl⟩
      · obtain ⟨j, mem⟩ := List.exists_mem_of_ne_nil _ held
        exact holds ((only j).1 (all j mem) ▸ mem)
      · exact ⟨fun mem => ⟨mem, fun is => holds ((only j).1 is ▸ mem)⟩, And.left⟩
    have closing : (withoutKey s x q).closing = q.closing := by rw [withoutKey, aimedAfter_closing, leave_of_notHeld holds]
    have suspended : (withoutKey s x q).suspended = q.suspended := by rw [withoutKey, aimedAfter_suspended, leave_of_notHeld holds]
    have kept : (withoutKey s x q).keys = q.keys := by rw [withoutKey, aimedAfter_keys, leave_of_notHeld holds]
    exact ⟨withoutKey_still s x q, by rw [closing]; exact same.closing, fun isOpen => by rw [kept]; exact same.keys (closing ▸ isOpen),
      fun _ => suspended⟩

/-- R103 step 3: the new head's path is resumed. -/
theorem Readied.resumed {gone : KeyId → Prop} {q0 q : Path} (h : Readied gone false q0 q) (s : State) :
    Readied gone true q0 (aimedAfter s Path.resume q) := by
  have closing : (aimedAfter s Path.resume q).closing = q.closing := by rw [aimedAfter_closing, resume_closing]
  refine ⟨h.still.trans ((resume_still q).aimed s), by rw [closing]; exact h.closing, fun isOpen j => ?_, fun _ => ?_⟩
  · rw [aimedAfter_keys, resume_keys]
    exact h.keys (closing ▸ isOpen) j
  · rw [aimedAfter_suspended, resume_eq]
    rfl

/-- R21 to R26, R33: a key is added to a path that has been made ready for it. -/
theorem addHolder_joins {v w : State} {k : KeyId} {o p : PortId} {st : EntryStatus} (run : v.sameRun w)
    (absent : v.findPath (talkPath o p) = none → w.findPath (talkPath o p) = none ∧ w.roomForNew (talkPath o p) = true)
    (found : ∀ q0, v.findPath (talkPath o p) = some q0 → ∃ q, w.findPath (talkPath o p) = some q ∧
      Readied (v.evicts k o p) (decide (st = .live ∧ v.ports[p].kind = .earpiece)) q0 q) :
    v.joins (w.addHolder (talkPath o p) (.key k) (decide (st = .heldBack))).1 k o p st := by
  have target (q : Path) (aimed : AimedAt w q) (ident : q.ident = talkPath o p) (isOpen : q.closing = false) :
      q.target = if q.suspended then 0 else v.loudest (talkPath o p) q.keys q.route := by
    have same : v.targetOf q = w.targetOf q :=
      (targetOf_of_same (fun j => (run.key j).level) (by rw [run.routes]) q).symm
    rw [aimed, ← same, targetOf_open isOpen, ident]
  cases record : v.findPath (talkPath o p) with
  | none =>
      obtain ⟨absent', room⟩ := absent record
      refine ⟨newPath w (talkPath o p) (.key k) (decide (st = .heldBack)), ?_, newPath_ident _ _ _ _, rfl,
        target _ (newPath_aimed _ _ _ _) (newPath_ident _ _ _ _) rfl, fun _ => ⟨rfl, rfl, rfl, rampLevel_zero _ _⟩,
        fun q0 mem ident => absurd ident (findPath_none.1 record q0 mem)⟩
      rw [addHolder_of_absent absent' room, createPath_paths]
      exact mem_insertByPos.2 (.inl rfl)
  | some q0 =>
      obtain ⟨q, found', ready⟩ := found q0 record
      obtain ⟨mem0, ident0⟩ := findPath_some record
      have ident : q.ident = talkPath o p := (findPath_some found').2
      have only (q1 : Path) (mem1 : q1 ∈ v.paths) (ident1 : q1.ident = talkPath o p)
          (unique : ∀ x ∈ v.paths, x.ident = talkPath o p → x = q1) : q1 = q0 := (unique q0 mem0 ident0).symm
      cases closing : q.closing with
      | true =>
          have ident' : (aimedAfter w (Path.reopen (.key k) (decide (st = .heldBack))) q).ident = talkPath o p := by
            rw [aimedAfter_ident, (Path.reopen_fixed _ _ q).2, ident]
          have isOpen : (aimedAfter w (Path.reopen (.key k) (decide (st = .heldBack))) q).closing = false := aimedAfter_closing _ _ _
          refine ⟨aimedAfter w (Path.reopen (.key k) (decide (st = .heldBack))) q, ?_, ident', isOpen,
            target _ (aimedAfter_aimed _ _ _) ident' isOpen, fun none => absurd ident0 (none q0 mem0), fun q1 mem1 ident1 unique => ?_⟩
          · rw [addHolder_of_closing found' closing]; exact findPath_touched found' _
          · rw [only q1 mem1 ident1 unique]
            exact ⟨(aimedAfter_pos _ _ _).trans ready.still.pos, (aimedAfter_level w rfl).trans ready.still.level,
              fun _ => ⟨aimedAfter_keys _ _ _, aimedAfter_route _ _ _, aimedAfter_suspended _ _ _⟩,
              fun not => absurd (ready.closing.1 closing) not⟩
      | false =>
          have ident' : (aimedAfter w (Path.join (.key k)) q).ident = talkPath o p := by
            rw [aimedAfter_ident, (Path.join_fixed _ q).2, ident]
          have isOpen : (aimedAfter w (Path.join (.key k)) q).closing = false := (aimedAfter_closing _ _ _).trans closing
          refine ⟨aimedAfter w (Path.join (.key k)) q, ?_, ident', isOpen,
            target _ (aimedAfter_aimed _ _ _) ident' isOpen, fun none => absurd ident0 (none q0 mem0), fun q1 mem1 ident1 unique => ?_⟩
          · rw [addHolder_of_open found' closing]; exact findPath_touched found' _
          · rw [only q1 mem1 ident1 unique]
            refine ⟨(aimedAfter_pos _ _ _).trans ready.still.pos, (aimedAfter_level w rfl).trans ready.still.level,
              fun again => absurd (closing.symm.trans (ready.closing.2 again)) Bool.false_ne_true, fun _ => ⟨fun j => ?_, ?_, ?_⟩⟩
            · rw [aimedAfter_keys, Path.join, mem_insertKey, ready.keys closing]
            · exact (aimedAfter_route _ _ _).trans ready.still.route
            · refine ((aimedAfter_suspended _ _ _).trans (ready.suspended closing)).trans ?_
              simp only [decide_eq_true_eq]

end Sys2Proof.Proofs
end

section
/-! PROOFS. A delivery changes nothing at other destinations, and its answer at one is told by what stands there (4.4, 6.2). -/

namespace Sys2Proof.Proofs

open Sys2Proof.Machine

/-! ## Nothing changes elsewhere -/

/-- From `s` to `t` nothing has changed at other destinations than the ports `P`: no interrupt list, no path, no entry of a delivery. -/
structure Apart (P : PortId → Prop) (s t : State) : Prop where
  ears : ∀ p, ¬ P p → t.ears[p] = s.ears[p]
  paths : ∀ d : Endpoint, (∀ p, P p → d ≠ .port p) →
    (t.paths.filter fun q : Path => decide (q.ident.dst = d)) = s.paths.filter fun q => decide (q.ident.dst = d)
  entries : ∀ (j : KeyId) (x : DestEntry), (∀ p, P p → x.dest ≠ some (.port p)) → (x ∈ t.keys[j].entries ↔ x ∈ s.keys[j].entries)

theorem Apart.of_eq {P : PortId → Prop} {s t : State} (keys : t.keys = s.keys) (ears : t.ears = s.ears) (paths : t.paths = s.paths) :
    Apart P s t := ⟨fun _ _ => by rw [ears], fun _ _ => by rw [paths], fun _ _ _ => by rw [keys]⟩

theorem Apart.refl (P : PortId → Prop) (s : State) : Apart P s s := .of_eq rfl rfl rfl

theorem Apart.trans {P : PortId → Prop} {s t u : State} (h : Apart P s t) (h' : Apart P t u) : Apart P s u :=
  ⟨fun p not => (h'.ears p not).trans (h.ears p not), fun d other => (h'.paths d other).trans (h.paths d other),
    fun j x other => (h'.entries j x other).trans (h.entries j x other)⟩

theorem Apart.mono {P Q : PortId → Prop} {s t : State} (h : Apart P s t) (sub : ∀ p, P p → Q p) : Apart Q s t :=
  ⟨fun p not => h.ears p (not ∘ sub p), fun d other => h.paths d fun p is => other p (sub p is),
    fun j x other => h.entries j x fun p is => other p (sub p is)⟩

theorem Apart.mem {P : PortId → Prop} {s t : State} (h : Apart P s t) {q : Path} (other : ∀ p, P p → q.ident.dst ≠ .port p) :
    q ∈ t.paths ↔ q ∈ s.paths := by
  have same := h.paths q.ident.dst other
  constructor
  · intro mem
    exact (List.mem_filter.1 (same ▸ List.mem_filter.2 ⟨mem, decide_eq_true rfl⟩)).1
  · intro mem
    exact (List.mem_filter.1 (same.symm ▸ List.mem_filter.2 ⟨mem, decide_eq_true rfl⟩)).1

/-! ## The operations of a delivery -/

section
variable {p : PortId} (s : State)

theorem report_apart (n : Notice) : Apart (· = p) s (s.report n) := .of_eq rfl rfl rfl

theorem setEar_apart (e : Option Ear) : Apart (· = p) s (s.setEar p e) :=
  { Apart.refl _ s with ears := fun _ not => tableSet_ne s.ears e fun same => not same.symm }

theorem touchPath_apart {id : PathId} (into : id.dst = .port p) {f : Path → Path} (fixed : ∀ q, (f q).ident = q.ident) :
    Apart (· = p) s (s.touchPath id f) where
  ears _ _ := by rw [State.touchPath_ears]
  paths d other := touchPath_filter_other fixed (fun same => other p rfl (same.symm.trans into)) s
  entries _ _ _ := by rw [State.touchPath_keys]

theorem addHolder_apart {id : PathId} (into : id.dst = .port p) (h : Holder) (asked : Bool) :
    Apart (· = p) s (s.addHolder id h asked).1 where
  ears _ _ := by rw [addHolder_ears]
  paths d other := addHolder_filter_other (fun same => other p rfl (same.symm.trans into)) h asked s
  entries _ _ _ := by rw [(addHolder_same id h asked s).1]

theorem appendEntry_apart (k : KeyId) {e : DestEntry} (into : e.dest = some (.port p)) : Apart (· = p) s (s.appendEntry k e) := by
  refine { Apart.refl _ s with entries := fun j x other => ?_ }
  rw [appendEntry_key]
  split
  · rename_i same
    subst same
    rw [List.mem_append, List.mem_singleton]
    exact or_iff_left fun is => other p rfl (is ▸ into)
  · exact Iff.rfl

theorem reportStanding_apart (k : KeyId) (st : EntryStatus) : Apart (· = p) s (s.reportStanding k p st) := by
  refine { Apart.refl _ s with entries := fun j x other => ?_ }
  rw [reportStanding_key]
  split
  · rename_i same
    subst same
    have told (z : DestEntry) : (if z.dest = some (.port p) then { z with status := st } else z) = x ↔ z = x := by
      split
      · rename_i hit
        exact ⟨fun eq => absurd (eq ▸ hit) (other p rfl), fun eq => absurd (eq ▸ hit) (other p rfl)⟩
      · exact Iff.rfl
    simp only [List.mem_map, told, exists_eq_right]
  · exact Iff.rfl

theorem onKeyPath_apart (k : KeyId) {f : Path → Path} (fixed : ∀ q, (f q).ident = q.ident) :
    Apart (· = p) s (s.onKeyPath k p fun id s => s.touchPath id f) := by
  unfold State.onKeyPath
  split
  · rename_i path; exact touchPath_apart s (keyPath_dst path) fixed
  · exact .refl _ s

theorem demoteHead_apart (k : KeyId) (previous : Option TalkEntry) : Apart (· = p) s (s.demoteHead p k previous) := by
  unfold State.demoteHead
  split
  · exact .refl _ s
  · refine Apart.trans ?_ (reportStanding_apart _ _ _)
    split
    · exact .refl _ s
    · exact onKeyPath_apart s _ fun q => (Path.suspend_fixed q).2

theorem takeIn_apart (k : KeyId) (e : Ear) : Apart (· = p) s (s.takeIn p k e).1 := by
  unfold State.takeIn
  dsimp only
  split
  · exact (((setEar_apart s _).trans (report_apart _ _)).trans (demoteHead_apart _ _ _)).trans
      (onKeyPath_apart _ _ fun q => (Path.resume_fixed q).2)
  · exact (setEar_apart s _).trans (report_apart _ _)

theorem evict_apart (e : Ear) (victim : TalkEntry) : Apart (· = p) s (s.evict p e victim) :=
  (((setEar_apart s _).trans (report_apart _ _)).trans
    (onKeyPath_apart _ victim.key fun q => (Path.leave_fixed (.key victim.key) q).2)).trans (reportStanding_apart _ _ _)

theorem offer_apart (k : KeyId) : Apart (· = p) s (s.offer p k).1 := by
  unfold State.offer
  split
  · exact .refl _ s
  · split
    · exact takeIn_apart s _ _
    · split
      · exact .refl _ s
      · split
        · exact (evict_apart s _ _).trans (takeIn_apart _ _ _)
        · exact .refl _ s

theorem deliverPlain_apart (k : KeyId) {id : PathId} (into : id.dst = .port p) :
    Apart (· = p) s (s.deliverPlain k (.port p) id) :=
  (addHolder_apart s into (.key k) false).trans (appendEntry_apart _ k rfl)

theorem deliverEarpiece_apart (k : KeyId) {id : PathId} (into : id.dst = .port p) : Apart (· = p) s (s.deliverEarpiece k p id) := by
  unfold State.deliverEarpiece
  split
  · dsimp only
    split
    · exact ((offer_apart s k).trans (addHolder_apart _ into (.key k) false)).trans (appendEntry_apart _ k rfl)
    · exact ((offer_apart s k).trans (addHolder_apart _ into (.key k) true)).trans (appendEntry_apart _ k rfl)
    · exact (offer_apart s k).trans (appendEntry_apart _ k rfl)
  · exact appendEntry_apart s k rfl

/-- R69: a delivery to a port changes nothing at other destinations. -/
theorem deliverTo_apart (k : KeyId) : Apart (· = p) s (s.deliverTo k (.port p)) := by
  rw [State.deliverTo]
  split
  · exact .refl _ s
  · rename_i path
    dsimp only
    split
    · exact deliverEarpiece_apart s k (keyPath_dst path)
    · exact deliverPlain_apart s k (keyPath_dst path)

end

/-! ## What an answer depends on -/

/-- What the answer of port `p` to a key depends on is the same in `u` and in `v`. -/
structure Alike (p : PortId) (u v : State) : Prop where
  ports : v.ports = u.ports
  routes : v.routes = u.routes
  mask : v.link.mask = u.link.mask
  ear : v.ears[p] = u.ears[p]
  paths : (v.paths.filter fun q : Path => decide (q.ident.dst = .port p)) = u.paths.filter fun q => decide (q.ident.dst = .port p)
  owner : ∀ j : KeyId, v.keys[j].owner = u.keys[j].owner
  level : ∀ j : KeyId, v.keys[j].level = u.keys[j].level
  priority : ∀ j : KeyId, v.keys[j].priority = u.keys[j].priority

theorem Alike.trans {p : PortId} {u v w : State} (h : Alike p u v) (h' : Alike p v w) : Alike p u w where
  ports := h'.ports.trans h.ports
  routes := h'.routes.trans h.routes
  mask := h'.mask.trans h.mask
  ear := h'.ear.trans h.ear
  paths := h'.paths.trans h.paths
  owner j := (h'.owner j).trans (h.owner j)
  level j := (h'.level j).trans (h.level j)
  priority j := (h'.priority j).trans (h.priority j)

/-- Deliveries to other ports. -/
theorem Apart.alike {P : PortId → Prop} {s t : State} (h : Apart P s t) (run : s.sameRun t) {p : PortId} (not : ¬ P p) : Alike p s t where
  ports := run.ports
  routes := run.routes
  mask := run.link.mask
  ear := h.ears p not
  paths := h.paths _ fun q is same => not (by cases same; exact is)
  owner j := (run.key j).owner
  level j := (run.key j).level
  priority j := (run.key j).priority

section
variable {p : PortId} {u v : State} (h : Alike p u v)
include h

theorem Alike.mem {q : Path} (into : q.ident.dst = .port p) : q ∈ v.paths ↔ q ∈ u.paths := by
  have either : q ∈ (v.paths.filter fun q : Path => decide (q.ident.dst = .port p)) ↔
      q ∈ u.paths.filter fun q : Path => decide (q.ident.dst = .port p) := by rw [h.paths]
  simpa [into] using either

theorem Alike.exists_record (o : PortId) : (∃ q ∈ v.paths, q.ident = talkPath o p) ↔ ∃ q ∈ u.paths, q.ident = talkPath o p := by
  refine exists_congr fun q => ?_
  rw [and_congr_left_iff]
  exact fun ident => h.mem (by rw [ident])

theorem Alike.absent (o : PortId) : (∀ q ∈ v.paths, q.ident ≠ talkPath o p) ↔ ∀ q ∈ u.paths, q.ident ≠ talkPath o p := by
  have same := not_congr (h.exists_record o)
  push Not at same
  exact same

theorem Alike.turnsAway (k : KeyId) : v.turnsAway p k ↔ u.turnsAway p k := by
  rw [State.turnsAway, State.turnsAway, h.ear, h.priority]

theorem Alike.takesHead (k : KeyId) : v.takesHead p k ↔ u.takesHead p k := by
  rw [State.takesHead, State.takesHead, h.ear, h.priority]

theorem Alike.opensNew (k : KeyId) (o : PortId) : v.opensNew k o p ↔ u.opensNew k o p := by
  rw [State.opensNew, State.opensNew, h.absent o, h.turnsAway k, h.ports, h.paths]

theorem Alike.hasRoom (o : PortId) {m n : Nat} (records : m < 512 ↔ n < 512) :
    v.hasRoom (talkPath o p) m ↔ u.hasRoom (talkPath o p) n := by
  rw [State.hasRoom, State.hasRoom, h.exists_record o, records, h.paths]

theorem Alike.portAnswer (k : KeyId) (o : PortId) {m n : Nat} (records : m < 512 ↔ n < 512) :
    v.portAnswer k o p m = u.portAnswer k o p n := by
  simp only [State.portAnswer, h.hasRoom o records, h.turnsAway k, h.takesHead k, h.ports]

theorem Alike.loudest (id : PathId) (keys : List KeyId) (route : Bool) : v.loudest id keys route = u.loudest id keys route := by
  rw [State.loudest, State.loudest, h.routes]
  simp only [h.level]

theorem Alike.evicts (k : KeyId) (o : PortId) (j : KeyId) : v.evicts k o p j ↔ u.evicts k o p j := by
  rw [State.evicts, State.evicts, h.ear, h.ports, h.owner, h.priority]

/-- A record is the one of its identity in both. -/
theorem Alike.unique {q : Path} {id : PathId} (into : id.dst = .port p) :
    (∀ x ∈ v.paths, x.ident = id → x = q) ↔ ∀ x ∈ u.paths, x.ident = id → x = q :=
  forall_congr' fun x => ⟨fun only mem ident => only ((h.mem (by rw [ident, into])).2 mem) ident,
    fun only mem ident => only ((h.mem (by rw [ident, into])).1 mem) ident⟩

end

/-! ## What has been answered stays answered -/

/-- A notice waits, or one has been discarded. -/
def Queued (n : Notice) (l : ControlLink) : Prop := n ∈ l.notices ∨ l.overflow = true

theorem report_keeps_queued {n : Notice} {l : ControlLink} (h : Queued n l) (m : Notice) : Queued n (l.report m) := by
  unfold ControlLink.report
  split
  · exact h
  · split
    · split <;> exact h
    · split
      · exact .inr rfl
      · exact h.imp_left (List.mem_append_left _)

/-- R183, R185: a report of an enabled state kind. -/
theorem report_queued {n : Notice} {l : ControlLink} (enabled : l.enabled n = true) : Queued n (l.report n) := by
  rw [ControlLink.report, enabled, if_neg (by decide)]
  split
  · rename_i waits
    have mem : n ∈ l.notices := List.contains_iff_mem.1 (Bool.and_eq_true_iff.1 waits).2
    split <;> exact .inl mem
  · split
    · exact .inr rfl
    · exact .inl (List.mem_append_right _ (List.mem_singleton_self n))

theorem changes_queued {n : Notice} {s t : State} (h : Changes s t) (queued : Queued n s.link) : Queued n t.link := by
  induction h with
  | refl => exact queued
  | tail _ step ih =>
      cases step with
      | report m => exact report_keeps_queued ih m
      | key | group | ear => exact ih
      | touch id f fixed => rw [State.touchPath_link]; exact ih
      | create id j asked absent room => rw [State.createPath_link]; exact ih

section
variable {u v t w : State} {k : KeyId} {o p : PortId} {st : EntryStatus} {P : PortId → Prop}

theorem joins_congr (alike : Alike p u v) (apart : Apart P t w) (not : ¬ P p) (h : v.joins t k o p st) : u.joins w k o p st := by
  have other {q : Path} (ident : q.ident = talkPath o p) : ∀ p', P p' → q.ident.dst ≠ .port p' := by
    rintro p' is same
    rw [ident] at same
    cases same
    exact not is
  obtain ⟨q, mem, ident, isOpen, target, new, old⟩ := h
  refine ⟨q, (apart.mem (other ident)).2 mem, ident, isOpen, by rw [target, alike.loudest], fun none => new ((alike.absent o).2 none),
    fun q0 mem0 ident0 only => ?_⟩
  have there := old q0 ((alike.mem (by rw [ident0])).2 mem0) ident0 ((alike.unique rfl).2 only)
  simpa only [alike.evicts, alike.ports] using there

theorem displaces_congr (alike : Alike p u v) (apart : Apart P t w) (not : ¬ P p) (h : v.displaces t k o p) : u.displaces w k o p := by
  have elsewhere (p' : PortId) (is : P p') : (Endpoint.port p) ≠ .port p' := fun same => not (by cases same; exact is)
  have told {x : TalkEntry} {st : EntryStatus} (before : ∀ y ∈ t.keys[x.key].entries, y.dest = some (.port p) → y.status = st) :
      ∀ y ∈ w.keys[x.key].entries, y.dest = some (.port p) → y.status = st := fun y mem dest =>
    before y ((apart.entries x.key y fun p' is same => elsewhere p' is (Option.some.inj (dest.symm.trans same))).1 mem) dest
  have mem {q q' : Path} {ox : PortId} (ident : q.ident = talkPath ox p) (same : q'.ident = q.ident) (there : q' ∈ t.paths) :
      q' ∈ w.paths := (apart.mem (q := q') fun p' is => by rw [same, ident]; exact elsewhere p' is).2 there
  intro e ear
  obtain ⟨heads, victims⟩ := h e (alike.ear ▸ ear)
  refine ⟨fun x head takes => ?_, fun full x last other => ?_⟩
  · obtain ⟨toldHead, path⟩ := heads x head ((alike.takesHead k).2 takes)
    refine ⟨told toldHead, ?_⟩
    rintro q ⟨ox, owner, ne, there, ident, only, holds⟩ isOpen spared
    obtain ⟨q', ⟨mem', ident', still⟩, rest⟩ := path q ⟨ox, (alike.owner _).trans owner, ne, (alike.mem (by rw [ident])).2 there, ident,
      (alike.unique (by rw [ident])).2 only, holds⟩ isOpen spared
    exact ⟨q', ⟨mem ident ident' mem', ident', still⟩, rest⟩
  · obtain ⟨toldVictim, path⟩ := victims full x last other
    refine ⟨told toldVictim, ?_⟩
    rintro q ⟨ox, owner, ne, there, ident, only, holds⟩
    obtain ⟨q', ⟨mem', ident', still⟩, keys, closes, stays⟩ := path q ⟨ox, (alike.owner _).trans owner, ne,
      (alike.mem (by rw [ident])).2 there, ident, (alike.unique (by rw [ident])).2 only, holds⟩
    refine ⟨q', ⟨mem ident ident' mem', ident', still⟩, keys, closes, fun held => ?_⟩
    rw [← alike.loudest]
    exact stays held

/-- R70, R71: an answer is the same said of the state that the delivery began in, and after deliveries to other ports. -/
theorem portAnswered_congr (alike : Alike p u v) (apart : Apart P t w) (not : ¬ P p)
    (queued : Queued (.earpiece p) t.link → Queued (.earpiece p) w.link) (h : v.portAnswered t k o p st) :
    u.portAnswered w k o p st := by
  obtain ⟨admitted, denied⟩ := h
  have same := apart.paths (.port p) fun p' is same => not (by cases same; exact is)
  refine ⟨fun heard => ?_, fun why is => ?_⟩
  · obtain ⟨joined, plain, earpiece⟩ := admitted heard
    refine ⟨joins_congr alike apart not joined, fun kind => ?_, fun kind e ear wf => ?_⟩
    · rw [apart.ears p not, plain (by rw [alike.ports]; exact kind), alike.ear]
    · obtain ⟨list, displaced, notice⟩ := earpiece (by rw [alike.ports]; exact kind) e (alike.ear ▸ ear) wf
      exact ⟨by rw [apart.ears p not, list, alike.priority], displaces_congr alike apart not displaced,
        fun enabled => queued (notice (by rw [alike.mask]; exact enabled))⟩
  · obtain ⟨ear, paths⟩ := denied why is
    exact ⟨(apart.ears p not).trans (ear.trans alike.ear), same.trans (paths.trans alike.paths)⟩

end

end Sys2Proof.Proofs
end

section
/-! PROOFS. A key is admitted to an interrupt list (6.2): the eviction, the entry, the head that it displaces, and its own path. -/

namespace Sys2Proof.Proofs

open Sys2Proof.Machine

/-! ## The list (R100, R101) -/

/-- R101: an entry goes to the head of a list exactly where the list is empty or its head has a lower priority. -/
theorem placeEntry_head {x : TalkEntry} {es : List TalkEntry} (new : x ∉ es) :
    (placeEntry x es).head? = some x ↔ ∀ h ∈ es.head?, h.priority < x.priority := by
  cases es with
  | nil => simp [placeEntry]
  | cons y ys =>
      by_cases behind : x.priority ≤ y.priority
      · have ne : y ≠ x := fun same => new (same ▸ List.mem_cons_self)
        simp [placeEntry, behind, ne]
      · simp [placeEntry, behind, Nat.lt_of_not_le behind]

/-- R100, R101: in a list in order of priority, an entry is placed behind every entry of equal or higher priority. -/
theorem placeEntry_eq_filter (x : TalkEntry) {es : List TalkEntry} (sorted : es.Pairwise fun a b => b.priority ≤ a.priority) :
    placeEntry x es = es.filter (fun y => decide (x.priority ≤ y.priority)) ++ x ::
      es.filter fun y => !decide (x.priority ≤ y.priority) := by
  induction es with
  | nil => rfl
  | cons y ys ih =>
      obtain ⟨first, rest⟩ := List.pairwise_cons.1 sorted
      by_cases behind : x.priority ≤ y.priority
      · have ih := ih rest
        unfold placeEntry at ih ⊢
        simp only [behind, decide_true, List.takeWhile_cons_of_pos, List.dropWhile_cons_of_pos, List.filter_cons_of_pos,
          Bool.not_true, Bool.false_eq_true, not_false_eq_true, List.filter_cons_of_neg, List.cons_append, ih]
      · have lower (z : TalkEntry) (mem : z ∈ y :: ys) : ¬ x.priority ≤ z.priority := by
          rcases List.mem_cons.1 mem with rfl | mem
          · exact behind
          · have := first z mem; omega
        have none : (y :: ys).filter (fun z => decide (x.priority ≤ z.priority)) = [] :=
          List.filter_eq_nil_iff.2 fun z mem => by simpa using lower z mem
        have all : (y :: ys).filter (fun z => !decide (x.priority ≤ z.priority)) = y :: ys :=
          List.filter_eq_self.2 fun z mem => by simpa using lower z mem
        rw [none, all]
        simp [placeEntry, behind]

/-- R102: the entry that an admission to the list evicts, and the list that is left. -/
def victimOf (e : Ear) : Option TalkEntry := if e.entries.length < 4 then none else e.entries.getLast?
def keptList (e : Ear) : Ear := if e.entries.length < 4 then e else e.lessLast

theorem victimOf_of_full {e : Ear} (full : 4 ≤ e.entries.length) : victimOf e = e.entries.getLast? := if_neg (Nat.not_lt_of_le full)

theorem victimOf_eq_some {e : Ear} {x : TalkEntry} (victim : victimOf e = some x) :
    4 ≤ e.entries.length ∧ e.entries.getLast? = some x ∧ x ∈ e.entries := by
  unfold victimOf at victim
  split at victim
  · cases victim
  · rename_i full
    exact ⟨Nat.le_of_not_lt full, victim, List.mem_of_getLast? victim⟩

theorem keptList_head (e : Ear) : (keptList e).entries.head? = e.entries.head? := by
  unfold keptList Ear.lessLast
  split
  · rfl
  · rw [List.head?_take, if_neg (by decide)]

theorem keptList_sub (e : Ear) : (keptList e).entries.Sublist e.entries := by
  unfold keptList Ear.lessLast
  split
  · exact .refl _
  · exact List.take_sublist _ _

theorem keptList_count (e : Ear) : (keptList e).count = e.count := by
  unfold keptList Ear.lessLast
  split <;> rfl

theorem keptList_entries {e : Ear} (wf : e.wf) :
    (keptList e).entries = if e.entries.length = 4 then e.entries.take 3 else e.entries := by
  have most := wf.1
  unfold keptList Ear.lessLast
  split
  · rw [if_neg (by omega)]
  · rw [if_pos (by omega)]
    rfl

/-- R101: the list that has taken a key in. -/
def withEntry (s : State) (p : PortId) (k : KeyId) (e : Ear) : Ear :=
  ⟨placeEntry ⟨k, s.keys[k].priority, e.count + 1⟩ e.entries, e.count + 1,
    if e.entries.isEmpty then e.dip.aim (s.dipDepth p) else e.dip⟩

theorem withEntry_entries {s : State} {p : PortId} {k : KeyId} {e : Ear} (wf : e.wf) :
    (withEntry s p k (keptList e)).entries = e.entriesWith k s.keys[k].priority := by
  have sorted : (keptList e).entries.Pairwise fun a b => b.priority ≤ a.priority := wf.2.sublist (keptList_sub e)
  rw [withEntry]
  dsimp only
  rw [placeEntry_eq_filter _ sorted, keptList_count, keptList_entries wf]
  rfl

/-! ## The steps of an admission -/

/-- R102: room is made in the list. -/
def makesRoom (p : PortId) (e : Ear) (s : State) : State :=
  match victimOf e with
  | none => s
  | some x => s.evict p e x

/-- R101, R113: the key is entered in the list. -/
def entered (p : PortId) (k : KeyId) (e : Ear) (s : State) : State :=
  (s.setEar p (some (withEntry s p k e))).report (.earpiece p)

/-- R103: the key displaces the head. -/
def displacesHead (p : PortId) (k : KeyId) (head : Option TalkEntry) (s : State) : State :=
  (s.demoteHead p k head).onKeyPath k p State.resumePath

/-- R101 to R104: the list has taken the key in, its path not yet held. -/
def admitted (p : PortId) (k : KeyId) (e : Ear) (s : State) : State :=
  if s.takesHead p k then displacesHead p k e.entries.head? (entered p k (keptList e) (makesRoom p e s))
  else entered p k (keptList e) (makesRoom p e s)

/-- R103, R104: how an admitted key stands. -/
def standing (s : State) (p : PortId) (k : KeyId) : EntryStatus := if s.takesHead p k then .live else .heldBack

theorem makesRoom_changes {p : PortId} {e : Ear} {s : State} (ear : s.ears[p] = some e) : Changes s (makesRoom p e s) := by
  unfold makesRoom
  split
  · exact .refl s
  · exact State.evict_changes p e _ s ear

theorem makesRoom_ears {p : PortId} {e : Ear} {s : State} (ear : s.ears[p] = some e) :
    (makesRoom p e s).ears[p] = some (keptList e) := by
  unfold makesRoom keptList
  split
  · rename_i none
    unfold victimOf at none
    split
    · exact ear
    · rename_i full
      rw [if_neg full] at none
      rw [List.getLast?_eq_none_iff.1 none] at full
      exact absurd (by decide) full
  · rename_i x victim
    rw [State.evict_ears, tableSet_self, if_neg (Nat.not_lt_of_le (victimOf_eq_some victim).1)]

theorem keptList_room (e : Ear) : (keptList e).entries.length < 4 := by
  unfold keptList
  split
  · assumption
  · exact e.lessLast_length

/-- R101, R103: an entry taken into a list that has room. -/
theorem takeIn_eq {s : State} {p : PortId} {k : KeyId} {e : Ear} (unlisted : ∀ x ∈ e.entries, x.key ≠ k) : s.takeIn p k e =
    if ∀ h ∈ e.entries.head?, h.priority < s.keys[k].priority then (displacesHead p k e.entries.head? (entered p k e s), .live)
    else (entered p k e s, .heldBack) := by
  have new : (⟨k, s.keys[k].priority, e.count + 1⟩ : TalkEntry) ∉ e.entries := fun mem => unlisted _ mem rfl
  rw [State.takeIn]
  simp only [placeEntry_head new]
  rfl

/-- R101, R102: an offer to a list. -/
theorem offer_eq {s : State} {p : PortId} {e : Ear} (ear : s.ears[p] = some e) (k : KeyId) : s.offer p k =
    if e.entries.length < 4 then s.takeIn p k e
    else match e.entries.getLast? with
      | none => (s, .listFull)
      | some x => if x.priority < s.keys[k].priority then (s.evict p e x).takeIn p k e.lessLast else (s, .listFull) := by
  rw [State.offer, ear]
  rfl

/-- R101, R102: an offer that is not turned away. -/
theorem offer_admits {s : State} {p : PortId} {k : KeyId} {e : Ear} (ear : s.ears[p] = some e) (unlisted : ∀ x ∈ e.entries, x.key ≠ k)
    (stays : ¬ s.turnsAway p k) : s.offer p k = (admitted p k e s, if s.takesHead p k then .live else .heldBack) := by
  have taken : (makesRoom p e s).takeIn p k (keptList e) = (admitted p k e s, if s.takesHead p k then .live else .heldBack) := by
    have priority := ((makesRoom_changes ear).sameRun.key k).priority
    have leads : (∀ h ∈ (keptList e).entries.head?, h.priority < (makesRoom p e s).keys[k].priority) ↔ s.takesHead p k := by
      rw [keptList_head, priority, State.takesHead, ear]
      simp
    rw [takeIn_eq fun x mem => unlisted x ((keptList_sub e).subset mem), admitted, keptList_head]
    rw [keptList_head] at leads
    simp only [leads]
    split <;> rfl
  rw [← taken, offer_eq ear]
  by_cases room : e.entries.length < 4
  · rw [if_pos room, makesRoom, victimOf, keptList, if_pos room, if_pos room]
  · rw [if_neg room, makesRoom, victimOf, keptList, if_neg room, if_neg room]
    cases last : e.entries.getLast? with
    | none =>
        rw [List.getLast?_eq_none_iff.1 last] at room
        exact absurd (by decide) room
    | some x =>
        refine if_pos (Nat.lt_of_not_le fun higher => stays fun e' ear' => ?_)
        cases Option.some.inj (ear.symm.trans ear')
        exact ⟨Nat.le_of_not_lt room, x, last, higher⟩

/-- R102: an offer to a full list of entries of equal or higher priority. -/
theorem offer_turnsAway {s : State} {p : PortId} {k : KeyId} (away : s.turnsAway p k) : s.offer p k = (s, .listFull) := by
  cases ear : s.ears[p] with
  | none => rw [State.offer, ear]
  | some e =>
      obtain ⟨full, x, last, higher⟩ := away e ear
      rw [Option.mem_def] at last
      rw [offer_eq ear, if_neg (Nat.not_lt_of_le full), last]
      exact if_neg (Nat.not_lt_of_le higher)

/-! ## What the steps leave -/

theorem evict_within (p : PortId) (e : Ear) (x : TalkEntry) (s : State) : Within p s (s.evict p e x) :=
  (((setEar_within p _ s).trans (report_within p _ _)).trans
    (onKeyPath_within (fun q => (Path.leave_fixed (.key x.key) q).2) _)).trans (reportStanding_within _ _ _ _)

theorem makesRoom_within (p : PortId) (e : Ear) (s : State) : Within p s (makesRoom p e s) := by
  unfold makesRoom
  split
  · exact .refl p s
  · exact evict_within p e _ s

theorem entered_within (p : PortId) (k : KeyId) (e : Ear) (s : State) : Within p s (entered p k e s) :=
  (setEar_within p _ s).trans (report_within p _ _)

theorem demoteHead_within (p : PortId) (k : KeyId) (head : Option TalkEntry) (s : State) : Within p s (s.demoteHead p k head) := by
  unfold State.demoteHead
  split
  · exact .refl p s
  · refine Within.trans ?_ (reportStanding_within _ _ _ _)
    split
    · exact .refl p s
    · exact onKeyPath_within (fun q => (Path.suspend_fixed q).2) s

theorem displacesHead_within (p : PortId) (k : KeyId) (head : Option TalkEntry) (s : State) :
    Within p s (displacesHead p k head s) :=
  (demoteHead_within p k head s).trans (onKeyPath_within (fun q => (Path.resume_fixed q).2) _)

theorem admitted_within (p : PortId) (k : KeyId) (e : Ear) (s : State) : Within p s (admitted p k e s) := by
  have first := (makesRoom_within p e s).trans (entered_within p k (keptList e) _)
  unfold admitted
  split
  · exact first.trans (displacesHead_within p k _ _)
  · exact first

/-- R24: whether there is room for a record depends on the identities in the table. -/
theorem roomForNew_of_idents {s t : State} (idents : t.paths.map Path.ident = s.paths.map Path.ident) (id : PathId) :
    t.roomForNew id = s.roomForNew id := by
  have count (ps : List Path) : (ps.filter fun q : Path => decide (q.ident.dst = id.dst)).length =
      ((ps.map Path.ident).filter fun i : PathId => decide (i.dst = id.dst)).length := by
    rw [List.filter_map, List.length_map]
    rfl
  have records : t.paths.length = s.paths.length := by simpa using congrArg List.length idents
  rw [State.roomForNew, State.roomForNew, State.pathsInto, State.pathsInto, count, count, idents, records]

section
variable {s : State} {p o : PortId} {k : KeyId} {e : Ear}

theorem admitted_run (ear : s.ears[p] = some e) (unlisted : ∀ x ∈ e.entries, x.key ≠ k) (stays : ¬ s.turnsAway p k) :
    Changes s (admitted p k e s) := by
  have offered := State.offer_changes p k s
  rwa [offer_admits ear unlisted stays] at offered

/-- R102, R27: the record of an owner's path once room has been made. -/
def evictedFrom (s : State) (victim : Option TalkEntry) (o : PortId) (q : Path) : Path :=
  match victim with
  | none => q
  | some x => if s.keys[x.key].owner = some o then withoutKey s x.key q else q

/-- R103, R31: the record of an owner's path once the head has been displaced. -/
def suspendedFor (s : State) (head : Option TalkEntry) (o : PortId) (q : Path) : Path :=
  if headOwner s head = some o then aimedAfter s Path.suspend q else q

theorem suspendedFor_none (s : State) (o : PortId) (q : Path) : suspendedFor s none o q = q := if_neg fun is => by cases is

/-- What an operation on the path of a key makes of the record of an owner's path into that port. -/
theorem findPath_onKeyPath {f : Path → Path} (fixed : ∀ q, (f q).ident = q.ident) (j : KeyId) (o : PortId) (s : State) :
    (s.onKeyPath j p fun id s => s.touchPath id f).findPath (talkPath o p) =
      (s.findPath (talkPath o p)).map fun q => if s.keys[j].owner = some o then aimedAfter s f q else q := by
  cases owner : s.keys[j].owner with
  | none =>
      rw [onKeyPath_of_none owner]
      simp
  | some o' =>
      rw [onKeyPath_of_owner owner]
      by_cases same : o' = o
      · subst same
        rw [findPath_touchPath fixed]
        simp
      · rw [findPath_touchPath_other fixed fun eq => same (by cases eq; rfl)]
        simp [same]

theorem findPath_makesRoom (o : PortId) (s : State) :
    (makesRoom p e s).findPath (talkPath o p) = (s.findPath (talkPath o p)).map (evictedFrom s (victimOf e) o) := by
  unfold makesRoom
  split
  · rename_i none
    rw [none]
    exact (congrFun Option.map_id _).symm
  · rename_i x victim
    rw [victim]
    exact findPath_onKeyPath (fun q => (Path.leave_fixed (.key x.key) q).2) x.key o
      ((s.setEar p (some e.lessLast)).report (.earpiece p))

theorem findPath_entered (k : KeyId) (e' : Ear) (o : PortId) (s : State) : (entered p k e' (makesRoom p e s)).findPath (talkPath o p) =
    (s.findPath (talkPath o p)).map (evictedFrom s (victimOf e) o) := findPath_makesRoom o s

theorem findPath_demoteHead {head : Option TalkEntry} (owner : s.keys[k].owner = some o) (o' : PortId) :
    (s.demoteHead p k head).findPath (talkPath o' p) =
      (s.findPath (talkPath o' p)).map fun q => if o' = o then q else suspendedFor s head o' q := by
  have path : s.keyPath k (.port p) = some (talkPath o p) := by rw [State.keyPath, owner]; rfl
  cases head with
  | none =>
      have same : (fun q => if o' = o then q else suspendedFor s none o' q) = id := funext fun q => by
        rw [suspendedFor_none, ite_self, id]
      rw [same, Option.map_id]
      rfl
  | some h =>
      change State.findPath (if s.keyPath h.key (.port p) = s.keyPath k (.port p) then s
        else s.onKeyPath h.key p fun id s => s.touchPath id Path.suspend) (talkPath o' p) = _
      have shared : s.keyPath h.key (.port p) = s.keyPath k (.port p) ↔ s.keys[h.key].owner = some o := by
        rw [← owner]
        exact headPath_eq_iff s k p (some h)
      by_cases own : s.keys[h.key].owner = some o
      · rw [if_pos (shared.2 own)]
        have same : (fun q => if o' = o then q else suspendedFor s (some h) o' q) = id := funext fun q => by
          split
          · rfl
          · rename_i other
            exact if_neg fun is => other (Option.some.inj (is.symm.trans own))
        rw [same, Option.map_id]
        rfl
      · rw [if_neg (own ∘ shared.1), findPath_onKeyPath (fun q => (Path.suspend_fixed q).2)]
        refine congrArg (Option.map · _) (funext fun q => ?_)
        by_cases same : o' = o
        · rw [if_pos same, if_neg (same ▸ own)]
        · rw [if_neg same]
          rfl

end

/-- The same keys and routes aim a record alike. -/
theorem aimedAfter_of_run {v w : State} (run : v.sameRun w) (f : Path → Path) (q : Path) : aimedAfter w f q = aimedAfter v f q := by
  rw [aimedAfter, aimedAfter, targetOf_of_same (fun j => (run.key j).level) (by rw [run.routes])]

theorem headOwner_of_run {v w : State} (run : v.sameRun w) (head : Option TalkEntry) : headOwner w head = headOwner v head := by
  cases head with
  | none => rfl
  | some h => exact (run.key h.key).owner

theorem suspendedFor_of_run {v w : State} (run : v.sameRun w) (head : Option TalkEntry) (o : PortId) (q : Path) :
    suspendedFor w head o q = suspendedFor v head o q := by
  rw [suspendedFor, suspendedFor, headOwner_of_run run, aimedAfter_of_run run]

theorem entered_run (p : PortId) (k : KeyId) {e e0 : Ear} {s : State} (ear : s.ears[p] = some e0) (wf : e0.wf → (withEntry s p k e).wf) :
    Changes s (entered p k e s) :=
  (Change.ear p e0 _ ear wf).all.then (.report _)

section
variable {s : State} {p o : PortId} {k : KeyId} {e : Ear} (ear : s.ears[p] = some e) (owner : s.keys[k].owner = some o)
include ear

theorem entered_sameRun : s.sameRun (entered p k (keptList e) (makesRoom p e s)) :=
  ((makesRoom_changes ear).trans (entered_run p k (makesRoom_ears ear) fun wf =>
    ⟨by rw [withEntry, placeEntry_length]; exact keptList_room e, placeEntry_wf _ wf.2⟩)).sameRun

include owner

/-- R102, R103: what an admission makes of the record of the key's own path. -/
theorem findPath_admitted_own : (admitted p k e s).findPath (talkPath o p) = (s.findPath (talkPath o p)).map fun q =>
    if s.takesHead p k then aimedAfter s Path.resume (evictedFrom s (victimOf e) o q) else evictedFrom s (victimOf e) o q := by
  have run := entered_sameRun (k := k) ear
  unfold admitted
  split
  · generalize eq : entered p k (keptList e) (makesRoom p e s) = r at run
    have owner' : r.keys[k].owner = some o := (run.key k).owner.trans owner
    have found := eq ▸ findPath_entered k (keptList e) o s
    have demoted := (demoteHead_within p k e.entries.head? r).steady
    have steady := (State.demoteHead_changes p k e.entries.head? r).sameRun
    have still : (r.demoteHead p k e.entries.head?).keys[k].owner = some o := by rw [demoted.record, owner']
    rw [displacesHead]
    change State.findPath ((r.demoteHead p k e.entries.head?).onKeyPath k p fun id s => s.touchPath id Path.resume) _ = _
    rw [findPath_onKeyPath (fun q => (Path.resume_fixed q).2), findPath_demoteHead owner', found, Option.map_map, Option.map_map]
    refine congrArg (Option.map · _) (funext fun q => ?_)
    simp only [Function.comp_apply, if_true, if_pos still, aimedAfter_of_run (run.trans steady)]
  · exact findPath_entered k (keptList e) o s

/-- R102, R103: what an admission makes of the record of another owner's path. -/
theorem findPath_admitted_other {o' : PortId} (other : o' ≠ o) : (admitted p k e s).findPath (talkPath o' p) =
    (s.findPath (talkPath o' p)).map fun q =>
      if s.takesHead p k then suspendedFor s e.entries.head? o' (evictedFrom s (victimOf e) o' q) else evictedFrom s (victimOf e) o' q := by
  have run := entered_sameRun (k := k) ear
  unfold admitted
  split
  · generalize eq : entered p k (keptList e) (makesRoom p e s) = r at run
    have owner' : r.keys[k].owner = some o := (run.key k).owner.trans owner
    have found := eq ▸ findPath_entered k (keptList e) o' s
    have demoted := (demoteHead_within p k e.entries.head? r).steady
    have still : (r.demoteHead p k e.entries.head?).keys[k].owner = some o := by rw [demoted.record, owner']
    rw [displacesHead]
    change State.findPath ((r.demoteHead p k e.entries.head?).onKeyPath k p fun id s => s.touchPath id Path.resume) _ = _
    rw [findPath_onKeyPath (fun q => (Path.resume_fixed q).2), findPath_demoteHead owner', found, Option.map_map, Option.map_map]
    refine congrArg (Option.map · _) (funext fun q => ?_)
    simp only [Function.comp_apply, if_neg other, still, Option.some.injEq, Ne.symm other, if_false, suspendedFor_of_run run]
  · exact findPath_entered k (keptList e) o' s

end

end Sys2Proof.Proofs
end

section
/-! PROOFS. One destination of a delivery (4.4, 6.2): what a port answers, and what its answer leaves there. -/

namespace Sys2Proof.Proofs

open Sys2Proof.Machine

/-! ## What the displaced keys are told (R74) -/

/-- Every entry of key `j` for port `p` has the status `st`. -/
def ToldAt (p : PortId) (j : KeyId) (st : EntryStatus) (s : State) : Prop :=
  ∀ y ∈ s.keys[j].entries, y.dest = some (.port p) → y.status = st

theorem toldAt_of_entries {p : PortId} {j : KeyId} {st : EntryStatus} {s t : State} (same : t.keys[j].entries = s.keys[j].entries)
    (h : ToldAt p j st s) : ToldAt p j st t := by
  rw [ToldAt, same]
  exact h

theorem reportStanding_told (p : PortId) (j : KeyId) (st : EntryStatus) (s : State) : ToldAt p j st (s.reportStanding j p st) := by
  intro y mem dest
  rw [reportStanding_key, if_pos rfl] at mem
  obtain ⟨z, -, rfl⟩ := List.mem_map.1 mem
  split
  · rfl
  · rename_i miss
    exact absurd (by rwa [if_neg miss] at dest) miss

theorem reportStanding_other {p : PortId} {j i : KeyId} (other : i ≠ j) (st : EntryStatus) (s : State) :
    (s.reportStanding i p st).keys[j].entries = s.keys[j].entries := by rw [reportStanding_key, if_neg other]

theorem onKeyPath_keys (i : KeyId) (p : PortId) (f : Path → Path) (s : State) :
    (s.onKeyPath i p fun id s => s.touchPath id f).keys = s.keys := by
  unfold State.onKeyPath
  split
  · rw [State.touchPath_keys]
  · rfl

/-- R103: nobody but the head is told anything. -/
theorem demoteHead_entries {p : PortId} {k j : KeyId} {head : Option TalkEntry} (other : ∀ h ∈ head, h.key ≠ j) (s : State) :
    (s.demoteHead p k head).keys[j].entries = s.keys[j].entries := by
  cases head with
  | none => rfl
  | some h =>
      rw [State.demoteHead, reportStanding_other (other h rfl)]
      split
      · rfl
      · exact congrArg (fun keys => keys[j].entries) (onKeyPath_keys h.key p Path.suspend s)

theorem displacesHead_entries {p : PortId} {k j : KeyId} {head : Option TalkEntry} (other : ∀ h ∈ head, h.key ≠ j) (s : State) :
    (displacesHead p k head s).keys[j].entries = s.keys[j].entries :=
  (congrArg (fun keys => keys[j].entries) (onKeyPath_keys k p Path.resume _)).trans (demoteHead_entries other s)

theorem displacesHead_told (p : PortId) (k : KeyId) (h : TalkEntry) (s : State) :
    ToldAt p h.key .heldBack (displacesHead p k (some h) s) :=
  toldAt_of_entries (congrArg (fun keys => keys[h.key].entries) (onKeyPath_keys k p Path.resume _))
    (reportStanding_told p h.key .heldBack _)

theorem makesRoom_entries {p : PortId} {e : Ear} {j : KeyId} (other : ∀ x ∈ victimOf e, x.key ≠ j) (s : State) :
    (makesRoom p e s).keys[j].entries = s.keys[j].entries := by
  unfold makesRoom
  split
  · rfl
  · rename_i x victim
    rw [State.evict, reportStanding_other (other x victim)]
    exact congrArg (fun keys => keys[j].entries) (onKeyPath_keys x.key p (Path.leave (.key x.key)) _)

theorem makesRoom_told {p : PortId} {e : Ear} {x : TalkEntry} (victim : victimOf e = some x) (s : State) :
    ToldAt p x.key (.denied .listFull) (makesRoom p e s) := by
  rw [makesRoom, victim]
  exact reportStanding_told p x.key _ _

section
variable {s : State} {p : PortId} {k : KeyId} {e : Ear}

/-- R103: the head that the key displaces is told that it is held back. -/
theorem admitted_toldHead {h : TalkEntry} (head : e.entries.head? = some h) (takes : s.takesHead p k) :
    ToldAt p h.key .heldBack (admitted p k e s) := by
  rw [admitted, if_pos takes, head]
  exact displacesHead_told p k h _

/-- R102: the evicted key is told that the list is full. -/
theorem admitted_toldVictim {x : TalkEntry} (victim : victimOf e = some x) (other : ∀ h ∈ e.entries.head?, h.key ≠ x.key) :
    ToldAt p x.key (.denied .listFull) (admitted p k e s) := by
  have told : ToldAt p x.key (.denied .listFull) (entered p k (keptList e) (makesRoom p e s)) := makesRoom_told victim s
  unfold admitted
  split
  · exact toldAt_of_entries (displacesHead_entries other _) told
  · exact told

/-- A key that is in no list is told nothing. -/
theorem admitted_entries {j : KeyId} (unlisted : ∀ x ∈ e.entries, x.key ≠ j) :
    (admitted p k e s).keys[j].entries = s.keys[j].entries := by
  have room : (entered p k (keptList e) (makesRoom p e s)).keys[j].entries = s.keys[j].entries :=
    makesRoom_entries (fun x victim => unlisted x (victimOf_eq_some victim).2.2) s
  unfold admitted
  split
  · exact (displacesHead_entries (fun h head => unlisted h (List.mem_of_head? head)) _).trans room
  · exact room

/-- R101: the list that is left. -/
theorem admitted_ear : (admitted p k e s).ears[p] = some (withEntry (makesRoom p e s) p k (keptList e)) := by
  have listed : (entered p k (keptList e) (makesRoom p e s)).ears[p] = some (withEntry (makesRoom p e s) p k (keptList e)) :=
    tableSet_self _ _ _
  have displaced (r : State) : (displacesHead p k e.entries.head? r).ears = r.ears := by
    rw [← demoteHead_ears p k e.entries.head? r, displacesHead]
    unfold State.onKeyPath State.resumePath
    split
    · rw [State.touchPath_ears]
    · rfl
  unfold admitted
  split
  · exact (congrArg (·[p]) (displaced _)).trans listed
  · exact listed

/-- R113: the EARPIECE notice. -/
theorem admitted_queued (ear : s.ears[p] = some e) (enabled : s.link.mask.getLsbD 1 = true) :
    Queued (.earpiece p) (admitted p k e s).link := by
  have mask : ((makesRoom p e s).setEar p (some (withEntry (makesRoom p e s) p k (keptList e)))).link.enabled (.earpiece p) = true := by
    rw [ControlLink.enabled, State.setEar_link, (makesRoom_changes ear).sameRun.link.mask]
    exact enabled
  have queued : Queued (.earpiece p) (entered p k (keptList e) (makesRoom p e s)).link := report_queued mask
  unfold admitted
  split
  · exact changes_queued ((State.demoteHead_changes _ _ _ _).trans
      (State.onKeyPath_changes _ _ _ (fun id s => s.resumePath_changes id) _)) queued
  · exact queued

end

/-! ## The paths (R24 to R28, R31, R33) -/

/-- R31: the record of a displaced head's path. -/
theorem suspended_flags (v : State) {q : Path} {j : KeyId} (holds : j ∈ q.keys) (isOpen : q.closing = false) :
    (aimedAfter v Path.suspend q).keys = q.keys ∧ (aimedAfter v Path.suspend q).closing = false ∧
      (q.route = false → (aimedAfter v Path.suspend q).suspended = true ∧ (aimedAfter v Path.suspend q).target = 0) ∧
      (q.route = true → (aimedAfter v Path.suspend q).suspended = q.suspended) := by
  have suspended : (aimedAfter v Path.suspend q).suspended = (q.suspended || (!q.closing && !q.route)) := by
    rw [aimedAfter_suspended, suspend_eq (List.ne_nil_of_mem holds)]
  rw [isOpen] at suspended
  refine ⟨(aimedAfter_keys _ _ _).trans (suspend_keys q), by rw [aimedAfter_closing, suspend_closing, isOpen], fun route => ?_,
    fun route => ?_⟩
  · have is : (aimedAfter v Path.suspend q).suspended = true := by rw [suspended, route, Bool.not_false, Bool.and_self, Bool.or_true]
    refine ⟨is, ?_⟩
    have aimed : (aimedAfter v Path.suspend q).target = v.targetOf (aimedAfter v Path.suspend q) := aimedAfter_aimed _ _ _
    rw [aimed, State.targetOf, if_pos (.inl is)]
  · rw [suspended, route, Bool.not_true, Bool.and_false, Bool.or_false]

/-- R102: the keys that an admission evicts from the key's own path. -/
theorem evicts_iff {v : State} {k : KeyId} {o p : PortId} {e : Ear} (ear : v.ears[p] = some e) (kind : v.ports[p].kind = .earpiece)
    (stays : ¬ v.turnsAway p k) (j : KeyId) : v.evicts k o p j ↔ ∃ x, victimOf e = some x ∧ x.key = j ∧ v.keys[j].owner = some o := by
  constructor
  · rintro ⟨-, owner, e', ear', full, x, last, key, -⟩
    cases Option.some.inj (ear.symm.trans ear')
    exact ⟨x, (victimOf_of_full full).trans last, key, owner⟩
  · rintro ⟨x, victim, key, owner⟩
    obtain ⟨full, last, -⟩ := victimOf_eq_some victim
    refine ⟨kind, owner, e, ear, full, x, last, key, Nat.lt_of_not_le fun higher => stays fun e' ear' => ?_⟩
    cases Option.some.inj (ear.symm.trans ear')
    exact ⟨full, x, last, higher⟩

/-- R102, R103: the key's own path has been made ready for it. -/
theorem admitted_readied {v : State} {k : KeyId} {o p : PortId} {e : Ear} (ear : v.ears[p] = some e)
    (owner : v.keys[k].owner = some o) (kind : v.ports[p].kind = .earpiece) (stays : ¬ v.turnsAway p k) {q0 : Path} (found : v.findPath (talkPath o p) = some q0) : ∃ q, (admitted p k e v).findPath (talkPath o p) = some q ∧
      Readied (v.evicts k o p) (decide (standing v p k = .live ∧ v.ports[p].kind = .earpiece)) q0 q := by
  have left : Readied (v.evicts k o p) false q0 (evictedFrom v (victimOf e) o q0) := by
    have gone := evicts_iff (o := o) ear kind stays
    unfold evictedFrom
    split
    · rename_i none
      exact readied_refl (fun j is => by
        obtain ⟨x, victim, -⟩ := (gone j).1 is
        exact Option.some_ne_none x (victim.symm.trans none)) q0
    · rename_i x victim
      split
      · rename_i same
        refine withoutKey_readied (fun j => (gone j).trans ⟨fun ⟨y, victim', key, _⟩ => ?_, fun is => ?_⟩) v q0
        · rw [← key, Option.some.inj (victim'.symm.trans victim)]
        · exact ⟨x, victim, is.symm, is ▸ same⟩
      · rename_i other
        refine readied_refl (fun j is => ?_) q0
        obtain ⟨y, victim', key, owner'⟩ := (gone j).1 is
        cases Option.some.inj (victim'.symm.trans victim)
        exact other (key ▸ owner')
  have own := findPath_admitted_own ear owner
  rw [found, Option.map_some] at own
  refine ⟨_, own, ?_⟩
  by_cases takes : v.takesHead p k
  · rw [if_pos takes, show decide (standing v p k = .live ∧ v.ports[p].kind = .earpiece) = true from
      decide_eq_true ⟨if_pos takes, kind⟩]
    exact left.resumed v
  · rw [if_neg takes, show decide (standing v p k = .live ∧ v.ports[p].kind = .earpiece) = false from
      decide_eq_false fun both => by have := both.1; rw [standing, if_neg takes] at this; cases this]
    exact left

/-- R102: the path of the evicted key, whatever else has become of it. -/
theorem evicted_flags (v : State) {q : Path} {x : KeyId} (holds : x ∈ q.keys) {q' : Path}
    (made : q' = withoutKey v x q ∨ q' = aimedAfter v Path.suspend (withoutKey v x q)) :
    Still q q' ∧ q'.keys = q.keys.filter (fun j : KeyId => decide (j ≠ x)) ∧
      (q'.keys = [] → q.route = false → q'.closing = true ∧ q'.suspended = false ∧ q'.target = 0) ∧
      (q'.keys ≠ [] ∨ q.route = true → q'.closing = q.closing ∧
        q'.target = if q'.suspended = true ∨ q'.closing = true then 0 else v.loudest q.ident q'.keys q.route) := by
  have left := withoutKey_still v x q
  have keys := withoutKey_keys v x q
  obtain ⟨closes, stays⟩ := withoutKey_flags v holds
  have still : Still q q' := by
    rcases made with rfl | rfl
    · exact left
    · exact left.trans ((suspend_still _).aimed v)
  have keys' : q'.keys = (withoutKey v x q).keys := by
    rcases made with rfl | rfl
    · rfl
    · rw [aimedAfter_keys, suspend_keys]
  have closing' : q'.closing = (withoutKey v x q).closing := by
    rcases made with rfl | rfl
    · rfl
    · rw [aimedAfter_closing, suspend_closing]
  have aimed : q'.target = v.targetOf q' := by
    rcases made with rfl | rfl <;> exact aimedAfter_aimed _ _ _
  refine ⟨still, keys'.trans keys, fun none route => ?_, fun held => ?_⟩
  · obtain ⟨closing, suspended⟩ := closes ⟨keys' ▸ none, route⟩
    have suspended' : q'.suspended = false := by
      rcases made with rfl | rfl
      · exact suspended
      · rw [aimedAfter_suspended, Path.suspend, if_neg (by simp [closing]), suspended]
    refine ⟨closing'.trans closing, suspended', ?_⟩
    rw [aimed, State.targetOf, if_pos (.inr (closing'.trans closing))]
  · have remains : ¬ ((withoutKey v x q).keys = [] ∧ q.route = false) := fun none => by
      rcases held with held | route
      · exact held (keys'.trans none.1)
      · rw [route] at none; cases none.2
    refine ⟨closing'.trans (stays remains).1, ?_⟩
    rw [aimed, State.targetOf, still.ident, still.route]

/-! ## The answers (R70, R71) -/

/-- R70, R71: what port `p` answers to key `k` of owner `o`, and what the delivery then leaves. -/
inductive PortStep (v : State) (k : KeyId) (o p : PortId) : EntryStatus → State → Prop where
  | denies (why : DenyReason) (closed : ¬ (v.opensNew k o p ∧ v.paths.length < 512)) :
      PortStep v k o p (.denied why) (v.appendEntry k ⟨some (.port p), .denied why⟩)
  | opens (plain : v.ports[p].kind ≠ .earpiece) (room : v.hasRoom (talkPath o p) v.paths.length) :
      PortStep v k o p .live ((v.addHolder (talkPath o p) (.key k) (decide (EntryStatus.live = .heldBack))).1.appendEntry k
        ⟨some (.port p), .live⟩)
  | admits (e : Ear) (ear : v.ears[p] = some e) (kind : v.ports[p].kind = .earpiece)
      (room : v.hasRoom (talkPath o p) v.paths.length) (stays : ¬ v.turnsAway p k) :
      PortStep v k o p (standing v p k)
        (((admitted p k e v).addHolder (talkPath o p) (.key k) (decide (standing v p k = .heldBack))).1.appendEntry k
          ⟨some (.port p), standing v p k⟩)

/-- The key stands in no interrupt list of port `p`. -/
def Unlisted (s : State) (k : KeyId) (p : PortId) : Prop := ∀ e : Ear, s.ears[p] = some e → ∀ x ∈ e.entries, x.key ≠ k

/-- R71: an earpiece's answer. -/
theorem deliverEarpiece_step {v : State} {k : KeyId} {o p : PortId} (unlisted : Unlisted v k p) (kind : v.ports[p].kind = .earpiece) :
    PortStep v k o p (v.portAnswer k o p v.paths.length) (v.deliverEarpiece k p (talkPath o p)) := by
  rw [State.portAnswer, State.deliverEarpiece]
  by_cases room : v.hasRoom (talkPath o p) v.paths.length
  · rw [if_pos ((wouldAdd_iff _ _).2 room), if_neg (not_not_intro room), if_neg (not_not_intro kind)]
    dsimp only
    by_cases away : v.turnsAway p k
    · rw [if_pos away, offer_turnsAway away]
      exact .denies .listFull fun both => both.1.2.2 ⟨kind, away⟩
    · obtain ⟨e, ear⟩ : ∃ e, v.ears[p] = some e := by
        cases ear : v.ears[p] with
        | none => exact absurd (fun e mem => by rw [ear] at mem; cases mem) away
        | some e => exact ⟨e, rfl⟩
      have step := PortStep.admits (k := k) (o := o) e ear kind room away
      rw [if_neg away, offer_admits ear (unlisted e ear) away]
      rw [standing] at step
      by_cases takes : v.takesHead p k
      · simp only [if_pos takes] at step ⊢
        exact step
      · simp only [if_neg takes] at step ⊢
        exact step
  · rw [if_neg (mt (wouldAdd_iff _ _).1 room), if_pos room]
    exact .denies .noSpace fun both => room (.inr ⟨both.2, both.1.2.1⟩)

/-- R70: the answer of any other port. -/
theorem deliverPlain_step {v : State} (k : KeyId) {o p : PortId} (plain : v.ports[p].kind ≠ .earpiece) :
    PortStep v k o p (v.portAnswer k o p v.paths.length) (v.deliverPlain k (.port p) (talkPath o p)) := by
  have answer := (addHolder_answer (talkPath o p) (.key k) false v).1
  rw [State.portAnswer, State.deliverPlain]
  by_cases room : v.hasRoom (talkPath o p) v.paths.length
  · rw [(wouldAdd_iff _ _).2 room] at answer
    rw [if_neg (not_not_intro room), if_pos plain]
    rw [if_pos answer]
    exact .opens plain room
  · rw [Bool.eq_false_iff.2 (mt (wouldAdd_iff _ _).1 room)] at answer
    rw [if_pos room]
    rw [answer, addHolder_refused answer]
    exact .denies .noSpace fun both => room (.inr ⟨both.2, both.1.2.1⟩)

theorem deliverTo_step {v : State} {k : KeyId} {o p : PortId} (owner : v.keys[k].owner = some o) (unlisted : Unlisted v k p) :
    PortStep v k o p (v.portAnswer k o p v.paths.length) (v.deliverTo k (.port p)) := by
  have path : v.keyPath k (.port p) = some (talkPath o p) := by rw [State.keyPath, owner]; rfl
  rw [State.deliverTo, path]
  dsimp only
  split
  · rename_i kind; exact deliverEarpiece_step unlisted kind
  · rename_i plain; exact deliverPlain_step k plain

section
variable {v t : State} {k : KeyId} {o p : PortId} {st : EntryStatus} (step : PortStep v k o p st t)
include step

/-- R69: the destination joins the end of the delivery list. -/
theorem PortStep.entries (unlisted : Unlisted v k p) : t.keys[k].entries = v.keys[k].entries ++ [⟨some (.port p), st⟩] := by
  have appended (w : State) (e : DestEntry) : (w.appendEntry k e).keys[k].entries = w.keys[k].entries ++ [e] := by
    rw [appendEntry_key, if_pos rfl]
  cases step with
  | denies => exact appended _ _
  | opens => rw [appended, (addHolder_same _ _ _ _).1]
  | admits e ear => rw [appended, (addHolder_same _ _ _ _).1, admitted_entries (unlisted e ear)]

/-- R24: the delivery takes up room for a record where it opens a new one. -/
theorem PortStep.records : t.paths.length = v.paths.length + if v.opensNew k o p ∧ v.paths.length < 512 then 1 else 0 := by
  have added {w : State} (idents : w.paths.map Path.ident = v.paths.map Path.ident) (asked : Bool)
      (room : v.hasRoom (talkPath o p) v.paths.length) (stays : ¬ (v.ports[p].kind = .earpiece ∧ v.turnsAway p k)) :
      (w.addHolder (talkPath o p) (.key k) asked).1.paths.length =
        v.paths.length + if v.opensNew k o p ∧ v.paths.length < 512 then 1 else 0 := by
    have records : w.paths.length = v.paths.length := by simpa using congrArg List.length idents
    have absent : w.findPath (talkPath o p) = none ↔ ∀ q ∈ v.paths, q.ident ≠ talkPath o p := by
      rw [findPath_none, ← List.forall_mem_map (f := Path.ident) (P := (· ≠ talkPath o p)), idents, List.forall_mem_map]
    have new : (w.findPath (talkPath o p) = none ∧ w.roomForNew (talkPath o p) = true) ↔ v.opensNew k o p ∧ v.paths.length < 512 := by
      rw [absent, roomForNew_of_idents idents, roomForNew_iff]
      exact ⟨fun ⟨new, few, into⟩ => ⟨⟨new, into, stays⟩, few⟩, fun ⟨⟨new, into, _⟩, few⟩ => ⟨new, few, into⟩⟩
    rw [(addHolder_answer _ _ _ _).2, records]
    simp only [new]
  cases step with
  | denies why closed => rw [if_neg closed]; rfl
  | opens plain room => exact added rfl _ room fun both => plain both.1
  | admits e ear kind room stays => exact added (admitted_within p k e v).idents _ room fun both => stays both.2

end

/-- R31, R74, R102, R103: what the admission has done to the keys that were there, once the key holds its own path. -/
theorem admitted_displaces {v t : State} {k : KeyId} {o p : PortId} {e : Ear} (ear : v.ears[p] = some e)
    (owner : v.keys[k].owner = some o) (unlisted : ∀ x ∈ e.entries, x.key ≠ k)
    (found : ∀ o', o' ≠ o → t.findPath (talkPath o' p) = (admitted p k e v).findPath (talkPath o' p))
    (entries : ∀ j : KeyId, j ≠ k → t.keys[j].entries = (admitted p k e v).keys[j].entries) : v.displaces t k o p := by
  have record {q : Path} {o' : PortId} (other : o' ≠ o) (mem : q ∈ v.paths) (ident : q.ident = talkPath o' p)
      (only : ∀ y ∈ v.paths, y.ident = q.ident → y = q) : t.findPath (talkPath o' p) = some
        (if v.takesHead p k then suspendedFor v e.entries.head? o' (evictedFrom v (victimOf e) o' q)
          else evictedFrom v (victimOf e) o' q) := by
    rw [found o' other, findPath_admitted_other ear owner other, findPath_of_unique mem ident (ident ▸ only)]
    rfl
  intro e' ear'
  cases Option.some.inj (ear.symm.trans ear')
  refine ⟨fun h head takes => ⟨?_, ?_⟩, fun full x last others => ⟨?_, ?_⟩⟩
  · exact toldAt_of_entries (entries h.key (unlisted h (List.mem_of_head? head))) (admitted_toldHead head takes)
  · rintro q ⟨o', owner', other, mem, ident, only, holds⟩ isOpen spared
    have left : Still q (evictedFrom v (victimOf e) o' q) ∧ h.key ∈ (evictedFrom v (victimOf e) o' q).keys ∧
        (evictedFrom v (victimOf e) o' q).closing = false ∧ (evictedFrom v (victimOf e) o' q).suspended = q.suspended := by
      unfold evictedFrom
      split
      · exact ⟨.refl q, holds, isOpen, rfl⟩
      · rename_i x victim
        obtain ⟨full, last, -⟩ := victimOf_eq_some victim
        have stays : h.key ∈ (withoutKey v x.key q).keys := by
          rw [withoutKey_keys]
          exact List.mem_filter.2 ⟨holds, decide_eq_true (spared full x last).symm⟩
        split
        · by_cases heldToo : x.key ∈ q.keys
          · obtain ⟨closing, suspended⟩ := (withoutKey_flags v heldToo).2 fun none => List.ne_nil_of_mem stays none.1
            exact ⟨withoutKey_still v x.key q, stays, closing.trans isOpen, suspended⟩
          · refine ⟨withoutKey_still v x.key q, stays, ?_, ?_⟩
            · rw [withoutKey, aimedAfter_closing, leave_of_notHeld heldToo, isOpen]
            · rw [withoutKey, aimedAfter_suspended, leave_of_notHeld heldToo]
        · exact ⟨.refl q, holds, isOpen, rfl⟩
    obtain ⟨still, holds', isOpen', same⟩ := left
    have found := record other mem ident only
    rw [if_pos takes, suspendedFor, head, if_pos (show headOwner v (some h) = some o' from owner')] at found
    generalize evictedFrom v (victimOf e) o' q = q1 at still holds' isOpen' same found
    have still' := still.trans ((suspend_still q1).aimed v)
    obtain ⟨keys, closing, alone, routed⟩ := suspended_flags v holds' isOpen'
    exact ⟨_, ⟨(findPath_some found).1, still'.ident, still'.pos, still'.level, still'.route⟩, keys ▸ holds', closing,
      fun route => alone (still.route.trans route), fun route => (routed (still.route.trans route)).trans same⟩
  · exact toldAt_of_entries (entries x.key (unlisted x (List.mem_of_getLast? last)))
      (admitted_toldVictim ((victimOf_of_full full).trans last) others)
  · rintro q ⟨o', owner', other, mem, ident, only, holds⟩
    have found := record other mem ident only
    rw [victimOf_of_full full, last, evictedFrom, if_pos owner'] at found
    generalize made : (if v.takesHead p k then suspendedFor v e.entries.head? o' (withoutKey v x.key q)
      else withoutKey v x.key q) = q' at found
    have cases' : q' = withoutKey v x.key q ∨ q' = aimedAfter v Path.suspend (withoutKey v x.key q) := by
      rw [← made]
      unfold suspendedFor
      split
      · split
        · exact .inr rfl
        · exact .inl rfl
      · exact .inl rfl
    obtain ⟨still, keys, closes, stays⟩ := evicted_flags v holds cases'
    exact ⟨q', ⟨(findPath_some found).1, still.ident, still.pos, still.level, still.route⟩, keys, closes, stays⟩

/-- R70, R71, R113: what the answer leaves at the port. -/
theorem PortStep.answered {v t : State} {k : KeyId} {o p : PortId} {st : EntryStatus} (step : PortStep v k o p st t)
    (owner : v.keys[k].owner = some o) (unlisted : Unlisted v k p) : v.portAnswered t k o p st := by
  cases step with
  | denies why => exact ⟨fun heard => by (rcases heard with h | h <;> cases h), fun _ _ => ⟨rfl, rfl⟩⟩
  | opens plain room =>
      refine ⟨fun _ => ⟨?_, fun _ => ?_, fun kind => absurd kind plain⟩, fun why is => by cases is⟩
      · refine addHolder_joins v.sameRun_refl (fun none => ⟨none, ?_⟩) fun q0 found => ⟨q0, found, ?_⟩
        · refine (roomForNew_iff _ _).2 (room.resolve_left fun ⟨q, mem, ident⟩ => findPath_none.1 none q mem ident)
        · rw [decide_eq_false fun both => plain both.2]
          exact readied_refl (fun j is => plain is.1) q0
      · exact congrArg (·[p]) (addHolder_ears _ _ _ _)
  | admits e ear kind room stays =>
      have run := (admitted_run ear (unlisted e ear) stays).sameRun
      have idents := (admitted_within p k e v).idents
      refine ⟨fun _ => ⟨?_, fun plain => absurd kind plain, fun _ e' ear' wf => ?_⟩, fun why is => ?_⟩
      · refine addHolder_joins run (fun none => ⟨?_, ?_⟩) fun q0 found => admitted_readied ear owner kind stays found
        · rw [findPath_admitted_own ear owner, none]; rfl
        · rw [roomForNew_of_idents idents]
          exact (roomForNew_iff _ _).2 (room.resolve_left fun ⟨q, mem, ident⟩ => findPath_none.1 none q mem ident)
      · cases Option.some.inj (ear.symm.trans ear')
        refine ⟨?_, admitted_displaces ear owner (unlisted e ear) (fun o' other => ?_) fun j other => ?_, fun enabled => ?_⟩
        · have kept : ((admitted p k e v).addHolder (talkPath o p) (.key k) (decide (standing v p k = .heldBack))).1.ears[p] =
              some (withEntry (makesRoom p e v) p k (keptList e)) := by rw [addHolder_ears, admitted_ear]
          rw [show (State.appendEntry k _ _).ears[p] = _ from kept, Option.map_some, withEntry_entries wf,
            ((makesRoom_changes ear).sameRun.key k).priority]
        · exact findPath_addHolder_other (fun same => other (by cases same; rfl)) _ _ _
        · rw [appendEntry_key, if_neg (Ne.symm other), (addHolder_same _ _ _ _).1]
        · exact changes_queued ((State.addHolder_changes _ _ _ _).trans (State.appendEntry_changes _ _ _))
            (admitted_queued ear enabled)
      · rw [standing] at is
        split at is <;> cases is

end Sys2Proof.Proofs
end

section
/-! PROOFS. PRESS of a key aimed at a group (4.3, 5.3 to 5.5): the members of an ALL group one after another; the hunt, and the wait. -/

namespace Sys2Proof.Proofs

open Sys2Proof.Machine

/-! ## Several ports, one after another (R84) -/

/-- R84: key `k` is given these ports, in order. -/
def given (k : KeyId) (ps : List PortId) (s : State) : State := ps.foldl (fun s p => s.deliverTo k (.port p)) s

theorem given_cons (k : KeyId) (p : PortId) (ps : List PortId) (s : State) :
    given k (p :: ps) s = given k ps (s.deliverTo k (.port p)) := rfl

theorem given_changes (k : KeyId) (ps : List PortId) (s : State) : Changes s (given k ps s) :=
  Changes.foldl _ (fun s p => State.deliverTo_changes k (.port p) s) ps s

theorem given_steady (k : KeyId) (ps : List PortId) (s : State) : Steady s (given k ps s) := by
  induction ps generalizing s with
  | nil => exact .refl s
  | cons p ps ih => exact (deliverTo_steady k (.port p) s).trans (ih _)

theorem given_apart (k : KeyId) (ps : List PortId) (s : State) : Apart (· ∈ ps) s (given k ps s) := by
  induction ps generalizing s with
  | nil => exact .refl _ s
  | cons p ps ih =>
      exact ((deliverTo_apart s k).mono fun _ is => List.mem_cons.2 (.inl is)).trans ((ih _).mono fun _ => List.mem_cons_of_mem p)

theorem given_alike (k : KeyId) {ps : List PortId} (s : State) {m : PortId} (other : m ∉ ps) : Alike m s (given k ps s) :=
  (given_apart k ps s).alike (given_changes k ps s).sameRun other

/-- R84: the owner is left out. -/
theorem deliverAll_eq {s : State} {k : KeyId} {o : PortId} (owner : s.keys[k].owner = some o) (ms : List PortId) :
    s.deliverAll k ms = given k (ms.filter fun m => decide (m ≠ o)) s := by
  induction ms generalizing s with
  | nil => rfl
  | cons m ms ih =>
      have first : s.deliverAll k (m :: ms) =
          State.deliverAll k ms (if s.keys[k].owner = some m then s else s.deliverTo k (.port m)) := rfl
      rw [first, owner]
      by_cases own : m = o
      · rw [if_pos (by rw [own]), List.filter_cons_of_neg (by simpa using own), ih owner]
      · rw [if_neg fun same => own (Option.some.inj same).symm, List.filter_cons_of_pos (by simpa using own), given_cons]
        exact ih ((State.deliverTo_changes k (.port m) s).sameRun.key k |>.owner.trans owner)

/-! ## The answers of several ports -/

theorem Unlisted.alike {s t : State} {k : KeyId} {p : PortId} (alike : Alike p s t) (h : Unlisted s k p) : Unlisted t k p :=
  fun e ear => h e (alike.ear ▸ ear)

section
variable {k : KeyId} {o : PortId}

/-- R69, R84: the destinations, in order. -/
theorem given_dests {ps : List PortId} (distinct : ps.Nodup) {s : State} (owner : s.keys[k].owner = some o)
    (unlisted : ∀ p ∈ ps, Unlisted s k p) :
    dests (given k ps s).keys[k] = dests s.keys[k] ++ ps.map fun m => some (.port m) := by
  induction ps generalizing s with
  | nil => exact (List.append_nil _).symm
  | cons p ps ih =>
      obtain ⟨new, distinct⟩ := List.nodup_cons.1 distinct
      have step := deliverTo_step owner (unlisted p List.mem_cons_self)
      have run := (State.deliverTo_changes k (.port p) s).sameRun
      rw [given_cons, ih distinct ((run.key k).owner.trans owner) fun q mem =>
        (unlisted q (List.mem_cons_of_mem p mem)).alike ((deliverTo_apart s k).alike run fun same => new (same ▸ mem))]
      rw [dests, dests, step.entries (unlisted p List.mem_cons_self), List.map_append, List.append_assoc]
      rfl

/-- R24: a path opened for one port takes up room for the next; a full table stays full. -/
theorem given_records {ps : List PortId} (distinct : ps.Nodup) {s : State} (owner : s.keys[k].owner = some o)
    (unlisted : ∀ p ∈ ps, Unlisted s k p) :
    (given k ps s).paths.length < 512 ↔
      s.paths.length + (ps.filter fun x : PortId => decide (s.opensNew k o x)).length < 512 := by
  induction ps generalizing s with
  | nil => rfl
  | cons p ps ih =>
      obtain ⟨new, distinct⟩ := List.nodup_cons.1 distinct
      have records := (deliverTo_step owner (unlisted p List.mem_cons_self)).records
      have run := (State.deliverTo_changes k (.port p) s).sameRun
      have alike (q : PortId) (mem : q ∈ ps) : Alike q s (s.deliverTo k (.port p)) :=
        (deliverTo_apart s k).alike run fun same => new (same ▸ mem)
      have rest : (ps.filter fun x : PortId => decide ((s.deliverTo k (.port p)).opensNew k o x)) =
          ps.filter fun x : PortId => decide (s.opensNew k o x) :=
        List.filter_congr fun q mem => decide_eq_decide.2 ((alike q mem).opensNew k o)
      rw [given_cons, ih distinct ((run.key k).owner.trans owner) fun q mem =>
        (unlisted q (List.mem_cons_of_mem p mem)).alike (alike q mem), rest, records]
      by_cases opens : s.opensNew k o p
      · rw [List.filter_cons_of_pos (p := fun x : PortId => decide (s.opensNew k o x)) (decide_eq_true opens), List.length_cons]
        by_cases few : s.paths.length < 512
        · rw [if_pos ⟨opens, few⟩]; omega
        · rw [if_neg fun both => few both.2]; omega
      · rw [List.filter_cons_of_neg (by simpa using opens), if_neg fun both => opens both.1, Nat.add_zero]

/-- R70, R71, R84: each port answers on its own, the records opened for the ports before it counted. -/
theorem given_answered {pre post : List PortId} {m : PortId} (distinct : (pre ++ m :: post).Nodup) {s : State}
    (owner : s.keys[k].owner = some o) (unlisted : ∀ p, Unlisted s k p) (empty : s.keys[k].entries = []) :
    let t := given k (pre ++ m :: post) s
    let st := s.portAnswer k o m (s.paths.length + (pre.filter fun x : PortId => decide (s.opensNew k o x)).length)
    (∀ y ∈ t.keys[k].entries, y.dest = some (.port m) → y.status = st) ∧ s.portAnswered t k o m st := by
  intro t st
  obtain ⟨first, last, apart⟩ := List.nodup_append.1 distinct
  obtain ⟨notLater, -⟩ := List.nodup_cons.1 last
  have notEarlier : m ∉ pre := fun mem => apart m mem m List.mem_cons_self rfl
  have alike := given_alike k s notEarlier
  have owner' : (given k pre s).keys[k].owner = some o := (alike.owner k).trans owner
  have unlisted' := (unlisted m).alike alike
  have step := deliverTo_step owner' unlisted'
  rw [alike.portAnswer k o (given_records first owner fun p _ => unlisted p)] at step
  have later := given_apart k post ((given k pre s).deliverTo k (.port m))
  have eq : t = given k post ((given k pre s).deliverTo k (.port m)) := List.foldl_append
  rw [eq]
  refine ⟨fun y mem dest => ?_, portAnswered_congr alike later notLater (changes_queued (given_changes k post _))
    (step.answered owner' unlisted')⟩
  have elsewhere {ps : List PortId} (not : m ∉ ps) : ∀ p, p ∈ ps → y.dest ≠ some (.port p) := by
    rintro p is same
    cases dest.symm.trans same
    exact not is
  rw [later.entries k y (elsewhere notLater), step.entries unlisted', List.mem_append,
    (given_apart k pre s).entries k y (elsewhere notEarlier), empty, List.mem_singleton] at mem
  rw [mem.resolve_left List.not_mem_nil]

end

/-! ## The press (R65 to R67, R69) -/

/-- R67, R69: the delivery of a key that has just been activated. -/
theorem deliver_activated (u : State) (k : KeyId) {g : GroupId} (target : u.keys[k].target = some (.group g)) :
    (u.setActivation k (pressActivation u.keys[k].mode)).deliver k =
      (pressing u k (pressActivation u.keys[k].mode)).deliverGroup k g := by
  have begun : (u.setActivation k (pressActivation u.keys[k].mode)).setKey k
      { (u.setActivation k (pressActivation u.keys[k].mode)).keys[k] with delivered := true, entries := [] } =
      pressing u k (pressActivation u.keys[k].mode) := by
    have press : (if u.keys[k].mode = .smart ∧ pressActivation u.keys[k].mode = .held then some u.blockCount else none) =
        if u.keys[k].mode = .smart then some u.blockCount else none := by
      cases u.keys[k].mode <;> rfl
    rw [setActivation_key, if_pos rfl, press, State.setActivation, State.setKey, State.report_keys, State.setKey_keys,
      tableSet_tableSet]
    rfl
  have aims : (pressing u k (pressActivation u.keys[k].mode)).keys[k].target = some (.group g) := by
    rw [pressing_key]
    exact target
  rw [State.deliver]
  dsimp only
  rw [begun, aims]

/-- What an answer depends on is untouched by the activation. -/
theorem pressing_alike (u : State) (k : KeyId) (a : Activation) (p : PortId) : Alike p u (pressing u k a) := by
  have kept (j : KeyId) : (pressing u k a).keys[j].owner = u.keys[j].owner ∧ (pressing u k a).keys[j].level = u.keys[j].level ∧
      (pressing u k a).keys[j].priority = u.keys[j].priority := by
    have read : (pressing u k a).keys[j] = _ := tableSet_get u.keys k j (pressedKey u.keys[k] a u.blockCount [])
    rw [read]
    split
    · rename_i same; subst same; exact ⟨rfl, rfl, rfl⟩
    · exact ⟨rfl, rfl, rfl⟩
  exact ⟨rfl, rfl, (u.link.report_sameAnswers (.key k)).mask, rfl, rfl, fun j => (kept j).1, fun j => (kept j).2.1,
    fun j => (kept j).2.2⟩

/-- R85: nor is it decided by the activation who can take the key. -/
theorem pressing_canTake (u : State) (k : KeyId) (a : Activation) (g : GroupId) (m : PortId) :
    (pressing u k a).canTake g k m ↔ u.canTake g k m := by
  rw [State.canTake, State.canTake, (pressing_alike u k a m).owner]
  exact Iff.rfl

/-- R67: what every press leaves beside its group's record and the key's destinations. -/
def Framed (u t : State) (k : KeyId) (g : GroupId) (a : Activation) : Prop :=
  (∀ h : GroupId, h ≠ g → t.groups[h] = u.groups[h]) ∧ u.sameRest t ∧
    t.keys[k].pressBlock = (if u.keys[k].mode = .smart then some u.blockCount else none) ∧
    (∃ later, t.link.notices = (u.link.report (.key k)).notices ++ later) ∧
    ∀ j : KeyId, t.keys[j].activation = if j = k then a else u.keys[j].activation

theorem framed_of_moved {u t : State} {k : KeyId} {g : GroupId} (moved : Moved u t k (pressActivation u.keys[k].mode))
    (groups : ∀ h : GroupId, h ≠ g → t.groups[h] = u.groups[h]) : Framed u t k g (pressActivation u.keys[k].mode) := by
  obtain ⟨own, others, press, later, ports, mode, blockCount, rx, tx, checks, routes, mix, lanes⟩ := moved
  refine ⟨groups, ⟨ports, mode, blockCount, rx, tx, checks, routes, mix, lanes⟩, ?_, later, fun j => ?_⟩
  · rw [press]
    cases u.keys[k].mode <;> rfl
  · by_cases same : j = k
    · rw [if_pos same, ← own, same]
    · rw [if_neg same, (others j same).1]

/-- R64, R65: a press of an idle key aimed at a group. -/
theorem press_delivers_group {s u : State} {tag : Byte} {k : KeyId} {g : GroupId} (opened : s.opened = u) (takes : s.takesRequests)
    (run : s.mode = .run) (free : ¬ u.callKeyNamed k) (idle : u.keys[k].activation = .idle)
    (target : u.keys[k].target = some (.group g)) :
    let a := pressActivation u.keys[k].mode
    let t := (pressing u k a).deliverGroup k g
    AcceptedWith (.press tag k.val) s t [.u8 a.code, .u8 t.keys[k].delivery.code] ∧ Moved u t k a := by
  have transition : pressedTo true u k = some (pressActivation u.keys[k].mode, .deliver) := by
    rw [pressedTo, if_pos rfl, State.pressOf, idle, pressTransition_idle]
  have moves := press_moves (tag := tag) opened takes run (by rw [target]; rfl) free transition
  rw [State.keyAction, deliver_activated u k target] at moves
  exact moves

/-! ## The group's part (R72, R84, R86, R88) -/

theorem deliverGroup_of_empty {s : State} {g : GroupId} (none : s.groups[g].members = []) (k : KeyId) : s.deliverGroup k g = s := by
  rw [State.deliverGroup, none]
  rfl

theorem deliverGroup_of_all {s : State} {k : KeyId} {g : GroupId} {o : PortId} (owner : s.keys[k].owner = some o)
    (all : s.groups[g].mode = .all) :
    s.deliverGroup k g = given k ((s.groups[g].members.map Member.port).filter fun m => decide (m ≠ o)) s := by
  cases members : s.groups[g].members with
  | nil => exact deliverGroup_of_empty members k
  | cons x xs =>
      rw [State.deliverGroup, members, all, if_neg (by simp)]
      exact deliverAll_eq owner _

theorem deliverGroup_of_chosen {s : State} {g : GroupId} {k : KeyId} {p : PortId} (members : s.groups[g].members ≠ [])
    (hunt : s.groups[g].mode = .hunt) (chosen : s.chooseMember g k = some p) : s.deliverGroup k g = s.huntDeliver g k p := by
  rw [State.deliverGroup, if_neg (by simpa using members), hunt, chosen]

theorem deliverGroup_of_nobody {s : State} {g : GroupId} {k : KeyId} (members : s.groups[g].members ≠ [])
    (hunt : s.groups[g].mode = .hunt) (nobody : s.chooseMember g k = none) : s.deliverGroup k g = s.joinQueue g k := by
  rw [State.deliverGroup, if_neg (by simpa using members), hunt, nobody]

/-- R86: the first eligible member in LRU order. -/
theorem chooseMember_eq_some {s : State} {g : GroupId} {k : KeyId} {pre post : List PortId} {m : PortId}
    (lru : s.groups[g].lru = pre ++ m :: post) (takes : s.canTake g k m) (passed : ∀ x ∈ pre, ¬ s.canTake g k x) :
    s.chooseMember g k = some m := by
  rw [State.chooseMember, lru, List.find?_append, List.find?_eq_none.2 fun x mem => ?_, Option.none_or,
    List.find?_cons_of_pos ((State.eligible_iff s g k m).2 takes)]
  rw [State.eligible_iff]
  exact passed x mem

theorem chooseMember_eq_none {s : State} {g : GroupId} {k : KeyId} (nobody : ∀ x ∈ s.groups[g].lru, ¬ s.canTake g k x) :
    s.chooseMember g k = none := by
  refine List.find?_eq_none.2 fun x mem => ?_
  rw [State.eligible_iff]
  exact nobody x mem

/-- R86: the member chosen goes to the end of the LRU order. -/
theorem engage_eq {r : GroupRecord} {pre post : List PortId} {m : PortId} (lru : r.lru = pre ++ m :: post) (notBefore : m ∉ pre)
    (notBehind : m ∉ post) (k : KeyId) : r.engage m k = { r with
      lru := pre ++ post ++ [m]
      members := r.members.map fun x : Member => if x.port = m then { x with engagedBy := some k } else x } := by
  have others {ps : List PortId} (not : m ∉ ps) : ps.filter (fun q => decide (q ≠ m)) = ps :=
    List.filter_eq_self.2 fun q mem => decide_eq_true fun same : q = m => not (same ▸ mem)
  rw [GroupRecord.engage, lru, List.filter_append, List.filter_cons_of_neg (by simp), others notBefore, others notBehind]

/-- R88: the key waits behind fewer than four others. -/
theorem joinQueue_of_room {s : State} {g : GroupId} (few : s.groups[g].waiters.length < 4) (k : KeyId) : s.joinQueue g k =
    ((s.setGroup g { s.groups[g] with waiters := s.groups[g].waiters ++ [k] }).setKey k
      { s.keys[k] with deadline := some (s.blockCount + BitVec.ofNat 32 s.groups[g].timeout) }).report (.key k) := if_pos few

theorem joinQueue_of_full {s : State} {g : GroupId} (full : 4 ≤ s.groups[g].waiters.length) (k : KeyId) :
    s.joinQueue g k = s.appendEntry k ⟨none, .denied .listFull⟩ := if_neg (Nat.not_lt_of_le full)

/-- R73: a key with one destination answers as that destination does. -/
theorem delivery_single {r : KeyRecord} (delivered : r.delivered = true) (noWait : r.deadline = none) {d : Option Endpoint}
    {st : EntryStatus} (entries : r.entries = [⟨d, st⟩]) : r.delivery.code = st.code := by
  rw [KeyRecord.delivery, delivered, noWait, entries]
  cases st <;> rfl

/-- R73: a key with no destination is denied. -/
theorem delivery_empty {r : KeyRecord} (delivered : r.delivered = true) (noWait : r.deadline = none) (entries : r.entries = []) :
    r.delivery.code = 5 := by
  rw [KeyRecord.delivery, delivered, noWait, entries]
  rfl

/-- R73: a key with a deadline waits. -/
theorem delivery_waits {r : KeyRecord} (delivered : r.delivered = true) (waits : r.deadline.isSome = true) : r.delivery.code = 4 := by
  rw [KeyRecord.delivery, delivered, waits]
  rfl

/-! ## The cases of a press -/

section
variable {u : State} {k : KeyId} {o : PortId} {g : GroupId} (a : Activation) (owner : u.keys[k].owner = some o)
  (noWait : u.keys[k].deadline = none) (unlisted : ∀ p : PortId, Unlisted u k p)

include noWait in
/-- R69, R88: the record of the pressed key, but for its destinations. -/
theorem pressing_record : (pressing u k a).keys[k].delivered = true ∧ (pressing u k a).keys[k].deadline = none ∧
    (pressing u k a).keys[k].entries = [] := by
  rw [pressing_key]
  exact ⟨rfl, noWait, rfl⟩

include owner noWait unlisted

/-- R84: an ALL group. -/
theorem all_delivered {ps : List PortId} (distinct : ps.Nodup) :
    let t := given k ps (pressing u k a)
    t.keys[k].delivered = true ∧ t.keys[k].deadline = none ∧ t.groups = u.groups ∧ u.onlyAt t ps ∧
      t.keys[k].entries.map DestEntry.dest = ps.map (fun m : PortId => some (.port m)) ∧
      ∀ (pre post : List PortId) (m : PortId), ps = pre ++ m :: post →
        let st := u.portAnswer k o m (u.paths.length + (pre.filter fun x : PortId => decide (u.opensNew k o x)).length)
        (∀ y ∈ t.keys[k].entries, y.dest = some (.port m) → y.status = st) ∧ u.portAnswered t k o m st := by
  intro t
  obtain ⟨delivered, deadline, empty⟩ := pressing_record a noWait
  have owner' : (pressing u k a).keys[k].owner = some o := ((pressing_alike u k a o).owner k).trans owner
  have unlisted' (p : PortId) : Unlisted (pressing u k a) k p := (unlisted p).alike (pressing_alike u k a p)
  have steady := given_steady k ps (pressing u k a)
  have apart := given_apart k ps (pressing u k a)
  refine ⟨by rw [steady.record]; exact delivered, by rw [steady.record]; exact deadline, steady.groups,
    ⟨apart.ears, apart.paths⟩, ?_, ?_⟩
  · have given := given_dests distinct owner' fun p _ => unlisted' p
    rwa [dests, dests, empty, List.map_nil, List.nil_append] at given
  · rintro pre post m rfl
    have same : (pre.filter fun x : PortId => decide ((pressing u k a).opensNew k o x)) =
        pre.filter fun x : PortId => decide (u.opensNew k o x) :=
      List.filter_congr fun x _ => decide_eq_decide.2 ((pressing_alike u k a x).opensNew k o)
    have answered := given_answered distinct owner' unlisted' empty
    rw [same, (pressing_alike u k a m).portAnswer k o Iff.rfl] at answered
    exact ⟨answered.1, portAnswered_congr (pressing_alike u k a m) (.refl (fun _ => False) _) id id answered.2⟩

/-- R86: a HUNT group with a member to be engaged. -/
theorem hunt_delivered {pre post : List PortId} {m : PortId} (lru : u.groups[g].lru = pre ++ m :: post) (notBefore : m ∉ pre)
    (notBehind : m ∉ post) :
    let t := (pressing u k a).huntDeliver g k m
    t.keys[k].delivery.code = (u.portAnswer k o m u.paths.length).code ∧
      t.keys[k].entries = [⟨some (.port m), u.portAnswer k o m u.paths.length⟩] ∧
      u.portAnswered t k o m (u.portAnswer k o m u.paths.length) ∧ u.onlyAt t [m] ∧
      t.groups[g] = { u.groups[g] with
        lru := pre ++ post ++ [m]
        members := u.groups[g].members.map fun x : Member => if x.port = m then { x with engagedBy := some k } else x } ∧
      ∀ h : GroupId, h ≠ g → t.groups[h] = u.groups[h] := by
  intro t
  obtain ⟨delivered, deadline, empty⟩ := pressing_record a noWait
  let v := (pressing u k a).setGroup g ((pressing u k a).groups[g].engage m k)
  have alike : Alike m u v := (pressing_alike u k a m).trans ⟨rfl, rfl, rfl, rfl, rfl, fun _ => rfl, fun _ => rfl, fun _ => rfl⟩
  have owner' : v.keys[k].owner = some o := (alike.owner k).trans owner
  have unlisted' : Unlisted v k m := (unlisted m).alike alike
  have step : PortStep v k o m _ t := deliverTo_step owner' unlisted'
  have steady : Steady v t := deliverTo_steady k (.port m) v
  have apart : Apart (· = m) v t := deliverTo_apart v k
  rw [alike.portAnswer k o (m := v.paths.length) (n := u.paths.length) Iff.rfl] at step
  have entries : t.keys[k].entries = [⟨some (.port m), u.portAnswer k o m u.paths.length⟩] := by
    rw [step.entries unlisted']
    exact congrArg (· ++ _) empty
  refine ⟨delivery_single (by rw [steady.record]; exact delivered) (by rw [steady.record]; exact deadline) entries, entries,
    portAnswered_congr alike (.refl (fun _ => False) _) id id (step.answered owner' unlisted'),
    ⟨fun p not => apart.ears p (by simpa using not), fun d other => apart.paths d fun p is => other p (List.mem_singleton.2 is)⟩, ?_,
    fun h other => ?_⟩
  · rw [steady.groups, ← engage_eq lru notBefore notBehind]
    exact tableSet_self _ _ _
  · rw [steady.groups]
    exact tableSet_ne _ _ (Ne.symm other)

end

section
variable {u : State} {k : KeyId} {g : GroupId} (a : Activation) (noWait : u.keys[k].deadline = none)
include noWait

/-- R88: a HUNT group with nobody to be engaged and room in its queue. -/
theorem wait_begun (few : u.groups[g].waiters.length < 4) :
    let t := (pressing u k a).joinQueue g k
    t.keys[k].delivery.code = 4 ∧ t.keys[k].entries = [] ∧
      t.keys[k].deadline = some (u.blockCount + BitVec.ofNat 32 u.groups[g].timeout) ∧
      t.groups[g] = { u.groups[g] with waiters := u.groups[g].waiters ++ [k] } ∧ t.paths = u.paths ∧ t.ears = u.ears ∧
      ∀ h : GroupId, h ≠ g → t.groups[h] = u.groups[h] := by
  intro t
  obtain ⟨delivered, -, empty⟩ := pressing_record a noWait
  have joined : t = _ := joinQueue_of_room (s := pressing u k a) (g := g) few k
  have key : t.keys[k] = { (pressing u k a).keys[k] with
      deadline := some (u.blockCount + BitVec.ofNat 32 u.groups[g].timeout) } := by
    rw [joined]
    exact tableSet_self _ _ _
  rw [key, joined]
  exact ⟨delivery_waits delivered rfl, empty, rfl, tableSet_self _ _ _, rfl, rfl, fun h other => tableSet_ne _ _ (Ne.symm other)⟩

/-- R88: a HUNT group with nobody to be engaged and four waiters. -/
theorem wait_denied (full : 4 ≤ u.groups[g].waiters.length) :
    let t := (pressing u k a).joinQueue g k
    t.keys[k].delivery.code = 5 ∧ t.keys[k].entries = [⟨none, .denied .listFull⟩] ∧ t.groups = u.groups ∧ t.paths = u.paths ∧
      t.ears = u.ears := by
  intro t
  obtain ⟨delivered, deadline, empty⟩ := pressing_record a noWait
  have denied : t = _ := joinQueue_of_full (s := pressing u k a) (g := g) full k
  have key : t.keys[k] = { (pressing u k a).keys[k] with entries := [⟨none, .denied .listFull⟩] } := by
    rw [denied, appendEntry_key, if_pos rfl, empty]
    rfl
  rw [key, denied]
  exact ⟨delivery_single (r := { (pressing u k a).keys[k] with entries := [⟨none, .denied .listFull⟩] }) (st := .denied .listFull)
    delivered deadline rfl, rfl, rfl, rfl, rfl⟩

end

/-- Settles O39: the press begins the delivery (`press_delivers_group`); then the group's three answers, each by its own lemma. -/
theorem pressHuntsForAMember : Obligations.PressHuntsForAMember := by
  unfold Obligations.PressHuntsForAMember
  intro s tag k o g u opened r grp a eligible frame takes run free idle owner noWait target unlisted
  obtain ⟨accepted, moved⟩ := press_delivers_group (tag := tag) opened takes run free idle target
  have framed {t : State} (eq : (pressing u k a).deliverGroup k g = t) (groups : ∀ h : GroupId, h ≠ g → t.groups[h] = u.groups[h]) :
      frame t := framed_of_moved (eq ▸ moved) groups
  have accepted {t : State} (eq : (pressing u k a).deliverGroup k g = t) {n : Nat} (code : t.keys[k].delivery.code = n) :
      AcceptedWith (.press tag k.val) s t [.u8 a.code, .u8 n] := code ▸ eq ▸ accepted
  have owner' : (pressing u k a).keys[k].owner = some o := ((pressing_alike u k a o).owner k).trans owner
  obtain ⟨delivered, deadline, empty⟩ := pressing_record (u := u) (k := k) a noWait
  have canTake {m : PortId} := pressing_canTake u k a g m
  refine ⟨fun empty' => ?_, fun all distinct => ?_, fun hunt members => ⟨fun pre post m lru notBefore notBehind takesIt passed => ?_,
    fun nobody few => ?_, fun nobody full => ?_⟩⟩
  · have eq : (pressing u k a).deliverGroup k g = pressing u k a := deliverGroup_of_empty (s := pressing u k a) empty' k
    exact ⟨_, accepted eq (delivery_empty delivered deadline empty), empty, rfl, rfl, rfl, framed eq fun _ _ => rfl⟩
  · have eq : (pressing u k a).deliverGroup k g =
        given k ((grp.members.map Member.port).filter fun m => decide (m ≠ o)) (pressing u k a) := deliverGroup_of_all owner' all
    obtain ⟨delivered, deadline, groups, only, dests, answered⟩ := all_delivered a owner noWait unlisted (distinct.filter _)
    exact ⟨_, accepted eq rfl, delivered, deadline, groups, only, framed eq fun h _ => by rw [groups], dests, answered⟩
  · have eq := deliverGroup_of_chosen (s := pressing u k a) members hunt (chooseMember_eq_some lru (canTake.2 takesIt)
      fun x mem => passed x mem ∘ canTake.1)
    obtain ⟨code, entries, answered, only, group, others⟩ := hunt_delivered a owner noWait unlisted lru notBefore notBehind
    exact ⟨_, accepted eq code, entries, answered, only, group, framed eq others⟩
  · have eq := deliverGroup_of_nobody (s := pressing u k a) members hunt (chooseMember_eq_none fun x mem => nobody x mem ∘ canTake.1)
    obtain ⟨code, entries, waits, group, paths, ears, others⟩ := wait_begun a noWait few
    exact ⟨_, accepted eq code, entries, waits, group, paths, ears, framed eq others⟩
  · have eq := deliverGroup_of_nobody (s := pressing u k a) members hunt (chooseMember_eq_none fun x mem => nobody x mem ∘ canTake.1)
    obtain ⟨code, entries, groups, paths, ears⟩ := wait_denied (g := g) a noWait full
    exact ⟨_, accepted eq code, entries, by rw [groups], paths, ears, framed eq fun h _ => by rw [groups]⟩

end Sys2Proof.Proofs
end

section
/-! PROOFS. PRESS of a key aimed at an EARPIECE port (4.3, 6.2): what its admission reports, what openings it counts, and the record of
its path. -/

namespace Sys2Proof.Proofs

open Sys2Proof.Machine

/-! ## Notices of one subject (R183) -/

/-- R183, R184: what reporting a change does while no READ is in progress. -/
theorem report_of_quiet {l : ControlLink} (quiet : l.reading = none) {n : Notice} (kind : n.isStateKind = true) : l.report n =
    if l.enabled n = false ∨ n ∈ l.notices then l
    else if 64 ≤ l.notices.length then { l with overflow := true } else { l with notices := l.notices ++ [n] } := by
  rw [ControlLink.report, ControlLink.isBeingSent, quiet, kind]
  by_cases off : l.enabled n = false
  · rw [if_pos (by rw [off]; rfl), if_pos (.inl off)]
  · rw [Bool.not_eq_false] at off
    rw [if_neg (by rw [off]; decide), Bool.true_and]
    by_cases waits : n ∈ l.notices
    · rw [if_pos (List.contains_iff_mem.2 waits), if_neg Bool.false_ne_true, if_pos (.inr waits)]
    · rw [if_neg (mt List.contains_iff_mem.1 waits)]
      exact (if_neg fun either => either.elim (by simp [off]) waits).symm

/-- No READ is in progress, and nothing is left to be reported of a subject: its notice is disabled, waits, or has been discarded. -/
structure Told (n : Notice) (l : ControlLink) : Prop where
  quiet : l.reading = none
  done : l.enabled n = false ∨ n ∈ l.notices ∨ 64 ≤ l.notices.length ∧ l.overflow = true

theorem Told.report_self {n : Notice} {l : ControlLink} (told : Told n l) (kind : n.isStateKind = true) : l.report n = l := by
  rw [report_of_quiet told.quiet kind]
  split
  · rfl
  · rename_i undone
    obtain ⟨full, overflow⟩ := (told.done.resolve_left (undone ∘ .inl)).resolve_left (undone ∘ .inr)
    rw [if_pos full, ← overflow]

theorem told_report {n : Notice} {l : ControlLink} (quiet : l.reading = none) (kind : n.isStateKind = true) : Told n (l.report n) := by
  rw [report_of_quiet quiet kind]
  split
  · rename_i done
    exact ⟨quiet, done.imp_right .inl⟩
  · split
    · rename_i full
      exact ⟨quiet, .inr (.inr ⟨full, rfl⟩)⟩
    · exact ⟨quiet, .inr (.inl (List.mem_append_right _ (List.mem_singleton_self n)))⟩

theorem Told.report {n m : Notice} {l : ControlLink} (told : Told n l) (kind : m.isStateKind = true) : Told n (l.report m) := by
  obtain ⟨quiet, done⟩ := told
  rw [report_of_quiet quiet kind]
  split
  · exact ⟨quiet, done⟩
  · split
    · exact ⟨quiet, done.imp_right (.imp_right fun full => ⟨full.1, rfl⟩)⟩
    · rename_i few
      exact ⟨quiet, done.imp_right fun either => .inl (List.mem_append_left _ (either.resolve_right fun full => few full.1))⟩

theorem reported_quiet {l : ControlLink} (quiet : l.reading = none) {ns : List Notice} (kinds : ∀ n ∈ ns, n.isStateKind = true) :
    (reported ns l).reading = none := by
  induction ns generalizing l with
  | nil => exact quiet
  | cons n ns ih =>
      exact ih (told_report quiet (kinds n List.mem_cons_self)).quiet fun m mem => kinds m (List.mem_cons_of_mem n mem)

/-- R183: a subject that has been reported is not queued again. -/
theorem reported_again {l : ControlLink} (quiet : l.reading = none) {ns : List Notice} (kinds : ∀ n ∈ ns, n.isStateKind = true)
    {n : Notice} (mem : n ∈ ns) : (reported ns l).report n = reported ns l := by
  obtain ⟨before, after, rfl⟩ := List.append_of_mem mem
  have kind := kinds n mem
  have first : Told n ((reported before l).report n) :=
    told_report (reported_quiet quiet fun m mem => kinds m (List.mem_append_left _ mem)) kind
  have later (ms : List Notice) (kinds : ∀ m ∈ ms, m.isStateKind = true) {l' : ControlLink} (told : Told n l') :
      Told n (reported ms l') := by
    induction ms generalizing l' with
    | nil => exact told
    | cons m ms ih => exact ih (fun j mem => kinds j (List.mem_cons_of_mem m mem)) (told.report (kinds m List.mem_cons_self))
  rw [reported_append]
  exact (later after (fun m mem => kinds m (by simp [mem])) first).report_self kind

/-! ## What an admission reports (R78, R113) -/

/-- R78: the KEY notices of the keys of some entries. -/
def keyNotices (es : List TalkEntry) : List Notice := es.map fun x => .key x.key

theorem keyNotices_kind {es : List TalkEntry} {n : Notice} (mem : n ∈ keyNotices es) : n.isStateKind = true := by
  obtain ⟨x, -, rfl⟩ := List.mem_map.1 mem
  rfl

theorem onKeyPath_link (j : KeyId) (p : PortId) (f : Path → Path) (s : State) :
    (s.onKeyPath j p fun id s => s.touchPath id f).link = s.link := by
  unfold State.onKeyPath
  split
  · rw [State.touchPath_link]
  · rfl

/-- R103: a displaced head is told. -/
theorem displacesHead_link (p : PortId) (k : KeyId) (head : Option TalkEntry) (s : State) :
    (displacesHead p k head s).link = reported (keyNotices head.toList) s.link := by
  refine (onKeyPath_link k p Path.resume _).trans ?_
  cases head with
  | none => rfl
  | some h =>
      change ControlLink.report (if s.keyPath h.key (.port p) = s.keyPath k (.port p) then s
        else s.onKeyPath h.key p State.suspendPath).link (.key h.key) = _
      split
      · rfl
      · exact congrArg (ControlLink.report · _) (onKeyPath_link h.key p Path.suspend s)

/-- R102, R113: the list change is reported once, then the eviction. -/
theorem entered_link {s : State} (quiet : s.link.reading = none) (p : PortId) (k : KeyId) (e : Ear) :
    (entered p k (keptList e) (makesRoom p e s)).link = reported (.earpiece p :: keyNotices (victimOf e).toList) s.link := by
  change ControlLink.report (makesRoom p e s).link (.earpiece p) = _
  unfold makesRoom
  split
  · rename_i none
    rw [none]
    rfl
  · rename_i x victim
    have evicted : (s.evict p e x).link = reported [.earpiece p, .key x.key] s.link :=
      congrArg (ControlLink.report · (.key x.key)) (onKeyPath_link x.key p (Path.leave (.key x.key)) _)
    rw [evicted, victim]
    exact reported_again quiet (by simp [Notice.isStateKind]) List.mem_cons_self

theorem admitted_link {s : State} (quiet : s.link.reading = none) (p : PortId) (k : KeyId) (e : Ear) :
    (admitted p k e s).link = reported (.earpiece p :: keyNotices (victimOf e).toList ++
      if s.takesHead p k then keyNotices e.entries.head?.toList else []) s.link := by
  have first := entered_link quiet p k e
  unfold admitted
  split
  · rw [displacesHead_link, first, reported_append]
  · rw [first, List.append_nil]

/-! ## The list (R101, R109, R110) -/

/-- R101, R102, R109, R110: the list that has taken a key in; the first entry of a list aims its dip at the dip depth. -/
def joinedList (u : State) (p : PortId) (k : KeyId) (e : Ear) : Ear :=
  let depth := (u.ports[p].dipDepth).getD 256
  ⟨e.entriesWith k u.keys[k].priority, e.count + 1,
    if e.entries = [] ∧ depth ≠ e.dip.target then ⟨depth, e.dip.factor, 0⟩ else e.dip⟩

theorem keptList_dip (e : Ear) : (keptList e).dip = e.dip := by
  unfold keptList Ear.lessLast
  split <;> rfl

theorem keptList_empty (e : Ear) : (keptList e).entries = [] ↔ e.entries = [] := by
  rw [← List.head?_eq_none_iff, keptList_head, List.head?_eq_none_iff]

theorem admitted_list {s : State} {p : PortId} {k : KeyId} {e : Ear} (ear : s.ears[p] = some e) (wf : e.wf) :
    (admitted p k e s).ears[p] = some (joinedList s p k e) := by
  have run := (makesRoom_changes ear).sameRun
  have entries : (withEntry (makesRoom p e s) p k (keptList e)).entries = e.entriesWith k s.keys[k].priority := by
    rw [withEntry_entries wf, (run.key k).priority]
  have dip : (withEntry (makesRoom p e s) p k (keptList e)).dip = (joinedList s p k e).dip := by
    change (if (keptList e).entries.isEmpty then (keptList e).dip.aim (((makesRoom p e s).ports[p].dipDepth).getD 256)
      else (keptList e).dip) = _
    simp only [List.isEmpty_iff, keptList_empty, keptList_dip, run.ports, joinedList, Dip.aim]
    by_cases empty : e.entries = []
    · rw [if_pos empty]
      split
      · rename_i same; exact (if_neg fun both => both.2 same).symm
      · rename_i differs; exact (if_pos ⟨empty, differs⟩).symm
    · rw [if_neg empty, if_neg fun both => empty both.1]
  have count : (withEntry (makesRoom p e s) p k (keptList e)).count = e.count + 1 :=
    congrArg (· + 1) (keptList_count e)
  rw [admitted_ear]
  refine congrArg some ?_
  rw [withEntry, joinedList, Ear.mk.injEq]
  exact ⟨entries, count, dip⟩

end Sys2Proof.Proofs
end

section
/-! PROOFS. The openings of a pressed key's path into an EARPIECE port (2.4, 6.2), and the record that it then holds. -/

namespace Sys2Proof.Proofs

open Sys2Proof.Machine

/-! ## Target levels (R21) -/

theorem aimedAfter_target (s : State) (f : Path → Path) (q : Path) : (aimedAfter s f q).target = s.targetOf (f q) :=
  (retargeted_keeps _ _).2.2.2.2.2.2.2

/-- R32: resuming a path lowers no target. -/
theorem resume_raises (s : State) (q : Path) : s.targetOf q ≤ s.targetOf q.resume := by
  rw [resume_eq, State.targetOf, State.targetOf]
  split
  · exact Nat.zero_le _
  · rename_i heard
    rw [if_neg fun either => heard (.inr (either.resolve_left Bool.false_ne_true))]

/-- R25: nor does a holder that joins. -/
theorem join_raises (s : State) (k : KeyId) (q : Path) : s.targetOf q ≤ s.targetOf (q.join (.key k)) := by
  rw [Path.join, State.targetOf, State.targetOf]
  dsimp only
  split
  · exact Nat.zero_le _
  · rw [State.loudest, State.loudest, foldl_max_insertKey fun j => s.keys[j].level]
    omega

/-- R21: a path without holders has the target level 0 anyway. -/
theorem targetOf_eq (s : State) (q : Path) : s.targetOf q =
    if q.suspended = true ∨ q.closing = true ∨ (q.keys = [] ∧ q.route = false) then 0 else s.loudest q.ident q.keys q.route := by
  rw [State.targetOf]
  by_cases unheld : q.keys = [] ∧ q.route = false
  · have silent : s.loudest q.ident q.keys q.route = 0 := by rw [State.loudest, unheld.1, unheld.2]; rfl
    rw [silent, ite_self, ite_self]
  · simp only [unheld, or_false]

/-- R27, R28: the target level once a key has left. -/
theorem targetOf_leave (s : State) (x : KeyId) (q : Path) : s.targetOf (q.leave (.key x)) =
    let left := q.keys.filter fun j : KeyId => decide (j ≠ x)
    if q.suspended = true ∨ q.closing = true ∨ (left = [] ∧ q.route = false) then 0 else s.loudest q.ident left q.route := by
  extract_lets left
  by_cases holds : x ∈ q.keys
  · rw [leave_of_held holds]
    dsimp only
    split
    · rename_i last
      rw [State.targetOf, if_pos (.inr rfl), if_pos (.inr (.inr last))]
    · exact targetOf_eq s { q with keys := left }
  · have same : left = q.keys := List.filter_eq_self.2 fun j mem => decide_eq_true fun is : j = x => holds (is ▸ mem)
    rw [leave_of_notHeld holds, same]
    exact targetOf_eq s q

/-! ## Openings one after another (R35, R158) -/

section
variable {v w : State} {d : Endpoint}

theorem counted_of_same (ports : w.ports = v.ports) (gov : w.gov = v.gov) (a b : Nat) : w.counted d a b = v.counted d a b := by
  cases d with
  | bus => exact gov
  | port p => simp only [State.counted, State.withOpenings, ports, gov]

theorem counted_iff {a b a' b' : Nat} (same : (a = 0 ∧ 0 < b) ↔ (a' = 0 ∧ 0 < b')) (v : State) :
    v.counted d a b = v.counted d a' b' := by
  simp only [State.counted, same]

theorem counted_of_heard {a b : Nat} (heard : ¬ (a = 0 ∧ 0 < b)) (v : State) : v.counted d a b = v.gov := by
  cases d with
  | bus => rfl
  | port p =>
      simp only [State.counted, if_neg heard, withOpenings_zero]
      exact congrArg (fun records => ({ v.gov with records := records } : Governor)) (tableSet_getElem_self v.gov.records p)

/-- R35: a target level that rises in two steps rises from 0 once at most. -/
theorem counted_counted {a b c : Nat} (ports : w.ports = v.ports) (gov : w.gov = v.counted d a b) (first : a ≤ b) (second : b ≤ c) :
    w.counted d b c = v.counted d a c := by
  by_cases opens : a = 0 ∧ 0 < b
  · rw [counted_of_heard (by omega), gov]
    exact counted_iff (by omega) v
  · rw [counted_of_heard opens] at gov
    rw [counted_of_same ports gov]
    exact counted_iff (by omega) v

end

/-- R35, R158: in RUN an operation on a path counts an opening where it raises its target from 0. -/
theorem touchPath_counted {s : State} (run : s.mode = .run) {id : PathId} {q : Path} (found : s.findPath id = some q) (f : Path → Path) :
    (s.touchPath id f).gov = s.counted id.dst q.target (aimedAfter s f q).target := by
  rw [touchPath_of_run run found]

/-! ## The openings of an admission -/

theorem onKeyPath_gov {s : State} (aimed : s.aimed) {f : Path → Path} (lowers : ∀ q, s.targetOf (f q) ≤ s.targetOf q) (j : KeyId)
    (p : PortId) : (s.onKeyPath j p fun id s => s.touchPath id f).gov = s.gov := by
  unfold State.onKeyPath
  split
  · refine touchPath_gov fun q found => ?_
    rw [aimed q (findPath_some found).1]
    exact lowers q
  · rfl

/-- R27, R28: an eviction counts no opening. -/
theorem makesRoom_gov {s : State} (aimed : s.aimed) (p : PortId) (e : Ear) : (makesRoom p e s).gov = s.gov := by
  unfold makesRoom
  split
  · rfl
  · rename_i x _
    exact onKeyPath_gov (s := (s.setEar p (some e.lessLast)).report (.earpiece p)) aimed (leave_lowers _ (.key x.key)) x.key p

/-- R31: nor does a suspension. -/
theorem demoteHead_gov {s : State} (aimed : s.aimed) (p : PortId) (k : KeyId) (head : Option TalkEntry) :
    (s.demoteHead p k head).gov = s.gov := by
  cases head with
  | none => rfl
  | some h =>
      change State.gov (if s.keyPath h.key (.port p) = s.keyPath k (.port p) then s else s.onKeyPath h.key p State.suspendPath) = _
      split
      · rfl
      · exact onKeyPath_gov aimed (suspend_lowers s) h.key p

section
variable {v : State} {p o : PortId} {k : KeyId} {e : Ear}

/-- R102, R27, R28: the target level of the key's own path once room has been made. -/
theorem evictedFrom_target (ear : v.ears[p] = some e) (kind : v.ports[p].kind = .earpiece) (stays : ¬ v.turnsAway p k) {q : Path}
    (aimed : AimedAt v q) : (evictedFrom v (victimOf e) o q).target = v.targetLeft k o p q := by
  have gone := evicts_iff (o := o) ear kind stays
  have spared (nobody : ∀ j, ¬ v.evicts k o p j) : q.target = v.targetLeft k o p q := by
    have all : (q.keys.filter fun j : KeyId => decide (¬ v.evicts k o p j)) = q.keys :=
      List.filter_eq_self.2 fun j _ => decide_eq_true (nobody j)
    rw [State.targetLeft, all]
    exact Eq.trans aimed (targetOf_eq v q)
  unfold evictedFrom
  split
  · rename_i none
    refine spared fun j is => ?_
    obtain ⟨x, victim, -⟩ := (gone j).1 is
    exact Option.some_ne_none x (victim.symm.trans none)
  · rename_i x victim
    have only (j : KeyId) : v.evicts k o p j ↔ x.key = j ∧ v.keys[j].owner = some o :=
      (gone j).trans ⟨fun ⟨y, victim', is⟩ => Option.some.inj (victim'.symm.trans victim) ▸ is, fun is => ⟨x, victim, is⟩⟩
    split
    · rename_i own
      have left : (q.keys.filter fun j : KeyId => decide (¬ v.evicts k o p j)) = q.keys.filter fun j => decide (j ≠ x.key) :=
        List.filter_congr fun j _ => decide_eq_decide.2 (not_congr ((only j).trans ⟨fun is => is.1.symm, fun is => ⟨is.symm, is ▸ own⟩⟩))
      rw [withoutKey, aimedAfter_target, targetOf_leave, State.targetLeft, left]
    · rename_i other
      exact spared fun j is => other (((only j).1 is).1 ▸ ((only j).1 is).2)

variable (run : v.mode = .run) (aimed : v.aimed) (ear : v.ears[p] = some e) (owner : v.keys[k].owner = some o)
include run aimed ear owner

/-- R102, R103, R35: an admission opens the key's own path alone. -/
theorem admitted_gov : (v.findPath (talkPath o p) = none → (admitted p k e v).gov = v.gov) ∧
    ∀ q0, v.findPath (talkPath o p) = some q0 → v.ports[p].kind = .earpiece → ¬ v.turnsAway p k →
      ∃ q, (admitted p k e v).findPath (talkPath o p) = some q ∧ v.targetLeft k o p q0 ≤ q.target ∧
        (admitted p k e v).gov = v.counted (.port p) (v.targetLeft k o p q0) q.target := by
  obtain ⟨r, listed⟩ : ∃ r, entered p k (keptList e) (makesRoom p e v) = r := ⟨_, rfl⟩
  have gov : r.gov = v.gov := listed ▸ makesRoom_gov aimed p e
  have same : v.sameRun r := listed ▸ entered_sameRun ear
  have aimed' : r.aimed := by
    have room : (makesRoom p e v).aimed := changes_aimed (makesRoom_changes ear) aimed
    exact listed ▸ room
  have found : r.findPath (talkPath o p) = (v.findPath (talkPath o p)).map (evictedFrom v (victimOf e) o) :=
    listed ▸ findPath_entered k (keptList e) o v
  by_cases takes : v.takesHead p k
  · -- the state in which the key's own path is resumed
    obtain ⟨w, demoted⟩ : ∃ w, r.demoteHead p k e.entries.head? = w := ⟨_, rfl⟩
    have changes : Changes r w := demoted ▸ State.demoteHead_changes p k e.entries.head? r
    have gov' : w.gov = v.gov := demoted ▸ (demoteHead_gov aimed' p k e.entries.head?).trans gov
    have aimed'' : w.aimed := changes_aimed changes aimed'
    have same' : v.sameRun w := same.trans changes.sameRun
    have resumes : admitted p k e v = w.touchPath (talkPath o p) Path.resume := by
      rw [admitted, if_pos takes, displacesHead, listed, demoted, onKeyPath_of_owner ((same'.key k).owner.trans owner)]
      rfl
    have found' : w.findPath (talkPath o p) = (v.findPath (talkPath o p)).map (evictedFrom v (victimOf e) o) := by
      rw [← demoted, findPath_demoteHead ((same.key k).owner.trans owner), found]
      simp only [if_true]
      exact congrFun Option.map_id _
    rw [resumes]
    refine ⟨fun none => ?_, fun q0 is kind stays => ?_⟩
    · rw [none] at found'
      rw [touchPath_of_none found', gov']
    · rw [is, Option.map_some] at found'
      have before := evictedFrom_target (o := o) ear kind stays (aimed q0 (findPath_some is).1)
      refine ⟨_, (findPath_touchPath (fun q => (Path.resume_fixed q).2) w).trans (congrArg (Option.map _) found'), ?_, ?_⟩
      · rw [aimedAfter_target, ← before, aimed'' _ (findPath_some found').1]
        exact resume_raises w _
      · rw [touchPath_counted (same'.mode.trans run) found', before]
        exact counted_of_same same'.ports gov' _ _
  · have stays' : admitted p k e v = r := by rw [admitted, if_neg takes, listed]
    rw [stays']
    refine ⟨fun _ => gov, fun q0 is kind stays => ?_⟩
    rw [is, Option.map_some] at found
    have before := evictedFrom_target (o := o) ear kind stays (aimed q0 (findPath_some is).1)
    refine ⟨_, found, before.ge, ?_⟩
    rw [before, counted_of_heard (by omega), gov]

end

/-! ## The record that a key holds (R24 to R26, R33) -/

/-- R24 to R26: the record of a path that a key has been added to. -/
def heldRecord (w : State) (id : PathId) (k : KeyId) (asked : Bool) : Path :=
  match w.findPath id with
  | none => newPath w id (.key k) asked
  | some q => aimedAfter w (if q.closing then Path.reopen (.key k) asked else Path.join (.key k)) q

section
variable {w : State} {id : PathId} (k : KeyId) (asked : Bool)

theorem addHolder_of_found {q : Path} (found : w.findPath id = some q) : w.addHolder id (.key k) asked =
    (w.touchPath id (if q.closing then Path.reopen (.key k) asked else Path.join (.key k)), true) := by
  cases closing : q.closing with
  | true => rw [addHolder_of_closing found closing, if_pos rfl]
  | false => rw [addHolder_of_open found closing, if_neg Bool.false_ne_true]

theorem heldRecord_of_found {q : Path} (found : w.findPath id = some q) : heldRecord w id k asked =
    aimedAfter w (if q.closing then Path.reopen (.key k) asked else Path.join (.key k)) q := by
  rw [heldRecord, found]

theorem heldRecord_of_absent (absent : w.findPath id = none) : heldRecord w id k asked = newPath w id (.key k) asked := by
  rw [heldRecord, absent]

/-- R24 to R26: the key holds its path, which is open, and suspended only where that is asked for or it was. -/
theorem heldRecord_holds (room : w.findPath id = none → w.roomForNew id = true) :
    heldRecord w id k asked ∈ (w.addHolder id (.key k) asked).1.paths ∧ (heldRecord w id k asked).ident = id ∧
      k ∈ (heldRecord w id k asked).keys ∧ (heldRecord w id k asked).closing = false ∧
      (asked = false → (∀ q, w.findPath id = some q → q.closing = false → q.suspended = false) →
        (heldRecord w id k asked).suspended = false) := by
  cases found : w.findPath id with
  | none =>
      rw [heldRecord_of_absent k asked found, addHolder_of_absent found (room found), createPath_paths]
      exact ⟨mem_insertByPos.2 (.inl rfl), newPath_ident _ _ _ _, List.mem_singleton_self k, rfl, fun head _ => head⟩
  | some q =>
      rw [heldRecord_of_found k asked found, addHolder_of_found k asked found]
      refine ⟨findPath_touched found _, ?_⟩
      rw [aimedAfter_ident, aimedAfter_keys, aimedAfter_closing, aimedAfter_suspended]
      cases closing : q.closing with
      | true =>
          rw [if_pos rfl]
          exact ⟨(Path.reopen_fixed _ _ q).2.trans (findPath_some found).2, List.mem_singleton_self k, rfl, fun head _ => head⟩
      | false =>
          rw [if_neg Bool.false_ne_true]
          exact ⟨(Path.join_fixed _ q).2.trans (findPath_some found).2, mem_insertKey.2 (.inl rfl), closing,
            fun _ heard => heard q rfl closing⟩

/-- R35, R158: the opening that adding the key counts. -/
theorem addHolder_gov (run : w.mode = .run) (aimed : w.aimed) (room : w.findPath id = none → w.roomForNew id = true) :
    (w.findPath id = none → (w.addHolder id (.key k) asked).1.gov = w.counted id.dst 0 (heldRecord w id k asked).target) ∧
      ∀ q, w.findPath id = some q → q.target ≤ (heldRecord w id k asked).target ∧
        (w.addHolder id (.key k) asked).1.gov = w.counted id.dst q.target (heldRecord w id k asked).target := by
  refine ⟨fun absent => ?_, fun q found => ?_⟩
  · rw [heldRecord_of_absent k asked absent, addHolder_of_absent absent (room absent), createPath_eq]
    exact congrArg State.gov (openingIfRaised_eq (s := { w with paths := insertByPos (newPath w id (.key k) asked) w.paths }) run
      0 _ id.dst)
  · rw [heldRecord_of_found k asked found, addHolder_of_found k asked found]
    refine ⟨?_, touchPath_counted run found _⟩
    rw [aimedAfter_target, aimed q (findPath_some found).1]
    cases closing : q.closing with
    | true => rw [State.targetOf, if_pos (.inr closing)]; exact Nat.zero_le _
    | false => exact join_raises w k q

end

end Sys2Proof.Proofs
end

section
/-! PROOFS. PRESS of a key aimed at an EARPIECE port (4.3, 4.4, 6.2): the answers of the port, and what each leaves. -/

namespace Sys2Proof.Proofs

open Sys2Proof.Machine

/-! ## The press (R65 to R67, R69) -/

/-- R67, R69: the delivery of a key that has just been activated. -/
theorem deliver_activated_port (u : State) (k : KeyId) {p : PortId} (target : u.keys[k].target = some (.port p)) :
    (u.setActivation k (pressActivation u.keys[k].mode)).deliver k =
      (pressing u k (pressActivation u.keys[k].mode)).deliverTo k (.port p) := by
  have press : (if u.keys[k].mode = .smart ∧ pressActivation u.keys[k].mode = .held then some u.blockCount else none) =
      if u.keys[k].mode = .smart then some u.blockCount else none := by
    cases u.keys[k].mode <;> rfl
  have begun : (u.setActivation k (pressActivation u.keys[k].mode)).setKey k
      { (u.setActivation k (pressActivation u.keys[k].mode)).keys[k] with delivered := true, entries := [] } =
      pressing u k (pressActivation u.keys[k].mode) := by
    rw [setActivation_key, if_pos rfl, press, State.setActivation, State.setKey, State.report_keys, State.setKey_keys,
      tableSet_tableSet]
    rfl
  have aims : (pressing u k (pressActivation u.keys[k].mode)).keys[k].target = some (.port p) := by
    rw [pressing_key]
    exact target
  rw [State.deliver]
  dsimp only
  rw [begun, aims]

/-- R64, R65: a press of an idle key aimed at a port. -/
theorem press_delivers_port {s u : State} {tag : Byte} {k : KeyId} {p : PortId} (opened : s.opened = u) (takes : s.takesRequests)
    (run : s.mode = .run) (free : ¬ u.callKeyNamed k) (idle : u.keys[k].activation = .idle)
    (target : u.keys[k].target = some (.port p)) :
    let a := pressActivation u.keys[k].mode
    let t := (pressing u k a).deliverTo k (.port p)
    AcceptedWith (.press tag k.val) s t [.u8 a.code, .u8 t.keys[k].delivery.code] ∧ Moved u t k a := by
  have transition : pressedTo true u k = some (pressActivation u.keys[k].mode, .deliver) := by
    rw [pressedTo, if_pos rfl, State.pressOf, idle, pressTransition_idle]
  have moves := press_moves (tag := tag) opened takes run (by rw [target]; rfl) free transition
  rw [State.keyAction, deliver_activated_port u k target] at moves
  exact moves

/-- R69: the press leaves the groups, everything at other destinations and the rest of the part. -/
theorem pressed_frame {u : State} {k : KeyId} (p : PortId)
    (moved : Moved u ((pressing u k (pressActivation u.keys[k].mode)).deliverTo k (.port p)) k (pressActivation u.keys[k].mode)) :
    let t := (pressing u k (pressActivation u.keys[k].mode)).deliverTo k (.port p)
    t.keys[k].activation = pressActivation u.keys[k].mode ∧
      t.keys[k].pressBlock = (if u.keys[k].mode = .smart then some u.blockCount else none) ∧
      u.onlyAt t [p] ∧ t.groups = u.groups ∧ u.sameRest t := by
  have apart := deliverTo_apart (p := p) (pressing u k (pressActivation u.keys[k].mode)) k
  have steady := deliverTo_steady k (.port p) (pressing u k (pressActivation u.keys[k].mode))
  obtain ⟨-, rest, press, -, -⟩ := framed_of_moved (g := 0) moved fun h _ => by rw [steady.groups]; rfl
  exact ⟨moved.1, press, ⟨fun q not => apart.ears q (by simpa using not),
    fun d other => apart.paths d fun q is => other q (List.mem_singleton.2 is)⟩, steady.groups, rest⟩

/-! ## What the port answers (R71, R101, R102) -/

section
variable {u : State} {k : KeyId} {o p : PortId} {e : Ear}

/-- R102: a list in order refuses a key exactly if it is full and its last entry's priority is the key's or higher. -/
theorem turnsAway_iff (ear : u.ears[p] = some e) (wf : e.wf) : u.turnsAway p k ↔
    e.entries.length = 4 ∧ ∃ x, e.entries.getLast? = some x ∧ u.keys[k].priority ≤ x.priority := by
  have full : 4 ≤ e.entries.length ↔ e.entries.length = 4 := ⟨fun most => Nat.le_antisymm wf.1 most, fun is => is.ge⟩
  rw [State.turnsAway, ear]
  simp only [Option.mem_def, Option.some.injEq, forall_eq', full]

/-- R101: a list in order gives its head to a key exactly if every entry's priority is lower. -/
theorem takesHead_iff (ear : u.ears[p] = some e) (wf : e.wf) : u.takesHead p k ↔ ∀ x ∈ e.entries, x.priority < u.keys[k].priority := by
  rw [State.takesHead, ear]
  simp only [Option.mem_some_iff, forall_eq']
  cases sorted : e.entries with
  | nil => simp
  | cons h xs =>
      have below := (List.pairwise_cons.1 (sorted ▸ wf.2)).1
      simp only [List.head?_cons, Option.mem_some_iff, forall_eq', List.mem_cons, forall_eq_or_imp]
      exact ⟨fun lower => ⟨lower, fun x mem => Nat.lt_of_le_of_lt (below x mem) lower⟩, And.left⟩

variable (kind : u.ports[p].kind = .earpiece) {records : Nat} (room : u.hasRoom (talkPath o p) records)
include kind room

theorem portAnswer_of_turnedAway (away : u.turnsAway p k) : u.portAnswer k o p records = .denied .listFull := by
  rw [State.portAnswer, if_neg (not_not_intro room), if_neg (not_not_intro kind), if_pos away]

theorem portAnswer_of_admitted (stays : ¬ u.turnsAway p k) : u.portAnswer k o p records = standing u p k := by
  rw [State.portAnswer, if_neg (not_not_intro room), if_neg (not_not_intro kind), if_neg stays, standing]

end

theorem standing_cases (u : State) (p : PortId) (k : KeyId) : standing u p k = .live ∨ standing u p k = .heldBack := by
  unfold standing
  split
  · exact .inl rfl
  · exact .inr rfl

section
variable {v t : State} {k : KeyId} {o p : PortId}

theorem PortStep.of_denied {st : EntryStatus} {why : DenyReason} (step : PortStep v k o p st t) (denied : st = .denied why) :
    t = v.appendEntry k ⟨some (.port p), .denied why⟩ := by
  cases step with
  | denies => cases denied; rfl
  | opens => cases denied
  | admits => rcases standing_cases v p k with is | is <;> cases is.symm.trans denied

/-- R71, R101 to R104: the state that an admission leaves. -/
theorem PortStep.of_admitted {st : EntryStatus} {e : Ear} (step : PortStep v k o p st t) (admitted' : st = standing v p k)
    (kind : v.ports[p].kind = .earpiece) (ear : v.ears[p] = some e) :
    t = ((admitted p k e v).addHolder (talkPath o p) (.key k) (decide (st = .heldBack))).1.appendEntry k ⟨some (.port p), st⟩ := by
  cases step with
  | denies => rcases standing_cases v p k with is | is <;> cases admitted'.trans is
  | opens plain => exact absurd kind plain
  | admits e' ear' => cases Option.some.inj (ear.symm.trans ear'); rfl

end

/-! ## A denial (R71, R102) -/

/-- R69, R78: the destination's answer joins the delivery list; the KEY notice of the activation stands for both. -/
theorem appendEntry_pressing {u : State} (quiet : u.link.reading = none) (k : KeyId) (a : Activation) (x : DestEntry) :
    (pressing u k a).appendEntry k x =
      State.report (.key k) { u with keys := u.keys.set k (pressedKey u.keys[k] a u.blockCount [x]) } := by
  have keys : tableSet (pressing u k a).keys k (pressedKey u.keys[k] a u.blockCount [x]) = _ := tableSet_tableSet u.keys k _ _
  have link : (pressing u k a).link.report (.key k) = u.link.report (.key k) := report_twice quiet k
  rw [State.appendEntry, pressing_key]
  exact congrArg₂ (fun keys link => ({ u with keys := keys, link := link } : State)) keys link

section
variable {u : State} {k : KeyId} {o p : PortId} (a : Activation) (owner : u.keys[k].owner = some o) (unlisted : Unlisted u k p)
include owner unlisted

/-- R70, R71: the answer of the port to the pressed key is the one before the press. -/
theorem pressing_step : PortStep (pressing u k a) k o p (u.portAnswer k o p u.paths.length)
    ((pressing u k a).deliverTo k (.port p)) := by
  have alike := pressing_alike u k a p
  have step := deliverTo_step ((alike.owner k).trans owner) (unlisted.alike alike)
  rwa [alike.portAnswer k o (m := (pressing u k a).paths.length) (n := u.paths.length) Iff.rfl] at step

/-- R71, R73, R102: a denial is the key's one destination, and changes nothing else. -/
theorem pressing_denied (noWait : u.keys[k].deadline = none) (quiet : u.link.reading = none) {why : DenyReason}
    (answer : u.portAnswer k o p u.paths.length = .denied why) :
    let t := (pressing u k a).deliverTo k (.port p)
    t = State.report (.key k) { u with keys := u.keys.set k (pressedKey u.keys[k] a u.blockCount [⟨some (.port p), .denied why⟩]) } ∧
      t.keys[k].entries = [⟨some (.port p), .denied why⟩] ∧ t.keys[k].delivery.code = 5 := by
  intro t
  have eq : t = _ := ((pressing_step a owner unlisted).of_denied answer).trans (appendEntry_pressing quiet k a _)
  have key : t.keys[k] = pressedKey u.keys[k] a u.blockCount [⟨some (.port p), .denied why⟩] := by
    rw [eq]
    exact tableSet_self u.keys k _
  refine ⟨eq, by rw [key]; rfl, ?_⟩
  rw [key]
  exact delivery_single (r := pressedKey u.keys[k] a u.blockCount [⟨some (.port p), .denied why⟩]) (st := .denied why) rfl noWait rfl

end

/-! ## An admission (R101 to R104) -/

/-- R35, R158: from `u` to `t` an opening of the record `q` of key `k`'s path has been counted if its target level has risen from 0, over a
path table whose targets are those of R21. -/
def CountsOpening (u t : State) (k : KeyId) (o p : PortId) (q : Path) : Prop := u.aimed →
  ((∀ x ∈ u.paths, x.ident ≠ talkPath o p) → t.gov = u.counted (.port p) 0 q.target) ∧
  ∀ x ∈ u.paths, x.ident = talkPath o p → (∀ y ∈ u.paths, y.ident = talkPath o p → y = x) →
    t.gov = u.counted (.port p) (u.targetLeft k o p x) q.target

section
variable {v : State} {k : KeyId} {o p : PortId} {e : Ear} (ear : v.ears[p] = some e) (owner : v.keys[k].owner = some o)
include ear owner

theorem admitted_room (room : v.hasRoom (talkPath o p) v.paths.length) (absent : (admitted p k e v).findPath (talkPath o p) = none) :
    (admitted p k e v).roomForNew (talkPath o p) = true := by
  rw [findPath_admitted_own ear owner, Option.map_eq_none_iff] at absent
  rw [roomForNew_of_idents (admitted_within p k e v).idents]
  exact (roomForNew_iff _ _).2 (room.resolve_left fun ⟨q, mem, ident⟩ => findPath_none.1 absent q mem ident)

/-- R32: the path of a key that takes the head is not suspended. -/
theorem admitted_heard (kind : v.ports[p].kind = .earpiece) (stays : ¬ v.turnsAway p k) (live : standing v p k = .live) {q : Path}
    (found : (admitted p k e v).findPath (talkPath o p) = some q) (isOpen : q.closing = false) : q.suspended = false := by
  have there := found
  rw [findPath_admitted_own ear owner, Option.map_eq_some_iff] at there
  obtain ⟨q0, found0, -⟩ := there
  obtain ⟨q', found', ready⟩ := admitted_readied ear owner kind stays found0
  cases Option.some.inj (found'.symm.trans found)
  rw [ready.suspended isOpen, if_pos (decide_eq_true ⟨live, kind⟩)]

variable (unlisted : ∀ x ∈ e.entries, x.key ≠ k) (stays : ¬ v.turnsAway p k)
include unlisted stays

/-- R35, R158: the opening that an admission counts, once the key holds its path. -/
theorem admitted_counts (run : v.mode = .run) (kind : v.ports[p].kind = .earpiece) (room : v.hasRoom (talkPath o p) v.paths.length)
    (asked : Bool) : CountsOpening v ((admitted p k e v).addHolder (talkPath o p) (.key k) asked).1 k o p
      (heldRecord (admitted p k e v) (talkPath o p) k asked) := by
  intro aimed
  have changes := admitted_run ear unlisted stays
  have same := changes.sameRun
  obtain ⟨openedNone, opened⟩ := admitted_gov run aimed ear owner
  obtain ⟨addedNone, added⟩ := addHolder_gov k asked (same.mode.trans run) (changes_aimed changes aimed) (admitted_room ear owner room)
  refine ⟨fun absent => ?_, fun x mem ident only => ?_⟩
  · have none := findPath_none.2 absent
    rw [addedNone (by rw [findPath_admitted_own ear owner, none]; rfl)]
    exact counted_of_same same.ports (openedNone none) _ _
  · obtain ⟨q, found, raised, gov⟩ := opened x (findPath_of_unique mem ident only) kind stays
    obtain ⟨raised', gov'⟩ := added q found
    rw [gov']
    exact counted_counted same.ports gov raised raised'

end

/-- What a press of key `k` of owner `o` that the list `e` of port `p` admits leaves, the key standing as `st`. -/
structure Admits (u t : State) (k : KeyId) (o p : PortId) (e : Ear) (st : EntryStatus) : Prop where
  entries : t.keys[k].entries = [⟨some (.port p), st⟩]
  delivery : t.keys[k].delivery.code = st.code
  list : t.ears[p] = some (joinedList u p k e)
  joins : u.joins t k o p st
  displaces : u.displaces t k o p
  link : t.link = reported ([.key k, .earpiece p] ++ keyNotices (victimOf e).toList ++
    if u.takesHead p k then keyNotices e.entries.head?.toList else []) u.link
  path : ∃ q ∈ t.paths, q.ident = talkPath o p ∧ k ∈ q.keys ∧ q.closing = false ∧ (st = .live → q.suspended = false) ∧
    CountsOpening u t k o p q

section
variable {u : State} {k : KeyId} (a : Activation)

/-- R35: what is counted is the same said of the state before the press. -/
theorem countsOpening_of_pressing {t : State} {o p : PortId} {q : Path} (h : CountsOpening (pressing u k a) t k o p q) :
    CountsOpening u t k o p q := by
  intro aimed
  have left (x : Path) : (pressing u k a).targetLeft k o p x = u.targetLeft k o p x := by
    have alike := pressing_alike u k a p
    simp only [State.targetLeft, alike.evicts, alike.loudest]
  have counted := h (aimed_of_same (fun j => pressing_level u k j a) rfl rfl aimed)
  simp only [pressing_counted, left] at counted
  exact counted

theorem joinedList_pressing (p : PortId) (e : Ear) : joinedList (pressing u k a) p k e = joinedList u p k e := by
  rw [joinedList, joinedList, (pressing_alike u k a p).priority k]
  rfl

theorem addHolder_link (id : PathId) (h : Holder) (asked : Bool) (s : State) : (s.addHolder id h asked).1.link = s.link := by
  obtain ⟨paths, records, eq, -⟩ := addHolder_onlyOpens id h asked s
  rw [eq]

/-- R78, R113: the notices of the press: KEY, EARPIECE, then the evicted key's and that of the head before. -/
theorem admitted_pressing_link (quiet : u.link.reading = none) (p : PortId) (e : Ear) :
    (admitted p k e (pressing u k a)).link.report (.key k) =
      reported ([.key k, .earpiece p] ++ keyNotices (victimOf e).toList ++
        if u.takesHead p k then keyNotices e.entries.head?.toList else []) u.link := by
  have told : (pressing u k a).link.reading = none := (told_report quiet rfl).quiet
  have eq : (admitted p k e (pressing u k a)).link = reported ([.key k, .earpiece p] ++ keyNotices (victimOf e).toList ++
      if u.takesHead p k then keyNotices e.entries.head?.toList else []) u.link := by
    rw [admitted_link told]
    simp only [(pressing_alike u k a p).takesHead k]
    rfl
  rw [eq]
  refine reported_again quiet (fun n mem => ?_) (by simp)
  rcases List.mem_append.1 mem with first | head
  · rcases List.mem_append.1 first with own | victim
    · rcases List.mem_pair.1 own with rfl | rfl <;> rfl
    · exact keyNotices_kind victim
  · split at head
    · exact keyNotices_kind head
    · cases head

variable {o p : PortId} {e : Ear} (ear : u.ears[p] = some e) (owner : u.keys[k].owner = some o)
  (unlisted : ∀ x ∈ e.entries, x.key ≠ k) (noWait : u.keys[k].deadline = none)
include ear owner unlisted noWait

theorem pressing_admits (wf : e.wf) (quiet : u.link.reading = none) (run : u.mode = .run) (kind : u.ports[p].kind = .earpiece)
    (room : u.hasRoom (talkPath o p) u.paths.length) (stays : ¬ u.turnsAway p k) :
    Admits u ((pressing u k a).deliverTo k (.port p)) k o p e (standing u p k) := by
  have alike := pressing_alike u k a p
  have unlisted' : Unlisted u k p := fun e' ear' => by cases Option.some.inj (ear.symm.trans ear'); exact unlisted
  have step := pressing_step a owner unlisted'
  rw [portAnswer_of_admitted kind room stays] at step
  have owner' : (pressing u k a).keys[k].owner = some o := (alike.owner k).trans owner
  have same : standing (pressing u k a) p k = standing u p k := by rw [standing, standing]; simp only [alike.takesHead k]
  have stays' : ¬ (pressing u k a).turnsAway p k := stays ∘ (alike.turnsAway k).1
  have room' : (pressing u k a).hasRoom (talkPath o p) (pressing u k a).paths.length := room
  have eq := step.of_admitted same.symm kind ear
  obtain ⟨delivered, deadline, empty⟩ := pressing_record a noWait
  have steady := deliverTo_steady k (.port p) (pressing u k a)
  have entries : ((pressing u k a).deliverTo k (.port p)).keys[k].entries = [⟨some (.port p), standing u p k⟩] := by
    rw [step.entries (unlisted'.alike alike), empty]
    rfl
  obtain ⟨joins, -, atEar⟩ := (portAnswered_congr alike (.refl (fun _ => False) _) id id
    (step.answered owner' (unlisted'.alike alike))).1 (standing_cases u p k)
  obtain ⟨held, ident, holds, isOpen, heard⟩ := heldRecord_holds k (decide (standing u p k = .heldBack))
    (admitted_room (v := pressing u k a) ear owner' room')
  refine ⟨entries, ?_, ?_, joins, (atEar kind e ear wf).2.1, ?_, ?_⟩
  · refine delivery_single ?_ ?_ entries <;> rw [steady.record]
    · exact delivered
    · exact deadline
  · rw [eq]
    refine Eq.trans (congrArg (·[p]) (addHolder_ears _ _ _ _)) ?_
    rw [admitted_list (s := pressing u k a) ear wf, joinedList_pressing]
  · rw [eq]
    exact (congrArg (ControlLink.report · (.key k)) (addHolder_link _ _ _ _)).trans (admitted_pressing_link a quiet p e)
  · rw [eq]
    refine ⟨_, held, ident, holds, isOpen, fun live => heard (decide_eq_false (by rw [live]; decide)) fun q found isOpen =>
      admitted_heard (v := pressing u k a) ear owner' kind stays' (same.trans live) found isOpen, ?_⟩
    exact countsOpening_of_pressing a (admitted_counts (v := pressing u k a) ear owner' unlisted stays' run kind room' _)

end

/-- The notices of an eviction, in a list of 4 entries at most. -/
theorem victimOf_notices {e : Ear} (wf : e.wf) : keyNotices (victimOf e).toList =
    if e.entries.length = 4 then e.entries.getLast?.toList.map fun x => .key x.key else [] := by
  have most := wf.1
  unfold victimOf
  split
  · rw [if_neg (by omega)]
    rfl
  · rw [if_pos (by omega)]
    rfl

/-- Settles O38: the press begins the delivery (`press_delivers_port`); the port denies it (`pressing_denied`) or admits the key
(`pressing_admits`), at the head of its list or behind it. -/
theorem pressJoinsTheInterruptList : Obligations.PressJoinsTheInterruptList := by
  unfold Obligations.PressJoinsTheInterruptList
  intro s tag k o p e u opened r id a ahead placed goes opens takes run free idle owner noWait target kind ear wf unlisted room depth
    taken leads kept refused evicted demoted reports
  obtain ⟨accepted, moved⟩ := press_delivers_port (tag := tag) opened takes run free idle target
  obtain ⟨activation, press, only, groups, rest⟩ := pressed_frame p moved
  have accepted {n : Nat} (code : ((pressing u k a).deliverTo k (.port p)).keys[k].delivery.code = n) :
      AcceptedWith (.press tag k.val) s ((pressing u k a).deliverTo k (.port p)) [.u8 a.code, .u8 n] := code ▸ accepted
  have quiet : u.link.reading = none := by rw [← opened, State.opened, State.openWrite_link]
  have running : u.mode = .run := opened ▸ s.opened_outside.2.1.trans run
  have unlisted' : Unlisted u k p := fun e' ear' => by cases Option.some.inj (ear.symm.trans ear'); exact unlisted
  have away : u.turnsAway p k ↔ refused := turnsAway_iff ear wf
  have heads : u.takesHead p k ↔ leads := takesHead_iff ear wf
  refine ⟨fun noRoom => ?_, fun hasRoom turned => ?_, fun hasRoom stays lead => ?_, fun hasRoom stays behind => ?_⟩
  · obtain ⟨eq, -, code⟩ := pressing_denied a owner unlisted' noWait quiet (why := .noSpace) (if_pos noRoom)
    have accepted := accepted code
    rw [eq] at accepted
    exact accepted
  · obtain ⟨eq, entries, code⟩ := pressing_denied a owner unlisted' noWait quiet (portAnswer_of_turnedAway kind hasRoom (away.2 turned))
    refine ⟨_, accepted code, ⟨?_, activation, press, only, groups, rest⟩, ?_, ?_, ?_, entries⟩
    all_goals rw [eq]
    · exact ear
    all_goals rfl
  · obtain ⟨entries, delivery, list, joins, displaces, link, q, mem, ident, holds, isOpen, heard, counts⟩ :=
      pressing_admits a ear owner unlisted noWait wf quiet running kind hasRoom (stays ∘ away.1)
    have live : standing u p k = .live := if_pos (heads.2 lead)
    rw [live] at entries delivery joins heard
    rw [if_pos (heads.2 lead), victimOf_notices wf] at link
    exact ⟨_, q, accepted delivery, ⟨list, activation, press, only, groups, rest⟩, entries, mem, ident, holds, heard rfl, isOpen,
      joins, displaces, counts, link⟩
  · obtain ⟨entries, delivery, list, joins, displaces, link, q, mem, ident, holds, isOpen, -, counts⟩ :=
      pressing_admits a ear owner unlisted noWait wf quiet running kind hasRoom (stays ∘ away.1)
    have heldBack : standing u p k = .heldBack := if_neg (behind ∘ heads.1)
    rw [heldBack] at entries delivery joins
    rw [if_neg (behind ∘ heads.1), victimOf_notices wf, List.append_nil] at link
    exact ⟨_, q, accepted delivery, ⟨list, activation, press, only, groups, rest⟩, entries, mem, ident, holds, isOpen, joins,
      displaces, counts, link⟩

end Sys2Proof.Proofs
end

section
/-! PROOFS. CHANNEL, CHANNEL_CLOSE and FILTER (7.2, 7.3): the records that they write, and their refusals. -/

namespace Sys2Proof.Proofs

open Sys2Proof.Machine

/-! ## A channel's record rewritten (R137) -/

/-- R137: a record that keeps its state and its flags is not reported; any other is. -/
theorem putChannel_eq_ite (ch : ChanId) (c : Machine.Channel) (s : State) : s.putChannel ch c =
    if s.rx.channels[ch].state = c.state ∧ s.rx.channels[ch].degraded = c.degraded ∧ s.rx.channels[ch].excess = c.excess then
      s.setChannel ch c
    else (s.setChannel ch c).report (.link ch) := by
  unfold State.putChannel
  simp only [Bool.and_eq_true, decide_eq_true_eq, beq_iff_eq, and_assoc]

/-- R137: a change of state is reported. -/
theorem putChannel_of_moved {ch : ChanId} {c : Machine.Channel} {s : State} (moved : s.rx.channels[ch].state ≠ c.state) :
    s.putChannel ch c = (s.setChannel ch c).report (.link ch) := by
  rw [putChannel_eq_ite, if_neg fun same => moved same.1]

/-! ## CHANNEL (R121) -/

/-- R121: how a request of kind CHANNEL in CONFIG comes to be accepted or refused. -/
theorem channel_refused {s : State} {st : Status} {tag : Byte} {n op : Nat} {id : LinkId} {prime delay k : Option Nat}
    (takes : s.takesRequests) (mode : s.mode = .config)
    (answer : s.opened.channelRequest n op id prime delay k = refuse st s.opened) :
    RefusedWith (.channel tag n op id prime delay k) st s :=
  RefusedWith.of takes rfl rfl (by rw [mode]; rfl) answer

/-- R121: a configuration whose numbers can be read, of a channel to which a FIELD port is bound or not. -/
theorem channelRequest_of_read (u : State) (c : ChanId) (id : LinkId) (prime delay : Option Nat) (k : Option KeyId) :
    (u.bound c → u.channelRequest c.val 1 id prime delay (k.map Fin.val) =
      accept (u.putChannel c { u.rx.channels[c].restart with config := some (channelConfig id prime delay k) })) ∧
    (¬ u.bound c → u.channelRequest c.val 1 id prime delay (k.map Fin.val) = refuse .notFound u) := by
  have unbound : (u.fieldPort c).isNone = true ↔ ¬ u.bound c := by
    rw [← State.fieldPort_isSome_iff, Option.isNone_iff_eq_none, Option.not_isSome_iff_eq_none]
  rw [State.channelRequest]
  dsimp only
  rw [objectNumber_val, optionally_map objectNumber_val]
  exact ⟨fun bound => if_neg fun none => unbound.1 none bound, fun free => if_pos (unbound.2 free)⟩

/-- R121: a channel or a call key out of range. -/
theorem channelRequest_of_unread (u : State) {n : Nat} (id : LinkId) (prime delay : Option Nat) {k : Option Nat}
    (bad : 8 ≤ n ∨ ∃ j, k = some j ∧ 256 ≤ j) : u.channelRequest n 1 id prime delay k = refuse .badArg u := by
  rw [State.channelRequest]
  dsimp only
  rcases bad with far | ⟨j, rfl, far⟩
  · rw [objectNumber_eq_none.2 far]
  · rw [optionally_of_none (objectNumber_eq_none.2 far)]
    cases objectNumber 8 n <;> rfl

theorem channelRequest_of_noOperation (u : State) (n : Nat) {op : Nat} (far : 2 ≤ op) (id : LinkId) (prime delay k : Option Nat) :
    u.channelRequest n op id prime delay k = refuse .badArg u := by
  unfold State.channelRequest
  split
  · omega
  · omega
  · rfl

theorem closeRequest_val (u : State) (c : ChanId) : u.closeRequest c.val = accept (u.closeChannel c) := by
  rw [State.closeRequest, objectNumber_val]

/-- Settles O15: the configuration and CLOSE rewrite the record through `putChannel`; then the refusals in turn. -/
theorem channelConfiguresAndCloses : Obligations.ChannelConfiguresAndCloses := by
  unfold Obligations.ChannelConfiguresAndCloses
  rintro s tag c takes mode u rfl closed old
  have admits : AllowedIn.admits .configOnly s.mode = true := by rw [mode]; rfl
  refine ⟨fun id prime delay k bound => ?_, ?_, fun _ _ _ _ => rfl, fun n far => ?_, fun n id prime delay k far => ?_,
    fun n op id prime delay k far => ?_, fun n id prime delay k far => ?_, fun id prime delay k unbound => ?_⟩
  · refine AcceptedWith.of takes rfl rfl admits ?_
    rw [(channelRequest_of_read _ _ _ _ _ _).1 bound, putChannel_eq_ite]
    rfl
  · refine AcceptedWith.of takes rfl rfl admits ?_
    rw [closeRequest_val]
    by_cases shut : old.state = .closed
    · rw [closeChannel_of_closed shut, if_pos shut]; rfl
    · rw [closeChannel_of_open shut, if_neg shut]; rfl
  · exact RefusedWith.of takes rfl rfl admits (by rw [State.closeRequest, objectNumber_eq_none.2 far])
  · exact channel_refused takes mode (channelRequest_of_unread _ _ _ _ (.inl far))
  · exact channel_refused takes mode (channelRequest_of_noOperation _ _ far _ _ _ _)
  · exact channel_refused takes mode (channelRequest_of_unread _ _ _ _ (.inr ⟨k, rfl, far⟩))
  · exact channel_refused takes mode ((channelRequest_of_read _ _ _ _ _ _).2 unbound)

/-! ## FILTER (R119) -/

theorem flagOf_none {n : Nat} (far : 2 ≤ n) : flagOf n = none := by rw [flagOf] <;> omega

/-- Settles O16. -/
theorem filterWritesOneFilter : Obligations.FilterWritesOneFilter := by
  unfold Obligations.FilterWritesOneFilter
  rintro s tag value mask takes mode u rfl
  have admits : AllowedIn.admits .configOnly s.mode = true := by rw [mode]; rfl
  refine ⟨fun f e c => AcceptedWith.of takes rfl rfl admits ?_, fun f e c bad => RefusedWith.of takes rfl rfl admits ?_⟩
  · have flag : flagOf (if e then 1 else 0) = some e := flagOf_flagCode e
    rw [State.filterRequest, objectNumber_val, objectNumber_val, flag]
    rfl
  · rw [State.filterRequest]
    split
    · rename_i filter enabled channel
      rcases bad with far | far | far
      · rw [objectNumber_eq_none.2 far] at filter; cases filter
      · rw [flagOf_none far] at enabled; cases enabled
      · rw [objectNumber_eq_none.2 far] at channel; cases channel
    · rfl

end Sys2Proof.Proofs
end

section
/-! PROOFS. A channel's record (7.3 to 7.6): what it yields at a block, and what an AUDIO frame does to it, by its state. -/

namespace Sys2Proof.Proofs

open Sys2Proof.Machine

/-! ## The ring (7.3.8) -/

theorem holds_of_held {c : Machine.Channel} {q : Seq} {b : RingBlock} (held : c.ring[ringPlace q] = some b) (seq : b.seq = q) :
    c.holds q = some b := by
  rw [Channel.holds, held]
  exact if_pos (decide_eq_true seq)

theorem holds_of_missing {c : Machine.Channel} {q : Seq} (missing : ∀ b, c.ring[ringPlace q] = some b → b.seq ≠ q) :
    c.holds q = none :=
  Option.filter_eq_none_iff.2 fun b held same => missing b held (of_decide_eq_true same)

theorem holds_isSome_iff (c : Machine.Channel) (q : Seq) :
    (c.holds q).isSome = true ↔ ∃ b, c.ring[ringPlace q] = some b ∧ b.seq = q := by
  refine ⟨fun some => ?_, fun ⟨b, held, seq⟩ => by rw [holds_of_held held seq]; rfl⟩
  by_contra missing
  rw [holds_of_missing fun b held seq => missing ⟨b, held, seq⟩] at some
  cases some

theorem inWindow_iff (q e : Seq) : inWindow q e = true ↔ (q - e).toNat ≤ 31 := decide_eq_true_iff

theorem aheadOrEqual_iff (q e : Seq) : aheadOrEqual q e = true ↔ (q - e).toNat < 32768 := decide_eq_true_iff

/-! ## The yield (R128 to R130) -/

/-- 0.4.3, R129: half a sample lies within the sample range, so that a concealed block is not clipped. -/
theorem halve_get (b : Block) (j : Fin 48) : ((halve b)[j]).toInt = roundDiv 2 (b[j]).toInt := by
  have low := BitVec.le_toInt b[j]
  have high := BitVec.toInt_lt (x := b[j])
  rw [halve, tableMap_get, sampleOf, BitVec.toInt_ofInt_eq_self (by decide)]
  all_goals simp only [roundDiv]; omega

/-- R128: the yield of a RUNNING channel that holds the expected block. -/
theorem yieldBlock_of_held {c : Machine.Channel} {e : Seq} {b : RingBlock} (running : c.state = .running)
    (next : c.nextSeq = some e) (held : c.holds e = some b) : c.yieldBlock =
      ({ (c.takeOut e).lower with conceal := 0, nextSeq := some (e + 1), prevYield := b.samples }, .taken) := by
  rw [Channel.yieldBlock, running, next]
  dsimp only
  rw [held]

/-- R129: the yield of a RUNNING channel that does not hold it. -/
theorem yieldBlock_of_missing {c : Machine.Channel} {e : Seq} (running : c.state = .running) (next : c.nextSeq = some e)
    (missing : c.holds e = none) : c.yieldBlock =
      ({ c.raise with conceal := c.conceal + 1, nextSeq := some (e + 1), prevYield := halve c.prevYield }, .concealed) := by
  rw [Channel.yieldBlock, running, next]
  dsimp only
  rw [missing]

/-- R128: any other channel yields silence; the blocks of PRIMING are counted (R124). -/
theorem yieldBlock_of_idle {c : Machine.Channel} (idle : c.state ≠ .running) : c.yieldBlock =
    ({ c with prevYield := silence, idle := if c.state = .priming then c.idle + 1 else c.idle }, .silence) := by
  unfold Channel.yieldBlock
  split
  · rename_i running _; exact absurd running idle
  · rename_i priming; rw [if_pos priming]
  · rename_i notPriming _; rw [if_neg notPriming]

/-- R130: the fall of the quality count, which stops at 0. -/
theorem lower_eq (c : Machine.Channel) : c.lower = { c with
    quality := c.quality - 1
    degraded := if c.quality = 0 then c.degraded else c.degraded && decide (64 ≤ c.quality - 1) } := by
  unfold Channel.lower
  split
  · rename_i zero
    have still : c.quality - 1 = c.quality := by omega
    rw [still]
  · rfl

/-- Settles O41. -/
theorem yieldFollowsTheRing : Obligations.YieldFollowsTheRing := by
  unfold Obligations.YieldFollowsTheRing
  intro c
  refine ⟨fun e b running next held seq => ?_, fun e running next missing => ?_, fun idle => ?_⟩
  · rw [yieldBlock_of_held running next (holds_of_held held seq), lower_eq]
    exact ⟨rfl, rfl⟩
  · rw [yieldBlock_of_missing running next (holds_of_missing missing)]
    exact ⟨rfl, halve_get _, rfl⟩
  · rw [yieldBlock_of_idle idle]
    exact ⟨rfl, rfl⟩

/-! ## AUDIO frames (R122 to R126, R133) -/

/-- 7.4: the block of this sequence is held already. -/
abbrev Duplicate (c : Machine.Channel) (q : Seq) : Prop := ∃ x, c.ring[ringPlace q] = some x ∧ x.seq = q

section
variable {c : Machine.Channel} {q e : Seq} (b : Block) (next : c.nextSeq = some e)
include next

/-- R123: what a PRIMING channel does with a duplicate, a new frame in the window, one ahead of it, and a late one. -/
theorem takePriming_cases :
    ((q - e).toNat ≤ 31 → Duplicate c q → c.takePriming q b = c) ∧
    ((q - e).toNat ≤ 31 → ¬ Duplicate c q → c.takePriming q b = c.primeStore q b) ∧
    (31 < (q - e).toNat → (q - e).toNat < 32768 → c.takePriming q b = ({ c.flush with nextSeq := some q }).primeStore q b) ∧
    (32768 ≤ (q - e).toNat → c.takePriming q b = c) := by
  rw [Channel.takePriming, next]
  simp only [inWindow_iff, aheadOrEqual_iff, holds_isSome_iff]
  refine ⟨fun near same => ?_, fun near new => ?_, fun far ahead => ?_, fun late => ?_⟩
  · rw [if_pos near, if_pos same]
  · rw [if_pos near, if_neg new]
  · rw [if_neg (by omega), if_pos ahead]
  · rw [if_neg (by omega), if_neg (by omega)]

/-- R125: what a RUNNING channel does with them; a frame ahead of the window resynchronises it unless the rise calls for a drop
(R132). -/
theorem takeRunning_cases :
    ((q - e).toNat ≤ 31 → Duplicate c q → c.takeRunning q b = c) ∧
    ((q - e).toNat ≤ 31 → ¬ Duplicate c q → c.takeRunning q b = c.put q b) ∧
    (31 < (q - e).toNat → (q - e).toNat < 32768 → c.raise.quality < 255 →
      c.takeRunning q b = { (c.raise.primeFrom q b) with conceal := 0 }) ∧
    (31 < (q - e).toNat → (q - e).toNat < 32768 → c.raise.quality = 255 → c.takeRunning q b = c.raise) ∧
    (32768 ≤ (q - e).toNat → c.takeRunning q b = c.raise) := by
  rw [Channel.takeRunning, next]
  simp only [inWindow_iff, aheadOrEqual_iff, holds_isSome_iff]
  refine ⟨fun near same => ?_, fun near new => ?_, fun far ahead stays => ?_, fun far ahead drops => ?_, fun late => ?_⟩
  · rw [if_pos near, if_pos same]
  · rw [if_pos near, if_neg new]
  · rw [if_neg (by omega), if_pos ahead]
    exact if_neg (Nat.ne_of_lt stays)
  · rw [if_neg (by omega), if_pos ahead]
    exact if_pos drops
  · rw [if_neg (by omega), if_neg (by omega)]

end

/-- R122 to R126, R133: what takes the frame, by the state. -/
theorem takeAudio_of_state (c : Machine.Channel) (q : Seq) (b : Block) :
    (c.state = .closed → ∀ x, c.takeAudio q x = c) ∧
    (c.state = .waiting → c.takeAudio q none = c ∧ c.takeAudio q (some b) = c.primeFrom q b) ∧
    (c.state = .priming → c.takeAudio q none = c.raise ∧ c.takeAudio q (some b) = c.takePriming q b) ∧
    (c.state = .running → c.takeAudio q none = c.raise ∧ c.takeAudio q (some b) = c.takeRunning q b) ∧
    (c.state = .dropped → c.takeAudio q none = { c with run := 0, nextSeq := none, held := none } ∧
      c.takeAudio q (some b) = c.takeDropped q b) := by
  unfold Channel.takeAudio
  refine ⟨fun state x => ?_, fun state => ?_, fun state => ?_, fun state => ?_, fun state => ?_⟩
  · rw [state]
  all_goals rw [state]; exact ⟨rfl, rfl⟩

/-- Settles O46: the state chooses what takes the frame; PRIMING and RUNNING then tell the four kinds of frame apart. -/
theorem channelTakesAudioByItsState : Obligations.ChannelTakesAudioByItsState := by
  unfold Obligations.ChannelTakesAudioByItsState
  intro c q b single stored duplicate risen primed
  obtain ⟨closed, waiting, priming, running, dropped⟩ := takeAudio_of_state c q b
  refine ⟨fun state => ⟨closed state _, closed state _⟩, waiting, fun state => (priming state).1,
    fun state => (running state).1, dropped, fun e next => ⟨fun state => ?_, fun state => ?_⟩⟩
  · rw [(priming state).2]
    exact takePriming_cases b next
  · rw [(running state).2]
    exact takeRunning_cases b next

/-! ## What is due for a channel (R124, R129, R132, R133) -/

theorem dropDue_iff (c : Machine.Channel) :
    c.dropDue = true ↔ (c.state = .priming ∨ c.state = .running) ∧ c.quality = 255 := by
  simp only [Channel.dropDue, Bool.and_eq_true, Bool.or_eq_true, decide_eq_true_eq]
  rfl

theorem idleDue_iff (c : Machine.Channel) : c.idleDue = true ↔ c.state = .priming ∧ 500 ≤ c.idle ∧ c.quality ≠ 255 := by
  rw [Channel.idleDue, Bool.and_eq_true, Bool.and_eq_true, decide_eq_true_eq, decide_eq_true_eq, Bool.not_eq_true',
    ← Bool.not_eq_true, dropDue_iff, and_assoc]
  exact and_congr_right fun priming => and_congr_right fun _ => not_congr (and_iff_right (.inl priming))

theorem concealDue_iff (c : Machine.Channel) : c.concealDue = true ↔ c.state = .running ∧ 4 ≤ c.conceal ∧ c.quality ≠ 255 := by
  rw [Channel.concealDue, Bool.and_eq_true, Bool.and_eq_true, decide_eq_true_eq, decide_eq_true_eq, Bool.not_eq_true',
    ← Bool.not_eq_true, dropDue_iff, and_assoc]
  exact and_congr_right fun running => and_congr_right fun _ => not_congr (and_iff_right (.inr running))

theorem recoveryDue_iff (c : Machine.Channel) : c.recoveryDue = true ↔ c.state = .dropped ∧ c.run = 128 ∧ c.held.isSome := by
  simp only [Channel.recoveryDue, Bool.and_eq_true, decide_eq_true_eq, and_assoc]
  rfl

/-! ## CONCEAL_LIMIT and CHANNEL_RECOVERY (R129, R133) -/

theorem exec_concealLimit {s : State} (high : s.rstnLow = false) (ch : ChanId) :
    exec (.concealLimit ch) s = .next (s.takeConcealLimit ch) := congrArg Host.Outcome.next (State.ownStep_of_high high _)

theorem exec_channelRecovery {s : State} (high : s.rstnLow = false) (ch : ChanId) :
    exec (.channelRecovery ch) s = .next (s.takeRecovery ch) := congrArg Host.Outcome.next (State.ownStep_of_high high _)

theorem recover_of_held {c : Machine.Channel} {b : RingBlock} (held : c.held = some b) :
    c.recover = { (c.primeFrom b.seq b.samples) with quality := 0, degraded := false, run := 0, held := none } := by
  rw [Channel.recover, held]

/-- Settles O49: each step is `putChannel` of its record where it is due; both enter PRIMING from another state, and so are
reported. -/
theorem concealLimitAndRecovery : Obligations.ConcealLimitAndRecovery := by
  unfold Obligations.ConcealLimitAndRecovery
  intro s ch high c put limit
  have enters (r : Machine.Channel) (before : c.state ≠ .priming) (after : r.state = .priming) : s.putChannel ch r = put r :=
    putChannel_of_moved fun same => before (same.trans after)
  refine ⟨fun due => ?_, fun notDue => ?_, fun b state run held => ?_, fun notDue => ?_⟩
  · rw [exec_concealLimit high, State.takeConcealLimit, if_pos ((concealDue_iff c).2 due), enters _ (by rw [due.1]; decide) rfl]
    rfl
  · rw [exec_concealLimit high, State.takeConcealLimit_of_not_due (Bool.eq_false_iff.2 (notDue ∘ (concealDue_iff c).1))]
  · rw [exec_channelRecovery high, State.takeRecovery, if_pos ((recoveryDue_iff c).2 ⟨state, run, by rw [held]; rfl⟩),
      recover_of_held held, enters _ (by rw [state]; decide) rfl]
    rfl
  · rw [exec_channelRecovery high, State.takeRecovery_of_not_due (Bool.eq_false_iff.2 fun due => ?_)]
    obtain ⟨state, run, held⟩ := (recoveryDue_iff c).1 due
    rcases notDue with other | other | none
    · exact other state
    · exact other run
    · rw [none] at held; cases held

end Sys2Proof.Proofs
end

section
/-! PROOFS. Link frames (7.1, 7.2, 11.8.5): the arrival that their bytes make, and the channel that takes it. -/

namespace Sys2Proof.Proofs

open Sys2Proof.Machine

/-! ## The bytes of a frame (R189, 11.8.5) -/

/-- R189: a number in two bytes, the high byte first, read back. -/
theorem word16_octets (x : BitVec 16) : word16 (byteOf (x.toNat / 256)) (byteOf x.toNat) = x := by
  have small := x.isLt
  refine BitVec.eq_of_toNat_eq ?_
  have high : x.toNat / 256 % 256 = x.toNat / 256 := by omega
  simp only [word16, byteOf, BitVec.toNat_append, BitVec.toNat_ofNat, Nat.reducePow, high]
  rw [← Nat.shiftLeft_add_eq_or_of_lt (by omega), Nat.shiftLeft_eq]
  omega

theorem takeLinkFrame_of_short {bytes : List Byte} (short : bytes.length < 5) : takeLinkFrame bytes = .malformedLinkFrame := by
  unfold takeLinkFrame
  split
  · simp only [List.length_cons] at short; omega
  · rfl

/-- R116, 11.8.5: a frame with a whole header, by its kind. -/
theorem takeLinkFrame_linkFrame (id : LinkId) (kind : Byte) (q : Seq) (payload : List Byte) :
    takeLinkFrame (linkFrame id kind q payload) =
      if kind = 1 then .audioFrameArrival id q payload else if kind = 2 then .cueFrameArrival id q payload
      else .malformedLinkFrame := by
  rw [linkFrame, octets_two, octets_two, bytes16, bytes16]
  simp only [List.cons_append, List.nil_append, takeLinkFrame, word16_octets]
  rfl

/-! ## The samples of an AUDIO payload (R126) -/

/-- 11.8.5: sample `j` of a payload, the most significant of its three bytes first. -/
def sampleAt (payload : List Byte) (j : Nat) : Sample :=
  (payload.getD (3 * j) 0 ++ payload.getD (3 * j + 1) 0 ++ payload.getD (3 * j + 2) 0 : BitVec 24)

theorem payloadSamples_eq (payload : List Byte) :
    payloadSamples payload = (List.range (payload.length / 3)).map (sampleAt payload) := by
  induction payload using payloadSamples.induct with
  | case1 a b c rest ih =>
      have length : (a :: b :: c :: rest).length / 3 = rest.length / 3 + 1 := by simp only [List.length_cons]; omega
      have later (j : Nat) : sampleAt (a :: b :: c :: rest) (j + 1) = sampleAt rest j := rfl
      rw [payloadSamples, ih, length, List.range_succ_eq_map, List.map_cons, List.map_map]
      rfl
  | case2 payload short =>
      have few : payload.length / 3 = 0 := by
        rcases payload with _ | ⟨a, _ | ⟨b, _ | ⟨c, rest⟩⟩⟩
        · rfl
        · exact Nat.div_eq_of_lt (show 1 < 3 by decide)
        · exact Nat.div_eq_of_lt (show 2 < 3 by decide)
        · exact absurd rfl (short a b c rest)
      rw [few, payloadSamples]
      · rfl
      · exact short

/-- R126: the block that a payload carries is the one taken from it. -/
theorem audioBlock?_of_carries {payload : List Byte} {x : Option Block} (h : carries payload x) : audioBlock? payload = x := by
  cases x with
  | none => exact if_neg h
  | some x =>
      obtain ⟨length, samples⟩ := h
      have all := payloadSamples_eq payload
      rw [length] at all
      have count : (payloadSamples payload).length = 48 := by rw [all]; simp
      rw [audioBlock?, if_pos length]
      dsimp only
      rw [dif_pos count]
      refine congrArg some (Vector.ext fun j hj => ?_)
      have there : (payloadSamples payload)[j]'(by omega) = sampleAt payload j := by
        simp only [all, List.getElem_map, List.getElem_range]
      exact there.trans (samples ⟨j, hj⟩).symm

/-! ## The first of a table (R117, 7.3.2) -/

theorem find?_toList_of_first {α : Type} {n : Nat} {v : Vector α n} {f : α → Bool} {i : Fin n} (hit : f v[i] = true)
    (first : ∀ j, j < i → f v[j] = false) : v.toList.find? f = some v[i] := by
  refine List.find?_eq_some_iff_getElem.2 ⟨hit, i.val, by simp, by simp, fun j before => ?_⟩
  have miss := first ⟨j, by omega⟩ before
  simpa using miss

theorem find?_toList_of_none {α : Type} {n : Nat} {v : Vector α n} {f : α → Bool} (misses : ∀ i : Fin n, f v[i] = false) :
    v.toList.find? f = none := by
  refine List.find?_eq_none.2 fun x mem hit => ?_
  obtain ⟨i, there⟩ := (any_toList_iff v f).1 (List.any_eq_true.2 ⟨x, mem, hit⟩)
  rw [misses i] at there
  cases there

/-- 7.3.2: port `p` is the FIELD port bound to channel `c`, the first of them where there are several. -/
abbrev FieldPort (s : State) (c : ChanId) (p : PortId) : Prop :=
  s.ports[p].kind = .field ∧ s.ports[p].channel = some c ∧
    ∀ r, r < p → s.ports[r].kind = .field → s.ports[r].channel ≠ some c

theorem find?_finRange_eq_some_iff {n : Nat} {f : Fin n → Bool} {i : Fin n} :
    (List.finRange n).find? f = some i ↔ f i = true ∧ ∀ j, j < i → f j = false := by
  rw [List.find?_eq_some_iff_getElem]
  refine and_congr_right fun _ => ⟨?_, fun first => ⟨i.val, by simp, by simp, fun j before => ?_⟩⟩
  · rintro ⟨m, small, there, first⟩ j before
    rw [List.getElem_finRange] at there
    subst there
    simpa using first j.val before
  · have miss := first ⟨j, by omega⟩ before
    simpa using miss

theorem fieldPort_eq_some_iff (s : State) (c : ChanId) (p : PortId) : s.fieldPort c = some p ↔ FieldPort s c p := by
  have find : s.fieldPort c = (List.finRange 48).find? fun q : PortId =>
      decide (s.ports[q].kind = .field) && decide (s.ports[q].channel = some c) := by
    rw [State.fieldPort, tableRows_eq, List.find?_map, Option.map_map]
    exact Option.map_id'
  simp only [find, find?_finRange_eq_some_iff, Bool.and_eq_true, Bool.and_eq_false_imp, decide_eq_true_eq, decide_eq_false_iff_not,
    FieldPort, and_assoc, ne_eq]

/-! ## Acceptance (R117, R118) -/

/-- R117: filter `i` accepts the id. -/
abbrev Accepts (v : State) (id : LinkId) (i : FilterId) : Prop :=
  v.rx.filters[i].enabled = true ∧ (id ^^^ v.rx.filters[i].value) &&& ~~~v.rx.filters[i].mask = 0

theorem accepts_iff (v : State) (id : LinkId) (i : FilterId) : v.rx.filters[i].accepts id = true ↔ Accepts v id i := by
  rw [Filter.accepts, Bool.and_eq_true, decide_eq_true_eq]

/-- The block count of the event that an arrival is (log 12). -/
abbrev arriving (v : State) : State := { v with eventBlock := v.blockCount }

section
variable {v : State} {id : LinkId} {i : FilterId} (take : ChanId → State → State)

theorem arrival_of_config (config : v.mode = .config) : v.arrival id take = v := by rw [State.arrival, config]

/-- R118: a frame that no filter accepts. -/
theorem arrival_of_unmatched (run : v.mode = .run) (unmatched : ∀ i, ¬ Accepts v id i) :
    v.arrival id take = (arriving v).countUnmatched := by
  have untaken : (arriving v).takingChannel id = none := by
    rw [State.takingChannel, State.filterChannel,
      find?_toList_of_none fun i => Bool.eq_false_iff.2 (unmatched i ∘ (accepts_iff v id i).1)]
    rfl
  unfold State.arrival
  split
  · rename_i config; rw [run] at config; cases config
  · dsimp only
    rw [untaken]

/-- R117, R118: the lowest-numbered filter that accepts chooses the channel, which takes the frame unless it is CLOSED. -/
theorem arrival_of_first (run : v.mode = .run) (hit : Accepts v id i) (first : ∀ j, j < i → ¬ Accepts v id j) :
    v.arrival id take = if v.rx.channels[v.rx.filters[i].channel].state = .closed then (arriving v).countUnmatched
      else take v.rx.filters[i].channel (arriving v) := by
  have chosen : (arriving v).filterChannel id = some v.rx.filters[i].channel := by
    rw [State.filterChannel, find?_toList_of_first (i := i) ((accepts_iff v id i).2 hit) fun j before =>
      Bool.eq_false_iff.2 (first j before ∘ (accepts_iff v id j).1)]
    rfl
  unfold State.arrival
  split
  · rename_i config; rw [run] at config; cases config
  · dsimp only
    rw [State.takingChannel, chosen, Option.filter_some]
    by_cases closed : v.rx.channels[v.rx.filters[i].channel].state = .closed
    · rw [if_neg (by simpa using closed), if_pos closed]
    · rw [if_pos (by simpa using closed), if_neg closed]

end

end Sys2Proof.Proofs
end

section
/-! PROOFS. AUDIO_FRAME_ARRIVAL (7.1, 7.4, 7.8): the channel's new record, its LINK notice, and the service passes at the entry into
RUNNING. -/

namespace Sys2Proof.Proofs

open Sys2Proof.Machine

theorem exec_audioFrameArrival {s : State} (high : s.rstnLow = false) (id : LinkId) (q : Seq) {payload : List Byte}
    {x : Option Block} (carried : carries payload x) :
    exec (.audioFrameArrival id q payload) s = .next (s.settle.arrival id fun ch s => s.audioTo ch q x) := by
  rw [← audioBlock?_of_carries carried]
  exact congrArg Host.Outcome.next (State.event_of_high high _)

theorem exec_malformedLinkFrame {s : State} (high : s.rstnLow = false) : exec .malformedLinkFrame s = .next s.settle.malformed :=
  congrArg Host.Outcome.next (State.event_of_high high _)

/-! ## A channel takes a frame -/

section
variable {s : State} {ch : ChanId} {before : ChanState}

/-- R135: without an entry into RUNNING no pass is triggered. -/
theorem passesForRunning_of_other (other : before = .running ∨ s.rx.channels[ch].state ≠ .running) :
    s.passesForRunning ch before = s :=
  if_neg fun ⟨notBefore, now⟩ => other.elim notBefore fun not => not now

/-- R95, R135: the passes that the field port of a channel triggers when the channel enters RUNNING. -/
theorem passesForRunning_of_entry (notBefore : before ≠ .running) (now : s.rx.channels[ch].state = .running) :
    (∀ p, FieldPort s ch p → s.passesForRunning ch before = s.runPasses ⟨none, [p]⟩) ∧
      ((∀ p, ¬ FieldPort s ch p) → s.passesForRunning ch before = s) := by
  rw [State.passesForRunning, if_pos ⟨notBefore, now⟩]
  refine ⟨fun p port => ?_, fun none => ?_⟩
  · rw [(fieldPort_eq_some_iff s ch p).2 port]
  · cases found : s.fieldPort ch with
    | none => rfl
    | some p => exact absurd ((fieldPort_eq_some_iff s ch p).1 found) (none p)

theorem fieldPort_unique {p p' : PortId} (h : FieldPort s ch p) (h' : FieldPort s ch p') : p = p' :=
  Option.some.inj (((fieldPort_eq_some_iff s ch p).2 h).symm.trans ((fieldPort_eq_some_iff s ch p').2 h'))

theorem passesForRunning_changes (ch : ChanId) (before : ChanState) (s : State) : Changes s (s.passesForRunning ch before) := by
  unfold State.passesForRunning
  split
  · split
    · exact State.runPasses_changes _ _
    · exact .refl s
  · exact .refl s

/-- R137: beside the channel's record, its rewriting changes nothing but the notices. -/
theorem putChannel_changes (ch : ChanId) (c : Machine.Channel) (s : State) : Changes (s.setChannel ch c) (s.putChannel ch c) := by
  rw [putChannel_eq_ite]
  split
  · exact .refl _
  · exact (Change.report _).all

/-- R125: what an AUDIO frame leaves beside the channel's record. -/
theorem audioTo_run (ch : ChanId) (q : Seq) (x : Option Block) (s : State) :
    (s.setChannel ch (s.rx.channels[ch].takeAudio q x)).sameRun (s.audioTo ch q x) :=
  ((putChannel_changes ch _ s).trans (passesForRunning_changes ch _ _)).sameRun

theorem putChannel_channel (ch : ChanId) (c : Machine.Channel) (s : State) : (s.putChannel ch c).rx.channels[ch] = c := by
  rw [putChannel_eq]
  exact tableSet_self _ _ _

/-- R137: a frame that does not bring the channel into RUNNING rewrites its record, and that is all. -/
theorem audioTo_of_other {q : Seq} {x : Option Block} (other : (s.rx.channels[ch].takeAudio q x).state ≠ .running ∨
    s.rx.channels[ch].state = .running) : s.audioTo ch q x = s.putChannel ch (s.rx.channels[ch].takeAudio q x) :=
  passesForRunning_of_other (other.symm.imp_right fun not => by rwa [putChannel_channel])

/-- R135, R137: the entry into RUNNING: the LINK notice, then the passes that the channel's field port triggers. -/
theorem audioTo_of_entry {q : Seq} {x : Option Block} (notBefore : s.rx.channels[ch].state ≠ .running)
    (enters : (s.rx.channels[ch].takeAudio q x).state = .running) :
    let told := (s.setChannel ch (s.rx.channels[ch].takeAudio q x)).report (.link ch)
    (∀ p, FieldPort s ch p → s.audioTo ch q x = told.runPasses ⟨none, [p]⟩) ∧
      ((∀ p, ¬ FieldPort s ch p) → s.audioTo ch q x = told) := by
  intro told
  have put : s.putChannel ch (s.rx.channels[ch].takeAudio q x) = told :=
    putChannel_of_moved fun same => notBefore (same.trans enters)
  have now : told.rx.channels[ch].state = .running := by rw [← put, putChannel_channel, enters]
  have audio : s.audioTo ch q x = told.passesForRunning ch s.rx.channels[ch].state := by rw [State.audioTo, put]
  rw [audio]
  exact passesForRunning_of_entry notBefore now

end

/-- Settles O47: the filters choose by `arrival_of_first`; what the chosen channel does is `audioTo`, by whether it enters
RUNNING. -/
theorem audioFrameReachesItsChannel : Obligations.AudioFrameReachesItsChannel := by
  unfold Obligations.AudioFrameReachesItsChannel
  refine ⟨fun _ => takeLinkFrame_of_short, takeLinkFrame_linkFrame, ?_⟩
  intro s id q payload x carried high v settled w counted accepts
  have mode : v.mode = s.mode := settled ▸ s.settle_outside.mode
  have arrives := exec_audioFrameArrival high id q carried
  have malformed := exec_malformedLinkFrame high
  rw [settled] at arrives malformed
  refine ⟨fun config => ?_, fun run => ⟨?_, fun unmatched => ?_, fun i hit first => ?_⟩⟩
  · rw [arrives, malformed, State.malformed, mode, config, arrival_of_config _ (mode.trans config)]
    exact ⟨rfl, rfl⟩
  · rw [malformed, State.malformed, mode, run]
    rfl
  · rw [arrives, arrival_of_unmatched _ (mode.trans run) unmatched]
    rfl
  · rw [arrival_of_first _ (mode.trans run) hit first] at arrives
    intro c old new put unchanged
    refine ⟨fun closed => ?_, fun isOpen other => ?_, fun isOpen => ?_, fun isOpen notBefore enters => ?_⟩
    · rw [arrives, if_pos closed]
      rfl
    all_goals rw [if_neg isOpen] at arrives
    · rw [arrives, audioTo_of_other (s := w) (ch := c) other, putChannel_eq_ite]
      rfl
    · exact ⟨_, arrives, audioTo_run c q x w⟩
    · intro told bound
      obtain ⟨ported, unported⟩ := audioTo_of_entry (s := w) (ch := c) notBefore enters
      by_cases some : ∃ p, bound p
      · obtain ⟨p, port⟩ := some
        rw [ported p port] at arrives
        refine ⟨fun nobody => arrives.trans (congrArg Host.Outcome.next (runPasses_of_noService fun g triggers => ?_)), _,
          arrives, (runPasses_serves _ _).run, changes_notices (State.runPasses_changes _ _), fun p' port' => ?_⟩
        · exact nextService_eq_none (nobody p port g ((State.triggered_iff told p g).1 triggers))
        · rw [fieldPort_unique (s := w) port' port]
          exact runPasses_servedIn (State.triggered_iff told p)
      · rw [unported fun p port => some ⟨p, port⟩] at arrives
        exact ⟨fun _ => arrives, told, arrives, told.sameRun_refl, ⟨[], (List.append_nil _).symm⟩,
          fun p port => absurd ⟨p, port⟩ some⟩

end Sys2Proof.Proofs
end

section
/-! PROOFS. CUE_FRAME_ARRIVAL (7.7, 4.3.1): the cue that a channel takes, and what it does to the channel's call key. -/

namespace Sys2Proof.Proofs

open Sys2Proof.Machine

/-! ## A delivery leaves a key delivered (R69) -/

theorem deliverAll_steady (k : KeyId) (ms : List PortId) (s : State) : Steady s (s.deliverAll k ms) := by
  unfold State.deliverAll
  induction ms generalizing s with
  | nil => exact .refl s
  | cons m ms ih =>
      refine Steady.trans ?_ (ih _)
      dsimp only
      split
      · exact .refl s
      · exact deliverTo_steady k (.port m) s

theorem Steady.delivered {s t : State} (h : Steady s t) (j : KeyId) : t.keys[j].delivered = s.keys[j].delivered := by
  rw [h.record j]

theorem joinQueue_delivered (g : GroupId) (k j : KeyId) (s : State) :
    (s.joinQueue g k).keys[j].delivered = s.keys[j].delivered := by
  unfold State.joinQueue
  dsimp only
  split
  · change (tableSet s.keys k _)[j].delivered = _
    rw [tableSet_get]
    split
    · rename_i same; subst same; rfl
    · rfl
  · exact (appendEntry_steady k _ s).delivered j

theorem deliverGroup_delivered (k j : KeyId) (g : GroupId) (s : State) :
    (s.deliverGroup k g).keys[j].delivered = s.keys[j].delivered := by
  unfold State.deliverGroup
  dsimp only
  split
  · rfl
  · split
    · exact (deliverAll_steady k _ s).delivered j
    · split
      · exact (deliverTo_steady k _ _).delivered j
      · exact joinQueue_delivered g k j s

theorem deliver_delivered (k : KeyId) (s : State) : (s.deliver k).keys[k].delivered = true := by
  have begun : (s.setKey k { s.keys[k] with delivered := true, entries := [] }).keys[k].delivered = true := by
    rw [State.setKey_keys, tableSet_self]
  unfold State.deliver
  dsimp only
  split
  · exact begun
  · exact ((deliverTo_steady k _ _).delivered k).trans begun
  · exact ((deliverTo_steady k _ _).delivered k).trans begun
  · exact (deliverGroup_delivered k k _ _).trans begun

/-- R76: a withdrawal and its service passes leave the key delivered nowhere. -/
theorem withdraw_delivered (k : KeyId) (s : State) : (s.keyAction k .withdraw).keys[k].delivered = false := by
  have passes := runPasses_serves (s.withdraw k).2 (s.withdraw k).1
  have none : (s.withdraw k).1.keys[k].delivered = false := by rw [withdraw_eq, State.setKey_keys, tableSet_self]
  exact (passes.delivered k).trans none

/-! ## The call key of a channel (R68) -/

theorem callKeyOf_eq (s : State) (ch : ChanId) : s.callKeyOf ch = s.rx.channels[ch].config.bind ChannelConfig.callKey := by
  unfold State.callKeyOf
  cases s.rx.channels[ch].config <;> rfl

theorem callCue_of_idle {s : State} {k : KeyId} (target : s.keys[k].target.isSome) (idle : s.keys[k].activation = .idle) :
    s.callCue k = (s.setActivation k .latched).keyAction k .deliver := by
  rw [State.callCue, KeyRecord.defined, target, idle]
  rfl

theorem callCue_of_other {s : State} {k : KeyId} (other : s.keys[k].target = none ∨ s.keys[k].activation ≠ .idle) :
    s.callCue k = s := by
  refine if_neg fun may => ?_
  obtain ⟨defined, idle⟩ := Bool.and_eq_true_iff.1 may
  rcases other with undefined | active
  · rw [KeyRecord.defined, undefined] at defined; cases defined
  · exact active (of_decide_eq_true idle)

theorem cancelCue_of_latched {s : State} {k : KeyId} (latched : s.keys[k].activation = .latched) :
    s.cancelCue k = (s.setActivation k .idle).keyAction k .withdraw := by
  rw [State.cancelCue, latched]
  rfl

theorem cancelCue_of_other {s : State} {k : KeyId} (other : s.keys[k].activation ≠ .latched) : s.cancelCue k = s :=
  if_neg fun latched => other (of_decide_eq_true latched)

/-! ## A channel takes a cue (R134) -/

/-- R134: the cue is the channel's last one and is reported. -/
abbrev cued (ch : ChanId) (code : Byte) (s : State) : State :=
  (s.setChannel ch { s.rx.channels[ch] with lastCue := some code }).report (.cueIn ch code s.blockCount)

/-- R134: a CALL reaches the key table from a channel that is PRIMING or RUNNING. -/
abbrev Live (c : Machine.Channel) : Prop := c.state = .priming ∨ c.state = .running

theorem passesCue_iff (st : ChanState) (code : Byte) :
    passesCue st code = true ↔ code = 1 ∧ (st = .priming ∨ st = .running) ∨ code = 2 := by
  unfold passesCue
  split
  · rename_i call
    have notCancel : code ≠ 2 := by rw [call]; decide
    simp only [Bool.or_eq_true, decide_eq_true_eq, notCancel, or_false]
    exact (and_iff_right call).symm
  · rename_i notCall
    rw [decide_eq_true_eq]
    exact ⟨.inr, fun h => h.resolve_left fun both => notCall both.1⟩

section
variable {s : State} {ch : ChanId}

/-- R134: a cue with no meaning for the key table, or of a channel without a call key. -/
theorem cueTo_of_unmeant {code : Byte} (unmeant : code ≠ 1 ∧ code ≠ 2 ∨ code = 1 ∧ ¬ Live s.rx.channels[ch] ∨
    s.callKeyOf ch = none) : s.cueTo ch code = cued ch code s := by
  unfold State.cueTo
  dsimp only
  split
  · rename_i passes
    have meant := (passesCue_iff _ _).1 passes
    rcases unmeant with ⟨notCall, notCancel⟩ | ⟨rfl, dead⟩ | none
    · exact (meant.elim (fun call => notCall call.1) notCancel).elim
    · exact (meant.elim (fun call => dead call.2) (by decide)).elim
    · rw [none]
  · rfl

theorem cueTo_call {k : KeyId} (live : Live s.rx.channels[ch]) (key : s.callKeyOf ch = some k) :
    s.cueTo ch 1 = (cued ch 1 s).callCue k := by
  rw [State.cueTo, if_pos ((passesCue_iff _ _).2 (.inl ⟨rfl, live⟩)), key]
  rfl

theorem cueTo_cancel {k : KeyId} (key : s.callKeyOf ch = some k) : s.cueTo ch 2 = (cued ch 2 s).cancelCue k := by
  rw [State.cueTo, if_pos ((passesCue_iff _ _).2 (.inr rfl)), key]
  rfl

end

/-! ## The frame -/

theorem exec_cueFrameArrival {s : State} (high : s.rstnLow = false) (id : LinkId) (q : Seq) (payload : List Byte) :
    exec (.cueFrameArrival id q payload) s = .next (s.settle.arrival id (State.cuePayload payload)) :=
  congrArg Host.Outcome.next (State.event_of_high high _)

/-- 11.8.5: a payload that is not one byte has no effect. -/
theorem cuePayload_of_unread {payload : List Byte} (unread : payload.length ≠ 1) (ch : ChanId) (s : State) :
    s.cuePayload payload ch = s := by
  have none : cueCode? payload = none := by
    unfold cueCode?
    split
    · exact absurd rfl unread
    · rfl
  rw [State.cuePayload, none]

/-- R67: a transition of key `k` leaves the definition and the activation of every other key. -/
theorem sameKey_of_changes {u t : State} {j k : KeyId} {a : Activation} (h : Changes (u.setActivation k a) t) (other : j ≠ k) :
    u.keys[j].sameKey t.keys[j] := by
  have kept := h.sameRun.key j
  rwa [setActivation_key, if_neg (Ne.symm other)] at kept

/-- Settles O48: the filters choose by `arrival_of_first`; a cue with a meaning makes a transition of the channel's call key, which
keeps what `moved_of_changes` says, and a CANCEL's withdrawal is `Begun.withdrawnThen`. -/
theorem cueFrameWorksTheCallKey : Obligations.CueFrameWorksTheCallKey := by
  unfold Obligations.CueFrameWorksTheCallKey
  intro s id q high v settled w counted accepts
  have mode : v.mode = s.mode := settled ▸ s.settle_outside.mode
  have arrives (payload : List Byte) := exec_cueFrameArrival high id q payload
  rw [settled] at arrives
  refine ⟨fun config payload => ?_, fun run unmatched payload => ?_, fun i run hit first => ?_⟩
  · rw [arrives, arrival_of_config _ (mode.trans config)]
  · rw [arrives, arrival_of_unmatched _ (mode.trans run) unmatched]
    rfl
  intro c r told live becomes
  refine ⟨fun closed payload => ?_, fun isOpen => ?_⟩
  · rw [arrives, arrival_of_first _ (mode.trans run) hit first, if_pos closed]
    rfl
  have takes (payload : List Byte) : exec (.cueFrameArrival id q payload) s = .next (w.cuePayload payload c) := by
    rw [arrives, arrival_of_first _ (mode.trans run) hit first, if_neg isOpen]
  have callKey : w.callKeyOf c = r.config.bind ChannelConfig.callKey := callKeyOf_eq w c
  have becoming {code : Byte} {k : KeyId} {a : Activation} {act : KeyAction} {on : Bool}
      (acts : w.cueTo c code = ((told code).setActivation k a).keyAction k act)
      (delivered : (((told code).setActivation k a).keyAction k act).keys[k].delivered = on)
      (withdraws : on = false → act = .withdraw) : becomes code k a on := by
    have changes := State.keyAction_changes k act ((told code).setActivation k a)
    obtain ⟨activation, -, -, later, ports, stays, -, rx, tx, checks, routes, mix, lanes⟩ := moved_of_changes changes
    refine ⟨_, (takes [code]).trans (congrArg Host.Outcome.next acts), activation, delivered, later, fun off own => ?_,
      fun j other => sameKey_of_changes (u := told code) changes other, rx, ports, stays.trans (mode.trans run), tx, checks,
      routes, lanes, mix⟩
    rw [withdraws off]
    exact (setActivation_begun k a (told code)).withdrawnThen own
  refine ⟨fun payload unread => ?_, fun code unmeant => ?_, fun g k config named => ?_⟩
  · rw [takes, cuePayload_of_unread unread]
  · refine (takes [code]).trans (congrArg Host.Outcome.next (cueTo_of_unmeant (unmeant.imp_right (.imp_right fun none => ?_))))
    rw [callKey, Option.bind_eq_none_iff]
    exact fun g config => Option.eq_none_iff_forall_ne_some.2 fun k => none g k config
  · intro key
    have called : w.callKeyOf c = some k := by rw [callKey, config, Option.bind_some, named]
    refine ⟨fun alive target idle => ?_, fun alive other => ?_, fun latched => ?_, fun other => ?_⟩
    · have acts := (cueTo_call (s := w) alive called).trans (callCue_of_idle (s := told 1) target idle)
      exact becoming acts (deliver_delivered k _) nofun
    · have still := (cueTo_call (s := w) alive called).trans (callCue_of_other (s := told 1) other)
      exact (takes [1]).trans (congrArg Host.Outcome.next still)
    · have acts := (cueTo_cancel (s := w) called).trans (cancelCue_of_latched (s := told 2) latched)
      exact becoming acts (withdraw_delivered k _) fun _ => rfl
    · have still := (cueTo_cancel (s := w) called).trans (cancelCue_of_other (s := told 2) other)
      exact (takes [2]).trans (congrArg Host.Outcome.next still)

end Sys2Proof.Proofs
end

section
/-! PROOFS. A channel leaves PRIMING or RUNNING (7.8, 8.7): its call key is forced IDLE, its check ends, the service passes
follow. -/

namespace Sys2Proof.Proofs

open Sys2Proof.Machine

/-! ## The call key is forced (R68, R135) -/

/-- R135: the channel's call key, if it has one, forced IDLE, with the passes that this triggers. -/
def forcing (ch : ChanId) (u : State) : State × Triggers :=
  match u.callKeyOf ch with
  | some k => u.forceCallKey k
  | none => (u, ⟨none, []⟩)

/-- R68: key `k` is the call key of channel `ch`, and LATCHED. -/
abbrev ForcedIdle (u : State) (ch : ChanId) (k : KeyId) : Prop :=
  u.rx.channels[ch].config.bind ChannelConfig.callKey = some k ∧ u.keys[k].activation = .latched

theorem forcing_of_forced {u : State} {ch : ChanId} {k : KeyId} (forced : ForcedIdle u ch k) :
    forcing ch u = (u.setActivation k .idle).withdraw k := by
  rw [forcing, callKeyOf_eq, forced.1]
  exact if_pos forced.2

theorem forcing_of_unforced {u : State} {ch : ChanId} (unforced : ∀ k, ¬ ForcedIdle u ch k) :
    forcing ch u = (u, ⟨none, []⟩) := by
  rw [forcing, callKeyOf_eq]
  split
  · rename_i k key; exact if_neg fun latched => unforced k ⟨key, latched⟩
  · rfl

/-- What forcing a call key, ending a check and serving waiters leave alone; their notices queue behind those that wait. -/
structure KeepsLink (u t : State) : Prop where
  rx : t.rx = u.rx
  mode : t.mode = u.mode
  blockCount : t.blockCount = u.blockCount
  ports : t.ports = u.ports
  tx : t.tx = u.tx
  lanes : t.lanes = u.lanes
  mix : t.mix = u.mix
  routes : t.routes = u.routes
  mask : t.link.mask = u.link.mask
  notices : ∃ later, t.link.notices = u.link.notices ++ later

theorem KeepsLink.trans {u t w : State} (h : KeepsLink u t) (h' : KeepsLink t w) : KeepsLink u w where
  rx := h'.rx.trans h.rx
  mode := h'.mode.trans h.mode
  blockCount := h'.blockCount.trans h.blockCount
  ports := h'.ports.trans h.ports
  tx := h'.tx.trans h.tx
  lanes := h'.lanes.trans h.lanes
  mix := h'.mix.trans h.mix
  routes := h'.routes.trans h.routes
  mask := h'.mask.trans h.mask
  notices := by
    obtain ⟨first, eq⟩ := h.notices
    obtain ⟨later, eq'⟩ := h'.notices
    exact ⟨first ++ later, by rw [eq', eq, List.append_assoc]⟩

theorem keepsLink_of_changes {u t : State} (h : Changes u t) : KeepsLink u t :=
  have run := h.sameRun
  ⟨run.rx, run.mode, run.blockCount, run.ports, run.tx, run.lanes, run.mix, run.routes, run.link.mask, changes_notices h⟩

/-- R67: the change of a key's activation, and its notice. -/
theorem setActivation_keepsLink (k : KeyId) (a : Activation) (u : State) : KeepsLink u (u.setActivation k a) :=
  have told := change_notices (Change.report (s := u) (.key k))
  ⟨rfl, rfl, rfl, rfl, rfl, rfl, rfl, rfl, (u.link.report_sameAnswers _).mask, told⟩

theorem forcing_keepsLink (ch : ChanId) (u : State) :
    KeepsLink u (forcing ch u).1 ∧ (forcing ch u).1.checks = u.checks := by
  by_cases some : ∃ k, ForcedIdle u ch k
  · obtain ⟨k, forced⟩ := some
    have changes := State.withdraw_changes k (u.setActivation k .idle)
    rw [forcing_of_forced forced]
    exact ⟨(setActivation_keepsLink k .idle u).trans (keepsLink_of_changes changes), changes.sameRun.checks⟩
  · rw [forcing_of_unforced fun k forced => some ⟨k, forced⟩]
    exact ⟨keepsLink_of_changes (.refl u), rfl⟩

/-! ## The check ends (R152, R153) -/

/-- R152: a running check of channel `ch` fails. -/
abbrev failing (ch : ChanId) (reason : CheckReason) (n : BlockCount) (u : State) : State :=
  u.abortCheck ch .failed (some reason) n

theorem failing_eq (ch : ChanId) (reason : CheckReason) (n : BlockCount) (u : State) :
    ∃ checks link, failing ch reason n u = { u with checks := checks, link := link } := by
  unfold failing State.abortCheck
  split <;> exact ⟨_, _, rfl⟩

theorem failing_keepsLink (ch : ChanId) (reason : CheckReason) (n : BlockCount) (u : State) :
    KeepsLink u (failing ch reason n u) := by
  unfold failing State.abortCheck
  split
  · have told (n : Notice) := change_notices (Change.report (s := u) n)
    exact ⟨rfl, rfl, rfl, rfl, rfl, rfl, rfl, rfl, (u.link.report_sameAnswers _).mask, told _⟩
  · exact keepsLink_of_changes (.refl u)

/-- R152, R153: the record of the check that ended, and its notice. -/
theorem failing_of_running {ch : ChanId} {u : State} (running : u.checks[ch].state = .running) (reason : CheckReason)
    (n : BlockCount) :
    (failing ch reason n u).checks = u.checks.set ch { u.checks[ch] with state := .failed, reason := some reason } ∧
      (u.link.mask.getLsbD 6 = true →
        Queued (.check (({ u.checks[ch] with state := .failed, reason := some reason } : Check).report ch n))
          (failing ch reason n u).link) := by
  have ends : failing ch reason n u = u.endCheck ch .failed (some reason) n := if_pos running
  rw [ends]
  exact ⟨rfl, fun enabled => report_queued (l := u.link) enabled⟩

theorem failing_of_idle {ch : ChanId} {u : State} (idle : u.checks[ch].state ≠ .running) (reason : CheckReason) (n : BlockCount) :
    failing ch reason n u = u := if_neg idle

/-! ## A withdrawal, the rest of its event, and the passes (R76, R90) -/

theorem withdrawn_congr {v w w' : State} {k : KeyId} (keys : w'.keys = w.keys) (groups : w'.groups = w.groups)
    (paths : w'.paths = w.paths) (h : v.withdrawn w k) : v.withdrawn w' k :=
  ⟨by rw [keys]; exact h.delivered, by rw [keys]; exact h.entries, by rw [keys]; exact h.deadline, by rw [groups]; exact h.queues,
    by rw [groups]; exact h.engagement, by rw [paths]; exact h.holdings⟩

/-- R91: the passes of an event do not take back a key that waits nowhere. -/
theorem withdrawn_of_serves {v w t : State} {k : KeyId} (gone : v.withdrawn w k) (serves : Serves w t) : v.withdrawn t k where
  delivered := (serves.delivered k).trans gone.delivered
  entries := entries_nil_of_dests (by rw [serves.unlisted k gone.queues, dests, gone.entries]; rfl)
  deadline := serves.deadline k gone.deadline
  queues g waits := gone.queues g (serves.waiters g k waits)
  engagement g target := serves.unengaged k gone.queues g (gone.engagement g target)
  holdings o d owner delivers q mem ident holds := by
    obtain ⟨p, there, ident', held⟩ := serves.unheld k gone.queues q mem holds
    exact gone.holdings o d owner delivers p there (ident'.trans ident) held

/-- R76, R90, R135: a withdrawal, what else of its event changes no key, group or path, and the service passes. -/
theorem Begun.withdrawnThen_after {k : KeyId} {v s : State} (begun : Begun k v s) (own : OwnQueue v k) {after : State → State}
    (same : ∀ w, (after w).keys = w.keys ∧ (after w).groups = w.groups ∧ (after w).paths = w.paths) :
    v.withdrawnThen ((after (s.withdraw k).1).runPasses (s.withdraw k).2) k after := by
  obtain ⟨keys, groups, paths⟩ := same (s.withdraw k).1
  have gone := begun.withdrawn own
  have triggers (g : GroupId) :
      (after (s.withdraw k).1).triggered (s.withdraw k).2 g = true ↔ v.freedIn (s.withdraw k).1 k g := by
    rw [triggered_congr (s := (s.withdraw k).1) (by rw [groups]), begun.triggers own]
  have serves := runPasses_serves (s.withdraw k).2 (after (s.withdraw k).1)
  exact ⟨withdrawn_of_serves (withdrawn_congr keys groups paths gone) serves, _, gone, begun.takesBack own, serves.run,
    runPasses_servedIn triggers,
    fun none => runPasses_of_none fun g => Bool.eq_false_iff.2 fun yes => none g ((triggers g).1 yes)⟩

/-! ## The end of reception as a whole (R135) -/

/-- R135: what follows the LINK notice: the call key is forced, the check ends, the passes run. -/
def ending (ch : ChanId) (reason : CheckReason) (n : BlockCount) (u : State) : State :=
  (failing ch reason n (forcing ch u).1).runPasses (forcing ch u).2

/-- R137: channel `ch` with the record `c`, and its LINK notice. -/
def relinked (ch : ChanId) (c : Machine.Channel) (s : State) : State := (s.setChannel ch c).report (.link ch)

/-- R135, R137: a channel that leaves its state for that of `c`. -/
theorem leaveLive_eq {s : State} {ch : ChanId} {c : Machine.Channel} (moved : s.rx.channels[ch].state ≠ c.state)
    (reason : CheckReason) : s.leaveLive ch c reason = ending ch reason s.eventBlock (relinked ch c s) := by
  rw [State.leaveLive, putChannel_of_moved moved]
  rfl

section
variable (ch : ChanId) (reason : CheckReason) (n : BlockCount) {u : State}

theorem ending_of_unforced (unforced : ∀ k, ¬ ForcedIdle u ch k) : ending ch reason n u = failing ch reason n u := by
  rw [ending, forcing_of_unforced unforced]
  exact runPasses_of_none fun g => by simp [State.triggered]

theorem ending_of_forced {k : KeyId} (forced : ForcedIdle u ch k) : ending ch reason n u =
    (failing ch reason n ((u.setActivation k .idle).withdraw k).1).runPasses ((u.setActivation k .idle).withdraw k).2 := by
  rw [ending, forcing_of_forced forced]

theorem ending_keepsLink (u : State) : KeepsLink u (ending ch reason n u) :=
  ((forcing_keepsLink ch u).1.trans (failing_keepsLink ch reason n _)).trans (keepsLink_of_changes (State.runPasses_changes _ _))

/-- R152, R153: the running check has FAILED and has been reported; a check that was not running is left alone. -/
theorem ending_check (u : State) :
    (u.checks[ch].state = .running →
      (ending ch reason n u).checks = u.checks.set ch { u.checks[ch] with state := .failed, reason := some reason } ∧
        (u.link.mask.getLsbD 6 = true →
          Queued (.check (({ u.checks[ch] with state := .failed, reason := some reason } : Check).report ch n))
            (ending ch reason n u).link)) ∧
    (u.checks[ch].state ≠ .running → (ending ch reason n u).checks = u.checks) := by
  obtain ⟨keeps, checks⟩ := forcing_keepsLink ch u
  have passes := State.runPasses_changes (forcing ch u).2 (failing ch reason n (forcing ch u).1)
  refine ⟨fun running => ?_, fun idle => ?_⟩
  · obtain ⟨ended, queued⟩ := failing_of_running (u := (forcing ch u).1) (by rw [checks]; exact running) reason n
    rw [checks, keeps.mask] at *
    exact ⟨passes.sameRun.checks.trans ended, fun enabled => changes_queued passes (queued enabled)⟩
  · refine passes.sameRun.checks.trans ?_
    rw [failing_of_idle (by rw [checks]; exact idle), checks]

theorem ending_keys (j : KeyId) : (ending ch reason n u).keys[j].activation = (forcing ch u).1.keys[j].activation ∧
    (ending ch reason n u).keys[j].pressBlock = (forcing ch u).1.keys[j].pressBlock := by
  obtain ⟨checks, link, eq⟩ := failing_eq ch reason n (forcing ch u).1
  have kept := (State.runPasses_changes (forcing ch u).2 (failing ch reason n (forcing ch u).1)).sameRun.key j
  have same : (failing ch reason n (forcing ch u).1).keys = (forcing ch u).1.keys := by rw [eq]
  rw [same] at kept
  exact ⟨kept.activation, kept.pressBlock⟩

/-- R68: the call key is IDLE if it was LATCHED; no other activation changes. -/
theorem ending_activation (k : KeyId) : (ForcedIdle u ch k → (ending ch reason n u).keys[k].activation = .idle) ∧
    (¬ ForcedIdle u ch k → (ending ch reason n u).keys[k].activation = u.keys[k].activation) := by
  rw [(ending_keys ch reason n k).1]
  refine ⟨fun forced => ?_, fun notForced => ?_⟩
  · rw [forcing_of_forced forced]
    exact (moved_of_changes (State.withdraw_changes k _)).1
  · by_cases some : ∃ j, ForcedIdle u ch j
    · obtain ⟨j, forced⟩ := some
      have other : k ≠ j := fun same => notForced (same ▸ forced)
      obtain ⟨-, others, -⟩ := moved_of_changes (State.withdraw_changes j (u.setActivation j .idle))
      rw [forcing_of_forced forced]
      exact (others k other).1
    · rw [forcing_of_unforced fun j forced => some ⟨j, forced⟩]

/-- R68: the forced key keeps no press block. -/
theorem ending_pressBlock {k : KeyId} (forced : ForcedIdle u ch k) : (ending ch reason n u).keys[k].pressBlock = none := by
  rw [(ending_keys ch reason n k).2, forcing_of_forced forced]
  obtain ⟨-, -, press, -⟩ := moved_of_changes (State.withdraw_changes k (u.setActivation k .idle))
  exact press.trans (if_neg fun both => by cases both.2)

/-- R68, R76, R135: the forced key is withdrawn; `after`, the check's end, stands between the withdrawal and the passes. -/
theorem ending_withdraws {k : KeyId} (forced : ForcedIdle u ch k) (own : OwnQueue u k) {after : State → State}
    (fails : ∀ w, w.checks = u.checks → failing ch reason n w = after w)
    (same : ∀ w, (after w).keys = w.keys ∧ (after w).groups = w.groups ∧ (after w).paths = w.paths) :
    (State.report (.key k) u).withdrawnThen (ending ch reason n u) k after := by
  rw [ending_of_forced ch reason n forced, fails _ (State.withdraw_changes k (u.setActivation k .idle)).sameRun.checks]
  exact (setActivation_begun k .idle u).withdrawnThen_after own same

end

end Sys2Proof.Proofs
end

section
/-! PROOFS. CHANNEL_DROP and CHANNEL_IDLE_LIMIT (7.4, 7.6, 7.8), and the window end that is taken ahead of them. -/

namespace Sys2Proof.Proofs

open Sys2Proof.Machine

/-! ## The window end (R159) -/

theorem endWindowPort_windowDue (p : PortId) (s : State) : (s.endWindowPort p).gov.windowDue = s.gov.windowDue := by
  unfold State.endWindowPort
  split
  · dsimp only
    rw [retargetGain_eq]
    split <;> rfl
  · rfl

/-- R159: the window end that was due has been taken. -/
theorem endWindow_windowDue (s : State) : s.endWindow.gov.windowDue = false := by
  have ports (ps : List PortId) (s : State) :
      (ps.foldl (fun s p => s.endWindowPort p) s).gov.windowDue = s.gov.windowDue := by
    induction ps generalizing s with
    | nil => rfl
    | cons p ps ih => exact (ih _).trans (endWindowPort_windowDue p s)
  unfold State.endWindow
  split
  · exact ports _ _
  · rename_i notDue; exact Bool.eq_false_iff.2 notDue

theorem endWindow_rx (s : State) : s.endWindow.rx = s.rx := by
  obtain ⟨gov, mix, link, eq⟩ := endWindow_eq s
  rw [eq]

theorem exec_windowEnd {s : State} (high : s.rstnLow = false) : exec .windowEnd s = .next s.endWindow :=
  congrArg Host.Outcome.next (State.ownStep_of_high high _)

theorem exec_channelDrop {s : State} (high : s.rstnLow = false) (ch : ChanId) :
    exec (.channelDrop ch) s = .next (s.takeDrop ch) := congrArg Host.Outcome.next (State.ownStep_of_high high _)

theorem exec_channelIdleLimit {s : State} (high : s.rstnLow = false) (ch : ChanId) :
    exec (.channelIdleLimit ch) s = .next (s.takeIdleLimit ch) := congrArg Host.Outcome.next (State.ownStep_of_high high _)

/-- Log 13: a step takes the window end that is due first, so it does the same after it. -/
theorem takeDrop_endWindow {s : State} {ch : ChanId} (due : s.rx.channels[ch].dropDue = true) :
    s.endWindow.takeDrop ch = s.takeDrop ch := by
  rw [State.takeDrop, State.takeDrop, endWindow_rx, endWindow_of_not_due (endWindow_windowDue s), if_pos due, if_pos due]

theorem takeIdleLimit_endWindow {s : State} {ch : ChanId} (due : s.rx.channels[ch].idleDue = true) :
    s.endWindow.takeIdleLimit ch = s.takeIdleLimit ch := by
  rw [State.takeIdleLimit, State.takeIdleLimit, endWindow_rx, endWindow_of_not_due (endWindow_windowDue s), if_pos due, if_pos due]

/-! ## The statement -/

/-- Settles O50: both steps are `leaveLive`, and so `ending` behind the LINK notice (`leaveLive_eq`); a window end due is taken
first. -/
theorem dropAndIdleLimitLeaveTheLiveStates : Obligations.DropAndIdleLimitLeaveTheLiveStates := by
  unfold Obligations.DropAndIdleLimitLeaveTheLiveStates
  intro s ch high c drops idles forced ended checkEnds left afterWindow
  have high' : s.endWindow.rstnLow = false := s.endWindow_outside.rstnLow.trans high
  have dropDue : c.dropDue = true ↔ drops := dropDue_iff c
  have idleDue : c.idleDue = true ↔ idles := idleDue_iff c
  have checkFails (reason : CheckReason) (w : State) (same : w.checks = s.checks) :
      failing ch reason s.eventBlock w = checkEnds w reason := by
    have record : w.checks[ch] = s.checks[ch] := by rw [same]
    by_cases running : s.checks[ch].state = .running
    · have ends : checkEnds w reason = State.report (ended reason) { w with
          checks := w.checks.set ch { w.checks[ch] with state := .failed, reason := some reason } } := if_pos running
      rw [ends, failing, State.abortCheck, if_pos (by rw [record]; exact running), State.endCheck]
      dsimp only
      rw [record]
      rfl
    · exact (failing_of_idle (by rw [record]; exact running) reason s.eventBlock).trans (if_neg running).symm
  have leaves {cmd : Instr} {r : Machine.Channel} {reason : CheckReason} (takes : exec cmd s = .next (s.leaveLive ch r reason))
      (moved : c.state ≠ r.state) (config : r.config = c.config) : left cmd r reason := by
    rw [leaveLive_eq moved] at takes
    have isForced (k : KeyId) : ForcedIdle (relinked ch r s) ch k ↔ forced k := by
      have record : (relinked ch r s).rx.channels[ch] = r := tableSet_self _ _ _
      rw [ForcedIdle, record, config]
      exact Iff.rfl
    have mask : (relinked ch r s).link.mask = s.link.mask := (s.link.report_sameAnswers (.link ch)).mask
    have keeps := ending_keepsLink ch reason s.eventBlock (relinked ch r s)
    obtain ⟨runs, idle⟩ := ending_check ch reason s.eventBlock (relinked ch r s)
    refine ⟨_, takes, keeps.rx, keeps.notices, ⟨fun running => ?_, idle, fun unforced => ?_⟩, fun k => ?_,
      fun k key own => ⟨?_, ?_⟩, keeps.mode, keeps.blockCount, keeps.ports, keeps.tx, keeps.lanes, keeps.mix, keeps.routes⟩
    · obtain ⟨checks, queued⟩ := runs running
      exact ⟨checks, fun enabled => queued (by rw [mask]; exact enabled)⟩
    · rw [keeps.rx, ending_of_unforced ch reason _ fun k key => unforced k ((isForced k).1 key)]
      exact checkFails reason (relinked ch r s) rfl
    · rw [← isForced]
      exact ending_activation ch reason s.eventBlock k
    · exact ending_pressBlock ch reason s.eventBlock ((isForced k).2 key)
    · refine ending_withdraws ch reason s.eventBlock ((isForced k).2 key) own (checkFails reason) fun w => ?_
      dsimp only [checkEnds]
      split <;> exact ⟨rfl, rfl, rfl⟩
  refine ⟨fun due _ => ⟨_, exec_windowEnd high, high', endWindow_windowDue s, endWindow_rx s, ?_⟩,
    fun due _ => ⟨_, exec_windowEnd high, high', endWindow_windowDue s, endWindow_rx s, ?_⟩, fun due notDue => ?_,
    fun due notDue => ?_, fun notDue => ?_, fun notDue => ?_⟩
  · rw [exec_channelDrop high, exec_channelDrop high', takeDrop_endWindow (dropDue.2 due)]
  · rw [exec_channelIdleLimit high, exec_channelIdleLimit high', takeIdleLimit_endWindow (idleDue.2 due)]
  · refine leaves (r := c.drop) ?_ ?_ rfl
    · rw [exec_channelDrop high, State.takeDrop, if_pos (dropDue.2 due), endWindow_of_not_due notDue]
      rfl
    · rcases due.1 with state | state <;> rw [state] <;> exact nofun
  · refine leaves (r := { c.starting with state := .waiting }) ?_ ?_ rfl
    · rw [exec_channelIdleLimit high, State.takeIdleLimit, if_pos (idleDue.2 due), endWindow_of_not_due notDue]
      rfl
    · rw [due.1]; exact nofun
  · rw [exec_channelDrop high, State.takeDrop_of_not_due (Bool.eq_false_iff.2 (notDue ∘ dropDue.1))]
  · rw [exec_channelIdleLimit high, State.takeIdleLimit_of_not_due (Bool.eq_false_iff.2 (notDue ∘ idleDue.1))]

end Sys2Proof.Proofs
end

section
/-! PROOFS. CUE_SEND, CHECK_START and CHECK_STOP (8.2, 8.4, 8.7), and the completion of a check: the records that they write, and
their refusals. -/

namespace Sys2Proof.Proofs

open Sys2Proof.Machine

/-! ## CUE_SEND (R143) -/

theorem cueSendRequest_of_unread (u : State) {n code : Nat} (bad : 8 ≤ n ∨ 256 ≤ code) :
    u.cueSendRequest n code = refuse .badArg u := by
  unfold State.cueSendRequest
  split
  · rename_i read
    refine if_pos (bad.resolve_left fun far => ?_)
    rw [objectNumber_eq_none.2 far] at read
    cases read
  · rfl

/-- R143: the two checks behind the operands', in order. -/
theorem cueSendRequest_of_read (u : State) (c : ChanId) (code : Byte) : u.cueSendRequest c.val code.toNat =
    if u.rx.channels[c].state = .closed then refuse .notFound u
    else if 8 ≤ u.tx.cues.length then refuse .noSpace u
    else accept { u with tx := { u.tx with cues := u.tx.cues ++ [⟨c, code, false⟩] } } := by
  have same : byteOf code.toNat = code := (BitVec.ofNat_toNat 8 code).trans (BitVec.setWidth_eq code)
  rw [State.cueSendRequest, objectNumber_val]
  dsimp only
  rw [if_neg (Nat.not_le_of_lt code.isLt), same]
  rfl

/-- Settles O33. -/
theorem cueSendJoinsTheQueue : Obligations.CueSendJoinsTheQueue := by
  unfold Obligations.CueSendJoinsTheQueue
  rintro s tag takes mode u rfl
  have admits : AllowedIn.admits .runOnly s.mode = true := by rw [mode]; rfl
  refine ⟨fun n code bad => RefusedWith.of takes rfl rfl admits (cueSendRequest_of_unread _ bad), fun c code =>
    ⟨fun closed => RefusedWith.of takes rfl rfl admits ?_, fun isOpen full => RefusedWith.of takes rfl rfl admits ?_,
      fun isOpen room => AcceptedWith.of takes rfl rfl admits ?_⟩⟩ <;> rw [cueSendRequest_of_read]
  · rw [if_pos closed]
  · rw [if_neg isOpen, if_pos full]
  · rw [if_neg isOpen, if_neg (Nat.not_le_of_lt room)]
    rfl

/-! ## CHECK_START (R147) -/

theorem forwardOf_none {n : Nat} (far : 2 ≤ n) : forwardOf n = none := by rw [forwardOf] <;> omega

theorem isLive_iff (st : ChanState) : st.isLive = true ↔ st = .priming ∨ st = .running := by
  cases st <;> simp [ChanState.isLive]

theorem checkStartRequest_of_unread (u : State) {n : Nat} (duration : Option Nat) {f : Option Nat}
    (bad : 8 ≤ n ∨ ∃ x, f = some x ∧ 2 ≤ x) : u.checkStartRequest n duration f = refuse .badArg u := by
  rw [State.checkStartRequest]
  rcases bad with far | ⟨x, rfl, far⟩
  · rw [objectNumber_eq_none.2 far]
  · rw [optionally_of_none (forwardOf_none far)]
    cases objectNumber 8 n <;> rfl

/-- R147: the two checks behind the operands', in order. -/
theorem checkStartRequest_of_read (u : State) (c : ChanId) (duration : Option Nat) (f : Option ForwardOption) :
    u.checkStartRequest c.val duration (f.map ForwardOption.code) =
      if u.checks[c].state = .running then refuse .busy u
      else if u.rx.channels[c].state.isLive then accept (u.setCheck c (Check.setUp u.blockCount duration f))
      else refuse .wrongMode u := by
  rw [State.checkStartRequest, objectNumber_val, optionally_map forwardOf_code]

/-- Settles O34. -/
theorem checkStartSetsUpTheRecord : Obligations.CheckStartSetsUpTheRecord := by
  unfold Obligations.CheckStartSetsUpTheRecord
  rintro s tag duration takes mode u rfl
  have admits : AllowedIn.admits .runOnly s.mode = true := by rw [mode]; rfl
  refine ⟨fun n f bad => RefusedWith.of takes rfl rfl admits (checkStartRequest_of_unread _ _ bad), ?_⟩
  intro c f req setUp live
  have isLive : s.opened.rx.channels[c].state.isLive = true ↔ live := isLive_iff _
  refine ⟨fun running => RefusedWith.of takes rfl rfl admits ?_, fun free dead => RefusedWith.of takes rfl rfl admits ?_,
    fun free alive => AcceptedWith.of takes rfl rfl admits ?_⟩ <;> rw [checkStartRequest_of_read]
  · rw [if_pos running]
  · rw [if_neg free, if_neg (dead ∘ isLive.1)]
  · rw [if_neg free, if_pos (isLive.2 alive)]
    rfl

/-! ## CHECK_STOP (R152, R153) -/

theorem checkStopRequest_val (u : State) (c : ChanId) : u.checkStopRequest c.val =
    (u.abortCheck c .stopped none u.blockCount, .ok,
      [.u8 (u.abortCheck c .stopped none u.blockCount).checks[c].state.code]) := by
  rw [State.checkStopRequest, objectNumber_val]

/-- R152, R153: the record of a check that ends, and its CHECK notice. -/
theorem endCheck_eq (c : ChanId) (st : CheckState) (reason : Option CheckReason) (n : BlockCount) (u : State) :
    let k := u.checks[c]
    u.endCheck c st reason n =
      State.report (.check ⟨c, st, reason, k.duration, k.startBlock, k.sent, k.matched, k.mismatched, k.lastDelay, k.maxDelay, n⟩)
        { u with checks := u.checks.set c { k with state := st, reason := reason } } := rfl

theorem endCheck_state (c : ChanId) (st : CheckState) (reason : Option CheckReason) (n : BlockCount) (u : State) :
    (u.endCheck c st reason n).checks[c].state = st :=
  congrArg Check.state (tableSet_self u.checks c { u.checks[c] with state := st, reason := reason })

/-- Settles O35: a running check is ended by `endCheck`, and any other is left alone. -/
theorem checkStopEndsTheCheck : Obligations.CheckStopEndsTheCheck := by
  unfold Obligations.CheckStopEndsTheCheck
  rintro s tag takes mode u rfl
  have admits : AllowedIn.admits .runOnly s.mode = true := by rw [mode]; rfl
  refine ⟨fun n far => RefusedWith.of takes rfl rfl admits ?_, fun c => ⟨fun still => AcceptedWith.of takes rfl rfl admits ?_,
    fun running => AcceptedWith.of takes rfl rfl admits ?_⟩⟩
  · rw [State.checkStopRequest, objectNumber_eq_none.2 far]
  · rw [checkStopRequest_val, State.abortCheck, if_neg still]
  · rw [checkStopRequest_val, State.abortCheck, if_pos running, endCheck_state, endCheck_eq]
    exact Prod.ext rfl rfl

/-! ## CHECK_COMPLETION (R151, R153) -/

theorem exec_checkCompletion {s : State} (high : s.rstnLow = false) (ch : ChanId) :
    exec (.checkCompletion ch) s = .next (s.takeCompletion ch) := congrArg Host.Outcome.next (State.ownStep_of_high high _)

theorem completionDue_iff (s : State) (ch : ChanId) :
    s.completionDue ch = true ↔ s.checks[ch].state = .running ∧ s.checks[ch].duration ≤ s.checks[ch].sent := by
  rw [State.completionDue, Bool.and_eq_true, decide_eq_true_eq, decide_eq_true_eq]

/-- R151, R153: the end of a check whose completion is due, by the max delay of its channel. -/
theorem takeCompletion_of_due {s : State} {ch : ChanId} {g : ChannelConfig} (config : s.rx.channels[ch].config = some g)
    (due : s.completionDue ch = true) : s.takeCompletion ch =
      (s.endCheck ch (if (s.checks[ch].verdict g.maxDelay).isNone then .passed else .failed) (s.checks[ch].verdict g.maxDelay)
        s.eventBlock).putChannel ch { s.rx.channels[ch] with excess := s.checks[ch].exceeds g.maxDelay } := by
  have limit : s.maxDelayOf ch = g.maxDelay := by rw [State.maxDelayOf, config]
  rw [State.takeCompletion, if_pos due, limit]
  rfl

/-- R137: a record of which the excess-delay flag alone is written is reported where that flag changes. -/
theorem putChannel_excess (ch : ChanId) (x : Bool) (s : State) : s.putChannel ch { s.rx.channels[ch] with excess := x } =
    { s.setChannel ch { s.rx.channels[ch] with excess := x } with
      link := if x = s.rx.channels[ch].excess then s.link else s.link.report (.link ch) } := by
  rw [putChannel_eq_ite]
  by_cases same : x = s.rx.channels[ch].excess
  · rw [if_pos ⟨rfl, rfl, same.symm⟩, if_pos same]
    rfl
  · rw [if_neg fun ⟨_, _, excess⟩ => same excess.symm, if_neg same]
    rfl

/-- Settles O36: the check ends by `endCheck`, whose notice goes ahead of the LINK notice of `putChannel_excess`. -/
theorem checkCompletes : Obligations.CheckCompletes := by
  unfold Obligations.CheckCompletes
  intro s c g high k r excess reason ended config
  have verdict : k.verdict g.maxDelay = reason := rfl
  have exceeds : k.exceeds g.maxDelay = excess := rfl
  rw [exec_checkCompletion high]
  refine ⟨fun early => ?_, fun running complete => ?_⟩
  · rw [State.takeCompletion_of_not_due (Bool.eq_false_iff.2 fun due => ?_)]
    obtain ⟨running, complete⟩ := (completionDue_iff s c).1 due
    exact early.elim (· running) (Nat.not_lt_of_le complete)
  · rw [takeCompletion_of_due config ((completionDue_iff s c).2 ⟨running, complete⟩), verdict, exceeds]
    exact congrArg Host.Outcome.next (putChannel_excess c excess _)

end Sys2Proof.Proofs
end

section
/-! PROOFS. LINK_FRAME_BEGIN and LINK_FRAME_SENT (8.2, 8.3, 11.8.5): the bytes of a frame, the arbiter's choice and the end of a
frame. -/

namespace Sys2Proof.Proofs

open Sys2Proof.Machine

/-! ## The bytes of a frame (11.8.5) -/

theorem extractLsb'_eq_byteOf {w : Nat} (x : BitVec w) (k : Nat) : x.extractLsb' k 8 = byteOf (x.toNat / 2 ^ k) := by
  rw [BitVec.extractLsb', Nat.shiftRight_eq_div_pow, byteOf]

/-- R189: the two bytes that the model takes out of a word are those of its number. -/
theorem octets_two_toNat (x : BitVec 16) : octets 2 x.toNat = [x.extractLsb' 8 8, x.extractLsb' 0 8] := by
  rw [extractLsb'_eq_byteOf, extractLsb'_eq_byteOf]
  rfl

theorem octets_three_toNat (x : Sample) : octets 3 x.toNat = sampleBytes x := by
  rw [sampleBytes, extractLsb'_eq_byteOf, extractLsb'_eq_byteOf, extractLsb'_eq_byteOf]
  rfl

theorem linkFrameBytes_eq (id : LinkId) (kind : Byte) (q : Seq) (payload : List Byte) :
    linkFrameBytes id kind q payload = linkFrame id kind q payload := by
  rw [linkFrame, octets_two_toNat, octets_two_toNat, linkFrameBytes]
  rfl

theorem blockBytes_eq (b : Block) : blockBytes b = (List.finRange 48).flatMap fun j : Fin 48 => octets 3 (b[j]).toNat := by
  have all : b.toList = (List.finRange 48).map fun j : Fin 48 => b[j] := by
    refine List.ext_getElem (by simp) fun j _ _ => ?_
    simp
  rw [blockBytes, all, List.flatMap_map]
  simp only [octets_three_toNat]

/-- 11.8.5: a sample put together of its three bytes. -/
theorem append_sampleBytes (x : Sample) : x.extractLsb' 16 8 ++ x.extractLsb' 8 8 ++ x.extractLsb' 0 8 = x := by
  have upper : x.extractLsb' 16 8 ++ x.extractLsb' 8 8 = x.extractLsb' 8 16 :=
    BitVec.extractLsb'_append_extractLsb'_eq_extractLsb' rfl
  rw [upper]
  exact (BitVec.extractLsb'_append_extractLsb'_eq_extractLsb' rfl).trans BitVec.extractLsb'_eq_self

theorem length_flatMap_sampleBytes (xs : List Sample) : (xs.flatMap sampleBytes).length = 3 * xs.length := by
  induction xs with
  | nil => rfl
  | cons x xs ih =>
      rw [List.flatMap_cons, List.length_append, ih, List.length_cons]
      exact Nat.add_comm 3 _

/-- R126, 11.8.5: sample `j` of the bytes of a list of samples. -/
theorem sampleAt_flatMap_sampleBytes {xs : List Sample} {j : Nat} (inside : j < xs.length) :
    sampleAt (xs.flatMap sampleBytes) j = xs[j] := by
  induction xs generalizing j with
  | nil => exact absurd inside (Nat.not_lt_zero j)
  | cons x xs ih =>
      cases j with
      | zero => exact append_sampleBytes x
      | succ j => exact ih (Nat.lt_of_succ_lt_succ inside)

/-- R126: a receiver of a block's bytes reads the block. -/
theorem blockBytes_carries (b : Block) : carries (blockBytes b) (some b) := by
  refine ⟨?_, fun j => ?_⟩
  · rw [blockBytes, length_flatMap_sampleBytes, Vector.length_toList]
  · have inside : j.val < b.toList.length := by rw [Vector.length_toList]; exact j.isLt
    have read := sampleAt_flatMap_sampleBytes inside
    rw [Vector.getElem_toList] at read
    exact read.symm

/-! ## The arbiter's choice (R144) -/

theorem exec_linkFrameBegin {s : State} (high : s.rstnLow = false) (ready : Bool) :
    exec (.linkFrameBegin ready) s = .next (s.settle.arbitrate ready) := congrArg Host.Outcome.next (State.event_of_high high _)

theorem exec_linkFrameSent {s : State} (high : s.rstnLow = false) : exec .linkFrameSent s = .next s.settle.finishFrame :=
  congrArg Host.Outcome.next (State.event_of_high high _)

theorem arbitrate_of_low (v : State) : v.arbitrate false = v := rfl

theorem arbitrate_of_busy {v : State} (busy : v.tx.sending.isSome) : v.arbitrate true = v := by
  obtain ⟨f, sending⟩ := Option.isSome_iff_exists.1 busy
  rw [State.arbitrate, sending]
  rfl

theorem arbitrate_of_free {v : State} (free : v.tx.sending = none) : v.arbitrate true = v.beginFrame := by
  rw [State.arbitrate, free]
  rfl

/-- R144: among frames in channel order the one of the lowest channel is the first, and the others are those of the other
channels. -/
theorem ready_of_lowest {ready : List AudioFrame} (ordered : ready.Pairwise fun a b : AudioFrame => a.channel < b.channel)
    {f : AudioFrame} (mem : f ∈ ready) (lowest : ∀ x ∈ ready, f.channel ≤ x.channel) :
    ready = f :: ready.filter fun x : AudioFrame => decide (x.channel ≠ f.channel) := by
  cases ready with
  | nil => cases mem
  | cons first rest =>
      obtain ⟨above, -⟩ := List.pairwise_cons.1 ordered
      have isFirst : f = first := (List.mem_cons.1 mem).resolve_right fun later =>
        absurd (above f later) (Fin.not_lt.2 (lowest first List.mem_cons_self))
      have others : (rest.filter fun x : AudioFrame => decide (x.channel ≠ f.channel)) = rest :=
        List.filter_eq_self.2 fun x later => decide_eq_true (isFirst ▸ (Fin.ne_of_gt (above x later)))
      rw [List.filter_cons_of_neg (by rw [isFirst, decide_eq_true_eq]; exact fun other => other rfl), others, isFirst]

theorem beginFrame_of_ready {v : State} {f : AudioFrame} {rest : List AudioFrame} (ready : v.tx.ready = f :: rest) :
    v.beginFrame = { v with tx := { v.tx with sending := some (.audio f), ready := rest } } := by
  rw [State.beginFrame, ready]

/-- R144: the first cue not begun is the one that is marked. -/
theorem beginCue_append {pre post : List OutCue} {q : OutCue} (begun : ∀ x ∈ pre, x.begun = true) (waits : q.begun = false) :
    beginCue (pre ++ q :: post) = pre ++ { q with begun := true } :: post := by
  induction pre with
  | nil => exact if_neg (by rw [waits]; exact Bool.false_ne_true)
  | cons x pre ih =>
      have later := ih fun y mem => begun y (List.mem_cons_of_mem x mem)
      rw [List.cons_append, beginCue, if_pos (begun x List.mem_cons_self), later, List.cons_append]

/-- R144: with no AUDIO frame ready, the first cue not begun is the one that goes out. -/
theorem beginFrame_of_cue {v : State} {pre post : List OutCue} {q : OutCue} (noFrame : v.tx.ready = [])
    (cues : v.tx.cues = pre ++ q :: post) (begun : ∀ x ∈ pre, x.begun = true) (waits : q.begun = false) :
    v.beginFrame = { v with tx := { v.tx with
      sending := some (v.cueFrame q), cues := pre ++ { q with begun := true } :: post } } := by
  have oldest : v.tx.cues.find? (fun x : OutCue => !x.begun) = some q := by
    rw [cues]
    refine List.find?_eq_some_iff_append.2 ⟨by rw [waits]; rfl, pre, post, rfl, fun x mem => ?_⟩
    rw [begun x mem]
    rfl
  rw [State.beginFrame, noFrame]
  dsimp only
  rw [oldest]
  dsimp only
  rw [cues, beginCue_append begun waits]

theorem beginFrame_of_idle {v : State} (noFrame : v.tx.ready = []) (begun : ∀ x ∈ v.tx.cues, x.begun = true) : v.beginFrame = v := by
  have noCue : v.tx.cues.find? (fun x : OutCue => !x.begun) = none :=
    List.find?_eq_none.2 fun x mem => by rw [begun x mem]; exact Bool.false_ne_true
  rw [State.beginFrame, noFrame]
  dsimp only
  rw [noCue]

theorem cueFrame_of_config {v : State} {q : OutCue} {g : ChannelConfig} (config : v.rx.channels[q.channel].config = some g) :
    v.cueFrame q = .cue g.linkId v.tx.outSeq[q.channel] q.code := by
  rw [State.cueFrame, config]

/-! ## The end of a frame (R144, R145) -/

theorem finishFrame_of_free {v : State} (free : v.tx.sending = none) : v.finishFrame = v := by
  rw [State.finishFrame, free]

theorem finishFrame_of_audio {v : State} {f : AudioFrame} (sending : v.tx.sending = some (.audio f)) :
    v.finishFrame = { v with tx := { v.tx with sending := none } } := by
  rw [State.finishFrame, sending]

theorem finishFrame_of_cue {v : State} {id : LinkId} {q : Seq} {code : Byte} (sending : v.tx.sending = some (.cue id q code)) :
    v.finishFrame = { v with tx := { v.tx with sending := none, cues := v.tx.cues.filter fun x => !x.begun } } := by
  rw [State.finishFrame, sending]

/-- Settles O54: the bytes by `linkFrameBytes_eq` and `blockBytes_eq`; then the arbiter's choice case by case, and the end of a
frame by its kind. -/
theorem linkFramesGoOutOneByOne : Obligations.LinkFramesGoOutOneByOne := by
  unfold Obligations.LinkFramesGoOutOneByOne
  refine ⟨fun f => ⟨blockBytes f.samples, linkFrameBytes_eq _ _ _ _, blockBytes_carries _, blockBytes_eq _⟩,
    fun id q code => linkFrameBytes_eq _ _ _ _, ?_⟩
  rintro s high v rfl
  rw [exec_linkFrameBegin high, exec_linkFrameBegin high, exec_linkFrameSent high, arbitrate_of_low]
  refine ⟨rfl, fun busy => ?_, fun free => ?_, fun free => ?_, fun f sending => ?_, fun id q code sending => ?_⟩
  · rw [arbitrate_of_busy busy]
  · rw [arbitrate_of_free free]
    refine ⟨fun ordered f mem lowest => ?_, fun pre post q g noFrame cues begun waits config => ?_, fun noFrame begun => ?_⟩
    · rw [beginFrame_of_ready (ready_of_lowest ordered mem lowest)]
    · rw [beginFrame_of_cue noFrame cues begun waits, cueFrame_of_config config]
    · rw [beginFrame_of_idle noFrame begun]
  · rw [finishFrame_of_free free]
  · rw [finishFrame_of_audio sending]
  · rw [finishFrame_of_cue sending]

end Sys2Proof.Proofs
end

section
/-! PROOFS. The protection governor: GOVERNOR's configuration (9.1), and the window end that decides the levels (9.5, 9.6). -/

namespace Sys2Proof.Proofs

open Sys2Proof.Machine

/-! ## GOVERNOR (R154) -/

theorem govModeOf_none {n : Nat} (far : 3 ≤ n) : govModeOf n = none := by rw [govModeOf] <;> omega

/-- R154: the configuration that GOVERNOR writes, in figures. -/
theorem govConfig_eq (m : GovMode) (tLow tMid cap1 cap2 limit : Option Nat) :
    let low := min 1073741824 (tLow.getD 2097152)
    let c1 := min 4096 (cap1.getD 2896)
    govConfig m tLow tMid cap1 cap2 limit =
      ⟨m, low, max low (min 1073741824 (tMid.getD 4194304)), c1, min c1 (min 4096 (cap2.getD 2048)),
        max 1 (min 255 (limit.getD 12))⟩ := by
  have clamped (hi n : Nat) : clampTo 0 hi n = min hi n := Nat.zero_max _
  unfold govConfig
  dsimp only
  rw [clamped, clamped, clamped, clamped, Nat.max_comm, Nat.min_comm (min _ _) (min _ _)]
  rfl

theorem governorRequest_code (u : State) (m : GovMode) (tLow tMid cap1 cap2 limit : Option Nat) :
    u.governorRequest m.code tLow tMid cap1 cap2 limit =
      ({ u with gov := { u.gov with config := govConfig m tLow tMid cap1 cap2 limit } }, .ok,
        (govConfig m tLow tMid cap1 cap2 limit).fields) := by
  rw [State.governorRequest, govModeOf_code]

/-- Settles O17. -/
theorem governorWritesTheConfiguration : Obligations.GovernorWritesTheConfiguration := by
  unfold Obligations.GovernorWritesTheConfiguration
  rintro s tag tLow tMid cap1 cap2 limit takes mode u rfl
  have admits : AllowedIn.admits .configOnly s.mode = true := by rw [mode]; rfl
  refine ⟨fun m => AcceptedWith.of takes rfl rfl admits ?_, fun m far => RefusedWith.of takes rfl rfl admits ?_⟩
  · rw [governorRequest_code, govConfig_eq]
    rfl
  · rw [State.governorRequest, govModeOf_none far]

/-! ## The decision for one port (R159, R160, R161) -/

/-- R160: the closed-loop level is 0 in any mode but CLOSED. -/
theorem closedLevel_eq (c : GovConfig) (peak : Nat) : c.closedLevel peak =
    if c.mode = .closed then (if c.tMid < peak then 2 else if c.tLow < peak then 1 else 0) else 0 := by
  unfold GovConfig.closedLevel
  cases c.mode <;> rfl

/-- R160: the open-loop level is 1 while a count of the history is above the limit. -/
theorem openLevel_eq (c : GovConfig) (history : List Nat) [Decidable (∃ n ∈ history, c.limit < n)] :
    c.openLevel history = if ∃ n ∈ history, c.limit < n then 1 else 0 := by
  unfold GovConfig.openLevel
  refine if_congr ?_ rfl rfl
  simp only [List.any_eq_true, decide_eq_true_eq]

/-- R53, R161. -/
theorem cap_eq (c : GovConfig) (level : Nat) :
    c.cap level = if level = 0 then 4096 else if level = 1 then c.cap1 else c.cap2 := by
  match level with
  | 0 => rfl
  | 1 => rfl
  | n + 2 => rw [if_neg (by omega), if_neg (by omega)]; rfl

/-- R159: the protection record of port `p` once its window has ended. -/
def endedRecord (s : State) (p : PortId) : Protection :=
  if s.ports[p].kind.governed then s.gov.records[p].endWindow s.gov.config s.mix.clips[p] else s.gov.records[p]

/-- R161: the gain record of port `p` once its window has ended. -/
def endedGain (s : State) (p : PortId) : Option Gain :=
  if s.ports[p].kind.governed then
    s.mix.gains[p].map fun g => g.aim (min ((s.ports[p].trim).getD Config.unity) (s.gov.config.cap (endedRecord s p).level))
  else s.mix.gains[p]

theorem endedRecord_of_governed {s : State} {p : PortId} (governed : s.ports[p].kind.governed = true) :
    endedRecord s p = s.gov.records[p].endWindow s.gov.config s.mix.clips[p] := if_pos governed

theorem endedRecord_of_ungoverned {s : State} {p : PortId} (other : ¬ s.ports[p].kind.governed = true) :
    endedRecord s p = s.gov.records[p] := if_neg other

theorem endedGain_of_governed {s : State} {p : PortId} (governed : s.ports[p].kind.governed = true) : endedGain s p =
    s.mix.gains[p].map fun g => g.aim (min ((s.ports[p].trim).getD Config.unity) (s.gov.config.cap (endedRecord s p).level)) :=
  if_pos governed

theorem endedGain_of_ungoverned {s : State} {p : PortId} (other : ¬ s.ports[p].kind.governed = true) :
    endedGain s p = s.mix.gains[p] := if_neg other

/-- R162: the level of port `p` changes at the window end. -/
def levelMoves (s : State) (p : PortId) : Bool := decide ((endedRecord s p).level ≠ s.gov.records[p].level)

/-! ## The window end of the ports in turn (R162) -/

/-- What the window ends of the ports `ps` leave. -/
def endedWindows (ps : List PortId) (s : State) : State :=
  { s with
    gov := { s.gov with records := tableOf fun p : PortId => if p ∈ ps then endedRecord s p else s.gov.records[p] }
    mix := { s.mix with gains := tableOf fun p : PortId => if p ∈ ps then endedGain s p else s.mix.gains[p] }
    link := reported ((ps.filter (levelMoves s)).map Notice.protect) s.link }

/-- R53, R161: the target gain that the new level asks for. -/
theorem wantedGain_setProtection {s : State} {p : PortId} (governed : s.ports[p].kind.governed = true) (r : Protection) :
    (s.setProtection p r).wantedGain p = min ((s.ports[p].trim).getD Config.unity) (s.gov.config.cap r.level) := by
  have cap : (s.setProtection p r).capOf p = s.gov.config.cap r.level :=
    (if_pos governed).trans (by rw [State.setProtection_gov, tableSet_self])
  rw [State.wantedGain, cap]
  rfl

theorem endWindowPort_eq (p : PortId) (s : State) : s.endWindowPort p =
    { s with
      gov := { s.gov with records := tableSet s.gov.records p (endedRecord s p) }
      mix := { s.mix with gains := tableSet s.mix.gains p (endedGain s p) }
      link := reported (([p].filter (levelMoves s)).map Notice.protect) s.link } := by
  unfold State.endWindowPort levelMoves
  by_cases governed : s.ports[p].kind.governed = true
  · rw [if_pos governed, endedGain_of_governed governed, endedRecord_of_governed governed]
    dsimp only
    rw [retargetGain_eq, wantedGain_setProtection governed, List.filter_singleton, endedRecord_of_governed governed]
    split
    · rename_i still; rw [decide_eq_false (not_not_intro still)]; rfl
    · rename_i moves; rw [decide_eq_true moves]; rfl
  · rw [if_neg governed, endedGain_of_ungoverned governed, List.filter_singleton, endedRecord_of_ungoverned governed,
      tableSet_getElem_self, tableSet_getElem_self, decide_eq_false (not_not_intro rfl)]
    rfl

/-- A table rewritten at one more place. -/
theorem tableSet_tableOf_concat {α : Type} {n : Nat} (v : Vector α n) (f : Fin n → α) (is : List (Fin n)) (i : Fin n) :
    tableSet (tableOf fun j : Fin n => if j ∈ is then f j else v[j]) i (f i) =
      tableOf fun j : Fin n => if j ∈ is ++ [i] then f j else v[j] := by
  refine Vector.ext fun j hj => ?_
  rw [tableSet_getElem, tableOf_getElem, tableOf_getElem]
  by_cases same : i.val = j
  · subst same
    rw [if_pos rfl, if_pos (List.mem_append_right _ List.mem_cons_self)]
  · have other : (⟨j, hj⟩ : Fin n) ≠ i := fun eq => same (congrArg Fin.val eq).symm
    simp only [if_neg same, List.mem_append, List.mem_singleton, other, or_false]

/-- The window end of a port reads nothing that the window ends of other ports write. -/
theorem endedWindows_reads {ps : List PortId} {p : PortId} (absent : p ∉ ps) (s : State) :
    (endedWindows ps s).gov.records[p] = s.gov.records[p] ∧ endedRecord (endedWindows ps s) p = endedRecord s p ∧
      endedGain (endedWindows ps s) p = endedGain s p := by
  have record : (endedWindows ps s).gov.records[p] = s.gov.records[p] := (tableOf_get _ p).trans (if_neg absent)
  have gain : (endedWindows ps s).mix.gains[p] = s.mix.gains[p] := (tableOf_get _ p).trans (if_neg absent)
  have ended : endedRecord (endedWindows ps s) p = endedRecord s p := by
    rw [endedRecord, record]; rfl
  refine ⟨record, ended, ?_⟩
  rw [endedGain, gain, ended]; rfl

theorem endWindowPort_endedWindows {ps : List PortId} {p : PortId} (absent : p ∉ ps) (s : State) :
    (endedWindows ps s).endWindowPort p = endedWindows (ps ++ [p]) s := by
  obtain ⟨record, ended, gain⟩ := endedWindows_reads absent s
  have moves : levelMoves (endedWindows ps s) p = levelMoves s p := by rw [levelMoves, record, ended]; rfl
  rw [endWindowPort_eq, ended, gain, List.filter_singleton, moves, endedWindows, tableSet_tableOf_concat,
    tableSet_tableOf_concat, ← reported_append, ← List.map_append, ← List.filter_singleton, ← List.filter_append]
  rfl

theorem foldl_endWindowPort {ps : List PortId} (distinct : ps.Nodup) (s : State) :
    ps.foldl (fun s p => s.endWindowPort p) s = endedWindows ps s := by
  induction ps using List.reverseRecOn with
  | nil =>
      simp only [endedWindows, List.not_mem_nil, if_false, tableOf_self]
      rfl
  | append_singleton ps p ih =>
      obtain ⟨distinct, -, absent⟩ := List.nodup_append.1 distinct
      rw [List.foldl_append, ih distinct]
      exact endWindowPort_endedWindows (fun mem => absent p mem p List.mem_cons_self rfl) s

/-- R159 to R162: the state that a window end leaves. -/
theorem endWindow_of_due {s : State} (due : s.gov.windowDue = true) : s.endWindow =
    { s with
      gov := { s.gov with records := tableOf (endedRecord s), windowDue := false }
      mix := { s.mix with gains := tableOf (endedGain s) }
      link := reported (((List.finRange 48).filter (levelMoves s)).map Notice.protect) s.link } := by
  rw [State.endWindow, if_pos due, foldl_endWindowPort (List.nodup_finRange 48), endedWindows]
  simp only [List.mem_finRange, if_true]
  rfl

/-- Settles O45. -/
theorem windowEndDecidesTheLevel : Obligations.WindowEndDecidesTheLevel := by
  unfold Obligations.WindowEndDecidesTheLevel
  intro s high c governed
  rw [exec_windowEnd high]
  refine ⟨fun notDue => by rw [endWindow_of_not_due notDue], fun due => ?_⟩
  have record (p : PortId) : (tableOf (endedRecord s))[p] = endedRecord s p := tableOf_get _ p
  have gain (p : PortId) : (tableOf (endedGain s))[p] = endedGain s p := tableOf_get _ p
  rw [endWindow_of_due due]
  refine ⟨_, rfl, rfl, rfl, fun p other => ?_, fun p own => ?_, ?_, rfl, rfl, rfl, rfl, rfl, rfl, rfl, rfl, rfl, rfl, rfl, rfl, rfl⟩
  · have other : ¬ s.ports[p].kind.governed = true := mt (PortKind.governed_iff _).1 other
    exact ⟨(record p).trans (endedRecord_of_ungoverned other), (gain p).trans (endedGain_of_ungoverned other)⟩
  · intro r counts history closed opened wanted level target on
    have own : s.ports[p].kind.governed = true := (PortKind.governed_iff _).2 own
    have ended : endedRecord s p = ⟨level, 0, 0, history, some ⟨r.peak, r.openings, s.mix.clips[p]⟩⟩ := by
      rw [endedRecord_of_governed own, Protection.endWindow, closedLevel_eq, openLevel_eq]
      rfl
    refine ⟨(record p).trans ended, (gain p).trans ?_⟩
    rw [endedGain_of_governed own, ended, cap_eq]
    rfl
  · simp only [record]
    exact List.foldl_map

end Sys2Proof.Proofs
end

section
/-! PROOFS. ROUTE_ADD, ROUTE_DROP, ROUTE_COPY and SWAP (10.2, 10.3). -/

namespace Sys2Proof.Proofs

open Sys2Proof.Machine

/-! ## A route in a set -/

theorem findRoute_none {id : PathId} {rs : List Route} : findRoute id rs = none ↔ ∀ r ∈ rs, r.ident ≠ id := by
  rw [findRoute, List.find?_eq_none]
  simp only [decide_eq_true_eq]

theorem findRoute_of_mem {r : Route} {rs : List Route} (mem : r ∈ rs) (distinct : (rs.map Route.ident).Nodup) :
    findRoute r.ident rs = some r :=
  find?_of_unique mem (decide_eq_true rfl) fun _ there same => List.inj_on_of_nodup_map distinct there mem (of_decide_eq_true same)

theorem findRoute_isNone_iff (id : PathId) (rs : List Route) : (findRoute id rs).isNone = true ↔ ¬ ∃ r ∈ rs, r.ident = id := by
  rw [Option.isNone_iff_eq_none, findRoute_none]
  simp only [not_exists, not_and, ne_eq]

theorem setRoute_eq (id : PathId) (n : Nat) (rs : List Route) [Decidable (∃ r ∈ rs, r.ident = id)] : setRoute id n rs =
    if ∃ r ∈ rs, r.ident = id then rs.map fun r : Route => if r.ident = id then { r with level := n } else r
    else rs ++ [⟨id, n⟩] := by
  refine if_congr ?_ rfl rfl
  rw [← not_iff_not, ← findRoute_isNone_iff, Option.isNone_iff_eq_none, Option.not_isSome_iff_eq_none]

/-! ## ROUTE_ADD and ROUTE_DROP (R167, R168) -/

/-- R180: the raw numbers of no route. -/
def BadRoute (a d c : Nat) : Prop := (48 ≤ a ∧ a < 128 ∨ 136 ≤ a) ∨ (48 ≤ d ∧ d < 128 ∨ 136 ≤ d) ∨ 2 ≤ c

theorem pathIdOf_of_bad {a d c : Nat} (bad : BadRoute a d c) : pathIdOf a d c = none := by
  unfold pathIdOf
  rcases bad with source | destination | cls
  · rw [endpointOf_none source]
  · rw [endpointOf_none destination]
    cases endpointOf a <;> rfl
  · have unread : classOf c = none := by rw [classOf] <;> omega
    rw [unread]
    cases endpointOf a <;> cases endpointOf d <;> rfl

theorem pathIdOf_code (id : PathId) : pathIdOf id.src.code id.dst.code id.cls.code = some id := by
  rw [pathIdOf, endpointOf_code, endpointOf_code, classOf_code]

theorem routeAddRequest_of_bad {a d c : Nat} (bad : BadRoute a d c) (level : Option Nat) (u : State) :
    u.routeAddRequest a d c level = refuse .badArg u := by rw [State.routeAddRequest, pathIdOf_of_bad bad]

/-- R167 check 4: a new route has no room in a set. -/
abbrev NoRoom (id : PathId) (rs : List Route) : Prop :=
  256 ≤ rs.length ∨ 32 ≤ (rs.filter fun r : Route => decide (r.ident.dst = id.dst)).length

/-- R167: the checks behind the operands', in order. -/
theorem routeAddRequest_of_read (u : State) (id : PathId) (level : Option Nat) :
    u.routeAddRequest id.src.code id.dst.code id.cls.code level =
      if u.routes.swapPending = true then refuse .busy u
      else if u.shapeRefused id = true then refuse .badArg u
      else if (¬ ∃ r ∈ u.routes.standby, r.ident = id) ∧ NoRoom id u.routes.standby then refuse .noSpace u
      else accept { u with routes := { u.routes with
        standby := setRoute id (min 8192 (level.getD 4096)) u.routes.standby } } := by
  rw [State.routeAddRequest, pathIdOf_code]
  dsimp only
  rw [clampTo_zero, Nat.min_comm]
  refine if_congr Iff.rfl rfl (if_congr Iff.rfl rfl (if_congr ?_ rfl rfl))
  rw [Bool.and_eq_true, findRoute_isNone_iff, Bool.or_eq_true, decide_eq_true_eq, decide_eq_true_eq]
  rfl

/-- Settles O25. -/
theorem routeAddEditsTheStandbySet : Obligations.RouteAddEditsTheStandbySet := by
  unfold Obligations.RouteAddEditsTheStandbySet
  rintro s tag level takes u rfl old n
  refine ⟨fun a d c bad => RefusedWith.of takes rfl rfl rfl (routeAddRequest_of_bad bad level _), fun id => ?_⟩
  intro req present full
  have legalShape : s.opened.legalShape id → ¬ s.opened.shapeRefused id = true := fun legal => by
    rw [(State.shapeRefused_iff _ _).2 legal]
    exact Bool.false_ne_true
  refine ⟨fun pending => RefusedWith.of takes rfl rfl rfl ?_, fun free illegal => RefusedWith.of takes rfl rfl rfl ?_,
    fun free legal new noRoom => RefusedWith.of takes rfl rfl rfl ?_,
    fun free legal new room => AcceptedWith.of takes rfl rfl rfl ?_,
    fun free legal there => AcceptedWith.of takes rfl rfl rfl ?_⟩ <;> rw [routeAddRequest_of_read]
  · rw [if_pos pending]
  · rw [if_neg (Bool.eq_false_iff.1 free), if_pos (Bool.not_eq_false _ ▸ mt (State.shapeRefused_iff _ _).1 illegal)]
  · rw [if_neg (Bool.eq_false_iff.1 free), if_neg (legalShape legal), if_pos ⟨new, noRoom⟩]
  · rw [if_neg (Bool.eq_false_iff.1 free), if_neg (legalShape legal), if_neg fun both => room both.2, setRoute_eq, if_neg new]
    rfl
  · rw [if_neg (Bool.eq_false_iff.1 free), if_neg (legalShape legal), if_neg fun both => both.1 there, setRoute_eq, if_pos there]
    rfl

theorem routeDropRequest_of_bad {a d c : Nat} (bad : BadRoute a d c) (u : State) :
    u.routeDropRequest a d c = refuse .badArg u := by rw [State.routeDropRequest, pathIdOf_of_bad bad]

/-- R168: the checks behind the operands', in order. -/
theorem routeDropRequest_of_read (u : State) (id : PathId) : u.routeDropRequest id.src.code id.dst.code id.cls.code =
    if u.routes.swapPending = true then refuse .busy u
    else if ¬ ∃ r ∈ u.routes.standby, r.ident = id then refuse .notFound u
    else accept { u with routes := { u.routes with
      standby := u.routes.standby.filter fun r : Route => decide (r.ident ≠ id) } } := by
  rw [State.routeDropRequest, pathIdOf_code]
  exact if_congr Iff.rfl rfl (if_congr (findRoute_isNone_iff _ _) rfl rfl)

/-- Settles O26. -/
theorem routeDropAndRouteCopyEditTheStandbySet : Obligations.RouteDropAndRouteCopyEditTheStandbySet := by
  unfold Obligations.RouteDropAndRouteCopyEditTheStandbySet
  rintro s tag takes u rfl old
  refine ⟨fun a d c bad => RefusedWith.of takes rfl rfl rfl (routeDropRequest_of_bad bad _), fun id =>
    ⟨fun pending => RefusedWith.of takes rfl rfl rfl ?_, fun free absent => RefusedWith.of takes rfl rfl rfl ?_,
      fun free there => AcceptedWith.of takes rfl rfl rfl ?_⟩,
    fun pending => RefusedWith.of takes rfl rfl rfl (if_pos pending),
    fun free => AcceptedWith.of takes rfl rfl rfl (if_neg (Bool.eq_false_iff.1 free))⟩ <;> rw [routeDropRequest_of_read]
  · rw [if_pos pending]
  · rw [if_neg (Bool.eq_false_iff.1 free), if_pos fun ⟨r, mem, same⟩ => absent r mem same]
  · rw [if_neg (Bool.eq_false_iff.1 free), if_neg (not_not.2 there)]
    rfl

/-! ## SWAP (R169) -/

/-- Settles O27. -/
theorem swapExchangesOrWaits : Obligations.SwapExchangesOrWaits := by
  unfold Obligations.SwapExchangesOrWaits
  rintro s tag takes u rfl
  have sameMode : s.opened.mode = s.mode := s.opened_outside.2.1
  refine ⟨fun config => AcceptedWith.of takes rfl rfl rfl ?_, fun run free => AcceptedWith.of takes rfl rfl rfl ?_,
    fun run pending => RefusedWith.of takes rfl rfl rfl ?_⟩ <;> rw [State.swapRequest, sameMode]
  · rw [config]
    rfl
  · rw [run]
    exact if_neg (Bool.eq_false_iff.1 free)
  · rw [run]
    exact if_pos pending

end Sys2Proof.Proofs
end

section
/-! PROOFS. The judgement of a swap (10.3): the limits in their order, and the room that an exchange within the limits finds. -/

namespace Sys2Proof.Proofs

open Sys2Proof.Machine

/-! ## The limits (R170, R174) -/

/-- R170: the routes of a set whose identity has no record. -/
abbrev lacking (v : State) (rs : List Route) : List Route :=
  rs.filter fun r : Route => decide (∀ p ∈ v.paths, p.ident ≠ r.ident)

/-- R170: the creations exceed the path table. -/
abbrev TableFull (s : State) : Prop := 512 < (lacking s s.routes.standby).length + s.paths.length

/-- R170: the creations exceed a destination. -/
abbrev DestFull (s : State) (d : Endpoint) : Prop :=
  32 < ((lacking s s.routes.standby).filter fun r : Route => decide (r.ident.dst = d)).length +
    (s.paths.filter fun p : Path => decide (p.ident.dst = d)).length

theorem creations_eq (s : State) : s.creations = lacking s s.routes.standby :=
  List.filter_congr fun r _ => by rw [Bool.eq_iff_iff, Option.isNone_iff_eq_none, findPath_none, decide_eq_true_eq]

theorem swapLimit_eq (s : State) : s.swapLimit = if TableFull s then some .table
    else (allEndpoints.find? fun d : Endpoint => decide (DestFull s d)).map .destination := by
  rw [State.swapLimit, creations_eq]
  rfl

/-- R174: the endpoints stand in the order of their codes. -/
theorem allEndpoints_sorted : allEndpoints.Pairwise fun d e => d.code < e.code := by
  have ascending (n : Nat) : (List.finRange n).Pairwise fun a b => a.val < b.val := List.pairwise_lt_finRange n
  rw [allEndpoints, List.pairwise_append, List.pairwise_map, List.pairwise_map]
  refine ⟨ascending 48, (ascending 8).imp fun lt => Nat.add_lt_add_left lt 128, fun d ports e buses => ?_⟩
  obtain ⟨p, -, rfl⟩ := List.mem_map.1 ports
  obtain ⟨b, -, rfl⟩ := List.mem_map.1 buses
  simp only [Endpoint.code]
  omega

theorem mem_allEndpoints (d : Endpoint) : d ∈ allEndpoints := by
  rw [allEndpoints, List.mem_append]
  cases d with
  | port p => exact .inl (List.mem_map_of_mem (List.mem_finRange p))
  | bus b => exact .inr (List.mem_map_of_mem (List.mem_finRange b))

/-- The first hit in a list in ascending order of a code is the hit of the least code. -/
theorem find?_of_least {α : Type} {code : α → Nat} {xs : List α} (sorted : xs.Pairwise fun x y => code x < code y) {f : α → Bool}
    {x : α} (mem : x ∈ xs) (hit : f x = true) (least : ∀ y, code y < code x → f y = false) : xs.find? f = some x := by
  induction xs with
  | nil => exact absurd mem List.not_mem_nil
  | cons y ys ih =>
      rw [List.pairwise_cons] at sorted
      obtain ⟨first, rest⟩ := sorted
      rcases List.mem_cons.1 mem with rfl | mem
      · exact List.find?_cons_of_pos hit
      · rw [List.find?_cons_of_neg (Bool.eq_false_iff.1 (least y (first x mem)))]
        exact ih rest mem

theorem swapLimit_of_table {s : State} (full : TableFull s) : s.swapLimit = some .table := by rw [swapLimit_eq, if_pos full]

theorem swapLimit_of_destination {s : State} (room : ¬ TableFull s) {d : Endpoint} (full : DestFull s d)
    (first : ∀ e : Endpoint, e.code < d.code → ¬ DestFull s e) : s.swapLimit = some (.destination d) := by
  rw [swapLimit_eq, if_neg room, find?_of_least allEndpoints_sorted (mem_allEndpoints d) (decide_eq_true full)
    fun e lt => decide_eq_false (first e lt)]
  rfl

theorem swapLimit_of_room {s : State} (room : ¬ TableFull s) (into : ∀ d, ¬ DestFull s d) : s.swapLimit = none := by
  rw [swapLimit_eq, if_neg room, List.find?_eq_none.2 fun d _ => by simpa using into d]
  rfl

/-- R170, R174: what a judgement reports. -/
def swapNotice (s : State) (outcome : SwapOutcome) (limit : Option SwapLimit) : Notice :=
  .swap outcome s.blockCount s.routes.standby.length (some (lacking s s.routes.standby).length) limit

theorem judgeSwap_of_limit {s : State} {l : SwapLimit} (limit : s.swapLimit = some l) :
    s.judgeSwap = (judged s).report (swapNotice s .failed (some l)) := by
  rw [State.judgeSwap, limit, creations_eq]
  rfl

theorem judgeSwap_of_room {s : State} (limit : s.swapLimit = none) :
    s.judgeSwap = (judged s).exchange.report (swapNotice s .done none) := by
  rw [State.judgeSwap, limit, creations_eq]
  rfl

theorem exec_swapJudgement {s : State} (high : s.rstnLow = false) : exec .swapJudgement s = .next s.takeJudgement :=
  congrArg Host.Outcome.next (State.ownStep_of_high high _)

theorem takeJudgement_of_due {s : State} (due : s.routes.judgementDue = true) : s.takeJudgement = s.endWindow.judgeSwap := if_pos due

/-! ## What the exchange does to the state (R171) -/

theorem touchPath_onlyOpens (id : PathId) (f : Path → Path) (s : State) : OnlyOpens s (s.touchPath id f) := by
  cases found : s.findPath id with
  | none => rw [touchPath_of_none found]; exact .refl s
  | some p => rw [touchPath_of_some found]; exact (onlyOpens_paths s _).trans (openingIfRaised_onlyOpens _ _ _ _)

theorem OnlyOpens.foldl {α : Type} {f : State → α → State} (hf : ∀ s x, OnlyOpens s (f s x)) (xs : List α) (s : State) :
    OnlyOpens s (xs.foldl f s) := by
  induction xs generalizing s with
  | nil => exact .refl s
  | cons x xs ih => exact (hf s x).trans (ih (f s x))

/-- R107: ROUTE has left a path, which is held back unless one of its keys is the head of the list. -/
theorem routeLeftEarpiece_cases (id : PathId) (s : State) :
    s.routeLeftEarpiece id = s ∨ s.routeLeftEarpiece id = s.touchPath id Path.suspend := by
  unfold State.routeLeftEarpiece
  split
  · exact .inl rfl
  · split
    · split
      · exact .inl rfl
      · split
        · split
          · exact .inl rfl
          · exact .inr rfl
        · exact .inr rfl
    · exact .inl rfl

theorem dropRoute_onlyOpens (id : PathId) (s : State) : OnlyOpens s (s.dropRoute id) := by
  have left : OnlyOpens s (s.removeHolder id .route) := touchPath_onlyOpens id _ s
  rcases routeLeftEarpiece_cases id (s.removeHolder id .route) with same | held <;> rw [State.dropRoute]
  · rwa [same]
  · rw [held]; exact left.trans (touchPath_onlyOpens id _ _)

theorem dropLeaving_onlyOpens (incoming : List Route) (s : State) (r : Route) : OnlyOpens s (dropLeaving incoming s r) := by
  unfold dropLeaving
  split
  · exact dropRoute_onlyOpens r.ident s
  · exact .refl s

theorem openEntering_onlyOpens (outgoing : List Route) (s : State) (r : Route) : OnlyOpens s (openEntering outgoing s r) := by
  unfold openEntering
  split
  · exact addHolder_onlyOpens _ _ _ s
  · split
    · exact .refl s
    · exact touchPath_onlyOpens _ _ s

/-- R24 to R26, R29: an incoming route leaves the paths, changes its record, or creates one. -/
theorem openEntering_cases (outgoing : List Route) (v : State) (r : Route) : openEntering outgoing v r = v ∨
    (∃ f : Path → Path, (∀ q, (f q).ident = q.ident) ∧ openEntering outgoing v r = v.touchPath r.ident f) ∨
    (v.findPath r.ident = none ∧ openEntering outgoing v r = v.createPath r.ident .route false) := by
  unfold openEntering
  split
  · unfold State.addHolder
    split
    · rename_i absent
      split
      · exact .inr (.inr ⟨absent, rfl⟩)
      · exact .inl rfl
    · split
      · exact .inr (.inl ⟨_, fun q => (Path.reopen_fixed .route false q).2, rfl⟩)
      · exact .inr (.inl ⟨_, fun q => (Path.join_fixed .route q).2, rfl⟩)
  · split
    · exact .inl rfl
    · exact .inr (.inl ⟨fun p => p, fun _ => rfl, rfl⟩)

theorem dropLeaving_idents (incoming : List Route) (s : State) (r : Route) :
    (dropLeaving incoming s r).paths.map Path.ident = s.paths.map Path.ident := by
  unfold dropLeaving
  split
  · have left := touchPath_idents s r.ident fun q => (Path.leave_fixed .route q).2
    rcases routeLeftEarpiece_cases r.ident (s.removeHolder r.ident .route) with same | held <;> rw [State.dropRoute]
    · rw [same]; exact left
    · rw [held]; exact (touchPath_idents _ r.ident fun q => (Path.suspend_fixed q).2).trans left
  · rfl

theorem foldl_dropLeaving_idents (incoming outgoing : List Route) (s : State) :
    (outgoing.foldl (dropLeaving incoming) s).paths.map Path.ident = s.paths.map Path.ident := by
  induction outgoing generalizing s with
  | nil => rfl
  | cons r rs ih => exact (ih _).trans (dropLeaving_idents incoming s r)

/-! ## Room for every creation (R24, R170) -/

/-- R170: the routes still to be opened fit the path table. -/
structure Fits (rs : List Route) (v : State) : Prop where
  table : (lacking v rs).length + v.paths.length ≤ 512
  into : ∀ d : Endpoint, ((lacking v rs).filter fun r : Route => decide (r.ident.dst = d)).length +
    (v.paths.filter fun p : Path => decide (p.ident.dst = d)).length ≤ 32

theorem fits_of_room {s : State} (room : ¬ TableFull s) (into : ∀ d, ¬ DestFull s d) : Fits s.routes.standby s :=
  ⟨Nat.le_of_not_lt room, fun d => Nat.le_of_not_lt (into d)⟩

/-- Whether routes fit is decided by the identities of the records. -/
theorem Fits.of_idents {rs : List Route} {v w : State} (h : Fits rs v) (idents : w.paths.map Path.ident = v.paths.map Path.ident) :
    Fits rs w := by
  have same : lacking w rs = lacking v rs := List.filter_congr fun r _ => by
    have absent (u : State) : (∀ p ∈ u.paths, p.ident ≠ r.ident) ↔ r.ident ∉ u.paths.map Path.ident := by simp
    rw [decide_eq_decide, absent, absent, idents]
  have counts (d : Endpoint) := congrArg (fun ids : List PathId => (ids.filter fun id : PathId => decide (id.dst = d)).length) idents
  have length := congrArg List.length idents
  simp only [List.filter_map, List.length_map, Function.comp_def] at counts length
  constructor
  · rw [same, length]; exact h.table
  · intro d; rw [same, counts]; exact h.into d

theorem Fits.tail {r : Route} {rs : List Route} {v : State} (h : Fits (r :: rs) v) : Fits rs v := by
  have fewer : (lacking v rs).Sublist (lacking v (r :: rs)) := (List.sublist_cons_self r rs).filter _
  exact ⟨(Nat.add_le_add_right fewer.length_le _).trans h.table,
    fun d => (Nat.add_le_add_right (fewer.filter _).length_le _).trans (h.into d)⟩

theorem lacking_cons {r : Route} {v : State} (absent : v.findPath r.ident = none) (rs : List Route) :
    lacking v (r :: rs) = r :: lacking v rs := List.filter_cons_of_pos (decide_eq_true (findPath_none.1 absent))

theorem Fits.room {r : Route} {rs : List Route} {v : State} (h : Fits (r :: rs) v) (absent : v.findPath r.ident = none) :
    v.roomForNew r.ident = true := by
  have table := h.table
  have into := h.into r.ident.dst
  rw [lacking_cons absent, List.length_cons] at table
  rw [lacking_cons absent, List.filter_cons, if_pos (decide_eq_true rfl), List.length_cons] at into
  exact (roomForNew_iff v r.ident).2 ⟨by omega, by omega⟩

/-- R24: a record created for the first of the routes leaves room for the others. -/
theorem Fits.created {r : Route} {rs : List Route} {v : State} (h : Fits (r :: rs) v) (absent : v.findPath r.ident = none) :
    Fits rs (v.createPath r.ident .route false) := by
  have perm := insertByPos_perm (newPath v r.ident .route false) v.paths
  rw [← createPath_paths] at perm
  have fewer : (lacking (v.createPath r.ident .route false) rs).Sublist (lacking v rs) :=
    List.monotone_filter_right rs fun x hit =>
      decide_eq_true fun p mem => of_decide_eq_true hit p (mem_createPath.2 (.inr mem))
  have table := h.table
  have into := h.into
  rw [lacking_cons absent, List.length_cons] at table
  simp only [lacking_cons absent, List.filter_cons] at into
  constructor
  · have le := fewer.length_le
    rw [perm.length_eq, List.length_cons]
    omega
  · intro d
    have le := (fewer.filter fun r : Route => decide (r.ident.dst = d)).length_le
    have before := into d
    rw [(perm.filter _).length_eq, List.filter_cons, newPath_ident]
    split at before
    · rename_i hit
      rw [if_pos hit, List.length_cons]
      rw [List.length_cons] at before
      omega
    · rename_i miss
      rw [if_neg miss]
      omega

theorem Fits.step {r : Route} {rs : List Route} {v : State} (h : Fits (r :: rs) v) (outgoing : List Route) :
    Fits rs (openEntering outgoing v r) := by
  rcases openEntering_cases outgoing v r with same | ⟨f, fixed, touched⟩ | ⟨absent, created⟩
  · rw [same]; exact h.tail
  · rw [touched]; exact h.tail.of_idents (touchPath_idents v r.ident fixed)
  · rw [created]; exact h.created absent

end Sys2Proof.Proofs
end

section
/-! PROOFS. The exchange of a swap (10.3), path by path: what it makes of the record of a route that leaves, of one that enters, and of
one of both sets. -/

namespace Sys2Proof.Proofs

open Sys2Proof.Machine

/-! ## The records of one identity -/

/-- From `v` to `w` the records of one identity stay. -/
def SameRecords (id : PathId) (v w : State) : Prop := ∀ x : Path, x.ident = id → (x ∈ w.paths ↔ x ∈ v.paths)

theorem SameRecords.refl (id : PathId) (v : State) : SameRecords id v v := fun _ _ => Iff.rfl

theorem SameRecords.trans {id : PathId} {u v w : State} (h : SameRecords id u v) (h' : SameRecords id v w) : SameRecords id u w :=
  fun x ident => (h' x ident).trans (h x ident)

theorem SameRecords.foldl {id : PathId} {f : State → Route → State} {rs : List Route}
    (hf : ∀ v, ∀ r ∈ rs, SameRecords id v (f v r)) (v : State) : SameRecords id v (rs.foldl f v) := by
  induction rs generalizing v with
  | nil => exact .refl id v
  | cons r rs ih =>
      exact (hf v r List.mem_cons_self).trans (ih (fun v x mem => hf v x (List.mem_cons_of_mem _ mem)) (f v r))

theorem IsRecord.same {v w : State} {q : Path} (h : IsRecord v q) (same : SameRecords q.ident v w) : IsRecord w q :=
  ⟨(same q rfl).2 h.1, fun x mem ident => h.2 x ((same x ident).1 mem) ident⟩

theorem SameRecords.absent {id : PathId} {v w : State} (same : SameRecords id v w) (h : v.findPath id = none) :
    w.findPath id = none := findPath_none.2 fun q mem ident => findPath_none.1 h q ((same q ident).1 mem) ident

theorem touchPath_sameRecords {id id' : PathId} (other : id' ≠ id) {f : Path → Path} (fixed : ∀ q, (f q).ident = q.ident) (v : State) :
    SameRecords id v (v.touchPath id' f) := fun _ ident => mem_touchPath_other fixed fun hit => other (hit.symm.trans ident)

theorem dropRoute_sameRecords {id id' : PathId} (other : id' ≠ id) (v : State) : SameRecords id v (v.dropRoute id') := by
  have left : SameRecords id v (v.removeHolder id' .route) :=
    touchPath_sameRecords other (fun q => (Path.leave_fixed .route q).2) v
  rcases routeLeftEarpiece_cases id' (v.removeHolder id' .route) with same | held <;> rw [State.dropRoute]
  · rwa [same]
  · rw [held]; exact left.trans (touchPath_sameRecords other (fun q => (Path.suspend_fixed q).2) _)

theorem openEntering_sameRecords {id : PathId} {r : Route} (other : r.ident ≠ id) (outgoing : List Route) (v : State) :
    SameRecords id v (openEntering outgoing v r) := by
  rcases openEntering_cases outgoing v r with same | ⟨f, fixed, touched⟩ | ⟨-, created⟩
  · rw [same]; exact .refl id v
  · rw [touched]; exact touchPath_sameRecords other fixed v
  · rw [created]
    refine fun x ident => mem_createPath.trans (or_iff_right fun new => other ?_)
    rw [← ident, new, newPath_ident]

/-- R171: the removals leave every path but those of the outgoing routes that do not come in again. -/
theorem dropLeaving_sameRecords {id : PathId} {incoming : List Route} {r : Route}
    (stays : r.ident = id → ∃ x ∈ incoming, x.ident = id) (v : State) : SameRecords id v (dropLeaving incoming v r) := by
  unfold dropLeaving
  split
  · rename_i leaves
    exact dropRoute_sameRecords (fun hit => (findRoute_isNone_iff _ _).1 leaves (by rw [hit]; exact stays hit)) v
  · exact .refl id v

/-! ## A route that leaves (R27, R28, R107) -/

/-- R107: a key holds the path, and none of its keys is the head of the interrupt list that it runs into. -/
def outranked (v : State) (q : Path) : Bool :=
  match q.ident.dst with
  | .bus _ => false
  | .port p => (v.ears[p]).any fun e : Ear =>
      !q.keys.isEmpty && (e.entries.head?).all fun h : TalkEntry => !q.keys.contains h.key

theorem outranked_iff (v : State) (q : Path) : outranked v q = true ↔ q.keys ≠ [] ∧
    ∃ (d : PortId) (e : Ear), q.ident.dst = .port d ∧ v.ears[d] = some e ∧ ∀ h, e.entries.head? = some h → h.key ∉ q.keys := by
  unfold outranked
  cases q.ident.dst with
  | bus b => simp
  | port p => simp [Option.any_eq_true, Option.all_eq_true, and_left_comm]

theorem outranked_congr {v w : State} {q q' : Path} (ears : w.ears = v.ears) (ident : q'.ident = q.ident) (keys : q'.keys = q.keys) :
    outranked w q' = outranked v q := by rw [outranked, outranked, ears, ident, keys]

theorem routeLeftEarpiece_of_found {v : State} {q : Path} (found : v.findPath q.ident = some q) :
    v.routeLeftEarpiece q.ident = if outranked v q then v.suspendPath q.ident else v := by
  rw [State.routeLeftEarpiece, outranked]
  cases q.ident.dst with
  | bus b => rfl
  | port p =>
      dsimp only
      rw [found]
      obtain ear | ⟨e, ear⟩ := Option.eq_none_or_eq_some v.ears[p]
      · simp only [ear]
        rfl
      · simp only [ear, Option.any_some]
        cases q.keys.isEmpty with
        | true => rfl
        | false =>
            cases e.entries.head? with
            | none => rfl
            | some h => simp

/-- R171, R107: the record of a path that ROUTE has left. -/
def dropped (u : State) (q : Path) : Path :=
  let q1 := aimedAfter u (Path.leave .route) q
  if outranked u q then aimedAfter u Path.suspend q1 else q1

theorem OnlyOpens.aimedAfter {u v : State} (h : OnlyOpens u v) (f : Path → Path) (q : Path) : aimedAfter v f q = aimedAfter u f q := by
  obtain ⟨paths, records, rfl, -⟩ := h
  rfl

theorem OnlyOpens.ears {u v : State} (h : OnlyOpens u v) : v.ears = u.ears := by
  obtain ⟨paths, records, rfl, -⟩ := h
  rfl

theorem leave_route_eq (q : Path) : q.leave .route = if q.route = false then q
    else if q.keys = [] then { q with route := false, closing := true, suspended := false } else { q with route := false } := by
  rw [Path.leave, Path.heldBy]
  cases q.route with
  | false => rfl
  | true => simp [Path.unheld]

theorem leave_route_keeps (q : Path) : (q.leave .route).keys = q.keys ∧ (q.leave .route).route = false ∧
    (q.leave .route).level = q.level := by
  rw [leave_route_eq]
  split
  · rename_i off; exact ⟨rfl, off, rfl⟩
  · split <;> exact ⟨rfl, rfl, rfl⟩

theorem dropped_keeps (u : State) (q : Path) : (dropped u q).ident = q.ident ∧ (dropped u q).pos = q.pos ∧
    (dropped u q).keys = q.keys ∧ (dropped u q).route = false ∧ (dropped u q).level = q.level := by
  obtain ⟨keys, route, level⟩ := leave_route_keeps q
  obtain ⟨pos, ident⟩ := Path.leave_fixed .route q
  have left : (aimedAfter u (Path.leave .route) q).ident = q.ident ∧ (aimedAfter u (Path.leave .route) q).pos = q.pos ∧
      (aimedAfter u (Path.leave .route) q).keys = q.keys ∧ (aimedAfter u (Path.leave .route) q).route = false ∧
      (aimedAfter u (Path.leave .route) q).level = q.level :=
    ⟨(aimedAfter_ident ..).trans ident, (aimedAfter_pos ..).trans pos, (aimedAfter_keys ..).trans keys,
      (aimedAfter_route ..).trans route, aimedAfter_level u level⟩
  unfold dropped
  dsimp only
  generalize aimedAfter u (Path.leave .route) q = q1 at left ⊢
  obtain ⟨ident, pos, keys, route, level⟩ := left
  split
  · have still := (suspend_still q1).aimed u
    exact ⟨still.ident.trans ident, still.pos.trans pos, ((aimedAfter_keys ..).trans (suspend_keys q1)).trans keys,
      still.route.trans route, still.level.trans level⟩
  · exact ⟨ident, pos, keys, route, level⟩

/-- R107: ROUTE leaves the one record of its identity. -/
theorem IsRecord.dropRoute {u v : State} {q : Path} (h : IsRecord v q) (frame : OnlyOpens u v) :
    IsRecord (v.dropRoute q.ident) (dropped u q) := by
  have left : IsRecord (v.removeHolder q.ident .route) (aimedAfter v (Path.leave .route) q) :=
    h.touch fun q => (Path.leave_fixed .route q).2
  have ident : (aimedAfter v (Path.leave .route) q).ident = q.ident := by rw [aimedAfter_ident, (Path.leave_fixed .route q).2]
  have ranks : outranked (v.removeHolder q.ident .route) (aimedAfter v (Path.leave .route) q) = outranked u q :=
    outranked_congr ((State.removeHolder_ears _ _ _).trans frame.ears) ident
      ((aimedAfter_keys ..).trans (leave_route_keeps q).1)
  have answered := routeLeftEarpiece_of_found left.found
  rw [ident, ranks] at answered
  have between : OnlyOpens u (v.removeHolder q.ident .route) := frame.trans (touchPath_onlyOpens q.ident _ v)
  rw [State.dropRoute, answered, dropped]
  rw [← frame.aimedAfter (Path.leave .route)]
  split
  · have held := left.touch fun q => (Path.suspend_fixed q).2
    rwa [between.aimedAfter, ident] at held
  · exact left

/-- R22: an operation that changes nothing of an aimed record. -/
theorem aimedAfter_of_aimed {s : State} {f : Path → Path} {q : Path} (same : f q = q) (aimed : AimedAt s q) : aimedAfter s f q = q := by
  rw [Proofs.aimedAfter, same, Path.retargeted, if_pos (Eq.symm aimed)]

/-- R31: a path that has been suspended is not suspended again. -/
theorem suspend_retargeted (q : Path) (n : Nat) : (q.suspend.retargeted n).suspend = q.suspend.retargeted n := by
  have done : ¬ (!q.suspend.closing && !q.suspend.suspended && !q.suspend.keys.isEmpty && !q.suspend.route) = true := by
    by_cases may : (!q.closing && !q.suspended && !q.keys.isEmpty && !q.route) = true
    · rw [Path.suspend, if_pos may]; simp
    · rwa [Path.suspend, if_neg may]
  obtain ⟨-, -, keys, route, suspended, closing, -⟩ := retargeted_keeps q.suspend n
  rw [Path.suspend, keys, route, suspended, closing, if_neg done]

theorem dropped_aimed (u : State) (q : Path) : AimedAt u (dropped u q) := by
  unfold dropped
  dsimp only
  split <;> exact aimedAfter_aimed _ _ _

/-- A path that ROUTE has left is as it is when ROUTE leaves it again. -/
theorem dropped_dropped (u : State) (q : Path) : dropped u (dropped u q) = dropped u q := by
  obtain ⟨ident, -, keys, route, -⟩ := dropped_keeps u q
  have left : (dropped u q).leave .route = dropped u q := by rw [leave_route_eq, if_pos route]
  rw [dropped, outranked_congr rfl ident keys, aimedAfter_of_aimed left (dropped_aimed u q)]
  split
  · rename_i ranks
    refine aimedAfter_of_aimed ?_ (dropped_aimed u q)
    rw [dropped, if_pos ranks]
    exact suspend_retargeted _ _
  · rfl

/-- R171: the removals drop ROUTE from the path of an outgoing route that does not come in again, and leave any other. -/
theorem foldl_dropLeaving_record {u : State} {incoming : List Route} (outgoing : List Route) {v : State} {q : Path}
    (leaves : findRoute q.ident incoming = none) (frame : OnlyOpens u v) (h : IsRecord v q) :
    IsRecord (outgoing.foldl (dropLeaving incoming) v) (if ∃ o ∈ outgoing, o.ident = q.ident then dropped u q else q) := by
  induction outgoing generalizing v q with
  | nil => simpa using h
  | cons o os ih =>
      have frame' := frame.trans (dropLeaving_onlyOpens incoming v o)
      by_cases hit : o.ident = q.ident
      · have ident : (dropped u q).ident = q.ident := (dropped_keeps u q).1
        have gone : IsRecord (dropLeaving incoming v o) (dropped u q) := by
          rw [dropLeaving, hit, leaves]
          exact h.dropRoute frame
        have rest := ih (by rw [ident]; exact leaves) frame' gone
        rw [dropped_dropped, ite_self] at rest
        rw [if_pos ⟨o, List.mem_cons_self, hit⟩]
        exact rest
      · have rest := ih leaves frame' (h.same (dropLeaving_sameRecords (fun same => absurd same hit) v))
        simp only [List.mem_cons, exists_eq_or_imp, hit, false_or]
        exact rest

/-- ROUTE holds no record of the identity. -/
def Unrouted (id : PathId) (v : State) : Prop := ∀ q ∈ v.paths, q.ident = id → q.route = false

theorem dropRoute_unrouted {id id' : PathId} {v : State} (h : id' ≠ id → Unrouted id v) : Unrouted id (v.dropRoute id') := by
  have left : Unrouted id (v.removeHolder id' .route) := fun q mem ident => by
    rcases mem_touchPath mem with ⟨there, other⟩ | ⟨p, -, rfl⟩
    · exact h (fun same => other (ident.trans same.symm)) q there ident
    · rw [aimedAfter_route, (leave_route_keeps p).2.1]
  rcases routeLeftEarpiece_cases id' (v.removeHolder id' .route) with same | held <;> rw [State.dropRoute]
  · rwa [same]
  · rw [held]
    intro q mem ident
    rcases mem_touchPath mem with ⟨there, -⟩ | ⟨p, found, rfl⟩
    · exact left q there ident
    · have still := (suspend_still p).aimed (v.removeHolder id' .route)
      rw [still.route]
      exact left p (findPath_some found).1 (still.ident.symm.trans ident)

/-- R171: ROUTE holds no path of a route that has left the active set. -/
theorem foldl_dropLeaving_unrouted {id : PathId} {incoming : List Route} (leaves : findRoute id incoming = none)
    (outgoing : List Route) {v : State} (h : Unrouted id v ∨ ∃ o ∈ outgoing, o.ident = id) :
    Unrouted id (outgoing.foldl (dropLeaving incoming) v) := by
  induction outgoing generalizing v with
  | nil => exact h.resolve_right fun ⟨o, mem, _⟩ => absurd mem List.not_mem_nil
  | cons o os ih =>
      refine ih ?_
      by_cases hit : o.ident = id
      · refine .inl ?_
        rw [dropLeaving, hit, leaves]
        exact dropRoute_unrouted fun other => absurd rfl other
      · refine h.imp (fun before => ?_) fun later => by simpa [hit] using later
        unfold dropLeaving
        split
        · exact dropRoute_unrouted fun _ => before
        · exact before

/-! ## The record of a path that ROUTE has left -/

theorem dropped_of_alone (u : State) {q : Path} (route : q.route = true) (alone : q.keys = []) :
    (dropped u q).closing = true ∧ (dropped u q).suspended = false ∧ (dropped u q).target = 0 := by
  have unranked : outranked u q = false := Bool.eq_false_iff.2 fun ranks => ((outranked_iff u q).1 ranks).1 alone
  have left : q.leave .route = { q with route := false, closing := true, suspended := false } := by
    rw [leave_route_eq, if_neg (by rw [route]; decide), if_pos alone]
  rw [dropped, unranked, if_neg Bool.false_ne_true, aimedAfter_closing, aimedAfter_suspended, aimedAfter_target, left]
  exact ⟨rfl, rfl, if_pos (.inr rfl)⟩

/-- R27, R107: the keys that hold the path have it, and it is suspended where none of them is the head. -/
theorem dropped_of_held (u : State) {q : Path} (route : q.route = true) (held : q.keys ≠ []) (isOpen : q.closing = false) :
    (dropped u q).closing = false ∧
      (outranked u q = true → (dropped u q).suspended = true ∧ (dropped u q).target = 0) ∧
      (outranked u q = false → (dropped u q).suspended = q.suspended ∧
        (dropped u q).target = if q.suspended then 0 else u.loudest q.ident q.keys false) := by
  have left : q.leave .route = { q with route := false } := by
    rw [leave_route_eq, if_neg (by rw [route]; decide), if_neg held]
  have first : (aimedAfter u (Path.leave .route) q).keys = q.keys ∧ (aimedAfter u (Path.leave .route) q).closing = false ∧
      (aimedAfter u (Path.leave .route) q).route = false := by
    rw [aimedAfter_keys, aimedAfter_closing, aimedAfter_route, left]
    exact ⟨rfl, isOpen, rfl⟩
  have target : (aimedAfter u (Path.leave .route) q).target = if q.suspended then 0 else u.loudest q.ident q.keys false := by
    rw [aimedAfter_target, left]
    exact targetOf_open (q := { q with route := false }) isOpen
  have suspended : (aimedAfter u (Path.leave .route) q).suspended = q.suspended := by rw [aimedAfter_suspended, left]
  unfold dropped
  dsimp only
  generalize aimedAfter u (Path.leave .route) q = q1 at first target suspended ⊢
  obtain ⟨keys, closing, noRoute⟩ := first
  have silent : q1.suspend = { q1 with suspended := true } := by
    rw [suspend_eq (by rw [keys]; exact held), closing, noRoute]
    simp
  split
  · rename_i ranks
    rw [aimedAfter_closing, aimedAfter_suspended, aimedAfter_target, silent, ranks]
    exact ⟨closing, fun _ => ⟨rfl, if_pos (.inl rfl)⟩, fun isNot => absurd isNot.symm Bool.false_ne_true⟩
  · rename_i ranks
    exact ⟨closing, fun is => absurd is ranks, fun _ => ⟨suspended, target⟩⟩

end Sys2Proof.Proofs
end

section
/-! PROOFS. The exchange of a swap (10.3): the paths of the routes that enter and of those that stay, and the openings that are counted. -/

namespace Sys2Proof.Proofs

open Sys2Proof.Machine

/-! ## A route that enters, or that stays (R24 to R26, R29, R34) -/

/-- ROUTE holds the path of the identity, which is open and heard. -/
def Carried (id : PathId) (v : State) : Prop :=
  ∃ p ∈ v.paths, p.ident = id ∧ p.route = true ∧ p.closing = false ∧ p.suspended = false

theorem openEntering_of_new {outgoing : List Route} {r : Route} (enters : findRoute r.ident outgoing = none) (v : State) :
    openEntering outgoing v r = (v.addHolder r.ident .route false).1 := by rw [openEntering, enters]

theorem openEntering_carries {outgoing rest : List Route} {r : Route} {v : State} (enters : findRoute r.ident outgoing = none)
    (fits : Fits (r :: rest) v) : Carried r.ident (openEntering outgoing v r) := by
  rw [openEntering_of_new enters]
  cases found : v.findPath r.ident with
  | none =>
      rw [addHolder_of_absent found (fits.room found)]
      exact ⟨_, mem_createPath.2 (.inl rfl), newPath_ident .., rfl, rfl, rfl⟩
  | some p =>
      have ident := (findPath_some found).2
      cases closing : p.closing with
      | true =>
          rw [addHolder_of_closing found closing]
          exact ⟨_, findPath_touched found _, (aimedAfter_ident ..).trans ident, aimedAfter_route .., aimedAfter_closing ..,
            aimedAfter_suspended ..⟩
      | false =>
          rw [addHolder_of_open found closing]
          exact ⟨_, findPath_touched found _, (aimedAfter_ident ..).trans ident, aimedAfter_route ..,
            (aimedAfter_closing ..).trans closing, aimedAfter_suspended ..⟩

theorem Carried.same {id : PathId} {v w : State} (h : Carried id v) (same : SameRecords id v w) : Carried id w := by
  obtain ⟨p, mem, ident, carried⟩ := h
  exact ⟨p, (same p ident).2 mem, ident, carried⟩

/-- R171: every path of an entering route is held by ROUTE, even where the set names it twice. -/
theorem foldl_openEntering_carries {id : PathId} {outgoing : List Route} (enters : findRoute id outgoing = none) (rs : List Route)
    {v : State} (fits : Fits rs v) (h : Carried id v ∨ ∃ r ∈ rs, r.ident = id) : Carried id (rs.foldl (openEntering outgoing) v) := by
  induction rs generalizing v with
  | nil => exact h.resolve_right fun ⟨r, mem, _⟩ => absurd mem List.not_mem_nil
  | cons r rs ih =>
      refine ih (fits.step outgoing) ?_
      by_cases hit : r.ident = id
      · subst hit
        exact .inl (openEntering_carries enters fits)
      · exact h.imp (fun before => before.same (openEntering_sameRecords hit outgoing v)) fun later => by simpa [hit] using later

theorem ident_ne_of_notMem {id : PathId} {rs : List Route} (notMem : id ∉ rs.map Route.ident) {x : Route} (mem : x ∈ rs) :
    x.ident ≠ id := fun same => notMem (same ▸ List.mem_map_of_mem mem)

/-- R171: where a set names each path once, the record of one of its routes is worked on once. -/
theorem foldl_openEntering_reaches (outgoing : List Route) {rs : List Route} {r : Route} (distinct : (rs.map Route.ident).Nodup)
    (mem : r ∈ rs) {v : State} (fits : Fits rs v) : ∃ w rest, OnlyOpens v w ∧ SameRecords r.ident v w ∧ Fits (r :: rest) w ∧
      SameRecords r.ident (openEntering outgoing w r) (rs.foldl (openEntering outgoing) v) := by
  induction rs generalizing v with
  | nil => exact absurd mem List.not_mem_nil
  | cons x xs ih =>
      rw [List.map_cons, List.nodup_cons] at distinct
      obtain ⟨first, distinct⟩ := distinct
      rcases List.mem_cons.1 mem with rfl | mem
      · refine ⟨v, xs, .refl v, .refl _ v, fits, SameRecords.foldl (fun w y there => ?_) _⟩
        exact openEntering_sameRecords (ident_ne_of_notMem first there) outgoing w
      · obtain ⟨w, rest, frame, same, fits, after⟩ := ih distinct mem (fits.step outgoing)
        have other : x.ident ≠ r.ident := (ident_ne_of_notMem first mem).symm
        exact ⟨w, rest, (openEntering_onlyOpens outgoing v x).trans frame, (openEntering_sameRecords other outgoing v).trans same, fits,
          after⟩

/-- R21: the largest level of the holders of a path that ROUTE holds. -/
theorem loudest_route (v : State) (id : PathId) (ks : List KeyId) :
    v.loudest id ks true = max (v.loudest id ks false) (v.routeLevel id) := by
  rw [State.loudest, State.loudest, routeLevel_eq]
  simp

/-- R24: the path of a route that enters and has none. -/
theorem openEntering_creates {outgoing rest : List Route} {r : Route} {v : State} (enters : findRoute r.ident outgoing = none)
    (level : v.routeLevel r.ident = r.level) (fits : Fits (r :: rest) v) (absent : v.findPath r.ident = none) :
    ⟨lowestFree 0 v.paths, r.ident, [], true, r.level, 0, 0, false, false, false⟩ ∈ (openEntering outgoing v r).paths := by
  have target : v.targetOf (Path.fresh (lowestFree 0 v.paths) r.ident .route false) = r.level :=
    (loudest_route v r.ident []).trans (by rw [level]; exact Nat.zero_max _)
  have record : newPath v r.ident .route false = ⟨lowestFree 0 v.paths, r.ident, [], true, r.level, 0, 0, false, false, false⟩ := by
    rw [newPath, target]
    rfl
  rw [openEntering_of_new enters, addHolder_of_absent absent (fits.room absent), ← record]
  exact mem_createPath.2 (.inl rfl)

theorem join_route_eq {p : Path} (isOpen : p.closing = false) :
    p.join .route = { p with route := true, suspended := false, closing := false } := by simp [Path.join, isOpen]

/-- R25, R26, R34: the path of a route that enters: a closing one is opened again for ROUTE alone, any other keeps its keys. -/
theorem openEntering_joins {outgoing : List Route} {r : Route} {v : State} {p : Path} (enters : findRoute r.ident outgoing = none)
    (level : v.routeLevel r.ident = r.level) (h : IsRecord v p) (ident : p.ident = r.ident) :
    let ks := if p.closing = true then [] else p.keys
    Path.retargeted { p with keys := ks, route := true, suspended := false, closing := false,
                             spent := if p.closing = true then false else p.spent }
      (max (v.loudest r.ident ks false) r.level) ∈ (openEntering outgoing v r).paths := by
  have found : v.findPath r.ident = some p := ident ▸ h.found
  have target (ks : List KeyId) : max (v.loudest r.ident ks false) r.level = v.loudest p.ident ks true := by
    rw [ident, loudest_route, level]
  intro ks
  rw [openEntering_of_new enters, target]
  cases closing : p.closing with
  | true =>
      have none : ks = [] := if_pos closing
      rw [addHolder_of_closing found closing, none]
      exact findPath_touched found (Path.reopen .route false)
  | false =>
      have keys : ks = p.keys := if_neg (by rw [closing]; decide)
      have record : aimedAfter v (Path.join .route) p =
          Path.retargeted { p with route := true, suspended := false, closing := false } (v.loudest p.ident p.keys true) := by
        rw [aimedAfter, targetOf_open (q := p.join .route) closing, join_route_eq closing]
        rfl
      rw [addHolder_of_open found closing, keys]
      exact record ▸ findPath_touched found (Path.join .route)

/-- R29: the path of a route of both sets. -/
theorem openEntering_relevels {outgoing : List Route} {r o : Route} {v : State} {p : Path} (stays : findRoute r.ident outgoing = some o)
    (level : v.routeLevel r.ident = r.level) (h : IsRecord v p) (ident : p.ident = r.ident) (route : p.route = true) :
    (if o.level = r.level then p else p.retargeted (if p.suspended = true ∨ p.closing = true then 0 else
      max (v.loudest r.ident p.keys false) r.level)) ∈ (openEntering outgoing v r).paths := by
  have found : v.findPath r.ident = some p := ident ▸ h.found
  have target : v.targetOf p = if p.suspended = true ∨ p.closing = true then 0 else max (v.loudest r.ident p.keys false) r.level := by
    rw [State.targetOf, route, ident, loudest_route, level]
  rw [openEntering, stays]
  dsimp only
  split
  · exact h.1
  · rw [← target]
    exact findPath_touched found fun p => p

/-! ## Openings (R35, R158) -/

/-- R35: from `v` to `w` the target of the path of an identity has risen from 0. -/
abbrev Raised (v w : State) (id : PathId) : Prop :=
  (∀ q ∈ v.paths, q.ident = id → q.target = 0) ∧ ∃ q ∈ w.paths, q.ident = id ∧ 0 < q.target

theorem SameRecords.raised_iff {id : PathId} {v v' w w' : State} (before : SameRecords id v v') (after : SameRecords id w w') :
    Raised v' w' id ↔ Raised v w id := by
  refine and_congr ⟨fun all q mem ident => all q ((before q ident).2 mem) ident,
    fun all q mem ident => all q ((before q ident).1 mem) ident⟩ ⟨?_, ?_⟩
  · rintro ⟨q, mem, ident, raised⟩; exact ⟨q, (after q ident).1 mem, ident, raised⟩
  · rintro ⟨q, mem, ident, raised⟩; exact ⟨q, (after q ident).2 mem, ident, raised⟩

theorem not_raised_self (v : State) (id : PathId) : ¬ Raised v v id := by
  rintro ⟨all, q, mem, ident, raised⟩
  exact absurd (all q mem ident) (Nat.ne_of_gt raised)

/-- The identity has one record at most. -/
def Sole (id : PathId) (v : State) : Prop := ∀ x ∈ v.paths, ∀ y ∈ v.paths, x.ident = id → y.ident = id → x = y

theorem Sole.same {id : PathId} {v w : State} (h : Sole id v) (same : SameRecords id v w) : Sole id w :=
  fun x mx y my hx hy => h x ((same x hx).1 mx) y ((same y hy).1 my) hx hy

theorem sole_of_distinct {v : State} (distinct : v.paths.Pairwise fun a b => a.ident ≠ b.ident) (id : PathId) : Sole id v :=
  fun _ mx _ my hx hy => List.inj_on_of_nodup_map (List.pairwise_map.2 distinct) mx my (hx.trans hy.symm)

theorem counted_record (v : State) (d : Endpoint) (before after : Nat) (p : PortId) : (v.counted d before after).records[p] =
    v.withOpenings p (if d = .port p ∧ before = 0 ∧ 0 < after then 1 else 0) := by
  cases d with
  | bus b =>
      rw [if_neg (fun both => nomatch both.1), withOpenings_zero]
      rfl
  | port q =>
      refine (tableSet_get v.gov.records q p _).trans ?_
      by_cases same : q = p
      · subst same
        simp only [if_true, true_and]
      · rw [if_neg same, if_neg fun both => same (Endpoint.port.inj both.1), withOpenings_zero]

/-- R158: openings counted in two steps. -/
theorem withOpenings_add {v w : State} {p : PortId} {m : Nat} (ports : w.ports = v.ports) (config : w.gov.config = v.gov.config)
    (record : w.gov.records[p] = v.withOpenings p m) (n : Nat) : w.withOpenings p n = v.withOpenings p (m + n) := by
  by_cases counts : (v.ports[p].kind = .panel ∨ v.ports[p].kind = .earpiece) ∧ v.gov.config.mode ≠ .off
  · induction n with
    | zero => rw [withOpenings_zero, record]; rfl
    | succ n ih =>
        rw [withOpenings_succ (u := w) (by rw [ports]; exact counts.1) (by rw [config]; exact counts.2), ih, ← Nat.add_assoc,
          withOpenings_succ (u := v) counts.1 counts.2]
  · rw [withOpenings_of_uncounted (by rw [ports, config]; exact counts), record, withOpenings_of_uncounted counts,
      withOpenings_of_uncounted counts]

/-- R35, R158: an incoming route counts an opening exactly where it raises the target of its path from 0. -/
theorem openEntering_openings {v : State} (run : v.mode = .run) (outgoing : List Route) {r : Route} (sole : Sole r.ident v)
    (p : PortId) : (openEntering outgoing v r).gov.records[p] =
      v.withOpenings p (if r.ident.dst = .port p ∧ Raised v (openEntering outgoing v r) r.ident then 1 else 0) := by
  have unchanged : v.gov.records[p] = v.withOpenings p (if r.ident.dst = .port p ∧ Raised v v r.ident then 1 else 0) := by
    rw [if_neg fun both => not_raised_self v r.ident both.2, withOpenings_zero]
  rcases openEntering_cases outgoing v r with same | ⟨f, fixed, touched⟩ | ⟨absent, created⟩
  · rw [same]; exact unchanged
  · rw [touched]
    cases found : v.findPath r.ident with
    | none => rw [touchPath_of_none found]; exact unchanged
    | some q =>
        obtain ⟨mem, ident⟩ := findPath_some found
        have raised : q.target = 0 ∧ 0 < (aimedAfter v f q).target ↔ Raised v (v.touchPath r.ident f) r.ident := by
          refine and_congr ⟨fun zero x there same => by rw [sole x there q mem same ident, zero], fun all => all q mem ident⟩
            ⟨fun up => ⟨_, findPath_touched found f, by rw [aimedAfter_ident, fixed, ident], up⟩, ?_⟩
          rintro ⟨x, there, same, up⟩
          rcases mem_touchPath there with ⟨-, other⟩ | ⟨q', found', rfl⟩
          · exact absurd same other
          · rwa [← Option.some.inj (found'.symm.trans found)]
        rw [touchPath_counted run found f, counted_record]
        simp only [raised]
  · have gov : (v.createPath r.ident .route false).gov = v.counted r.ident.dst 0 (newPath v r.ident .route false).target := by
      rw [createPath_eq]
      exact congrArg State.gov (openingIfRaised_eq (s := { v with paths := insertByPos (newPath v r.ident .route false) v.paths }) run
        0 _ r.ident.dst)
    have new := findPath_none.1 absent
    have raised : 0 < (newPath v r.ident .route false).target ↔
        Raised v (v.createPath r.ident .route false) r.ident := by
      refine ⟨fun up => ⟨fun x there same => absurd same (new x there), _, mem_createPath.2 (.inl rfl), newPath_ident .., up⟩, ?_⟩
      rintro ⟨-, x, there, same, up⟩
      rcases mem_createPath.1 there with rfl | there
      · exact up
      · exact absurd same (new x there)
    rw [created, gov, counted_record]
    simp only [true_and, raised]

/-- R35, R158: the openings that an incoming set counts. -/
theorem foldl_openEntering_openings (outgoing : List Route) {rs : List Route} (distinct : (rs.map Route.ident).Nodup) {v : State}
    (run : v.mode = .run) (sole : ∀ r ∈ rs, Sole r.ident v) (p : PortId) :
    (rs.foldl (openEntering outgoing) v).gov.records[p] = v.withOpenings p (rs.filter fun r : Route =>
      decide (r.ident.dst = .port p ∧ Raised v (rs.foldl (openEntering outgoing) v) r.ident)).length := by
  induction rs generalizing v with
  | nil => exact (withOpenings_zero v p).symm
  | cons r rs ih =>
      rw [List.map_cons, List.nodup_cons] at distinct
      obtain ⟨first, distinct⟩ := distinct
      have other (x : Route) (mem : x ∈ rs) : SameRecords x.ident v (openEntering outgoing v r) :=
        openEntering_sameRecords (ident_ne_of_notMem first mem).symm outgoing v
      have frame := (openEntering_changes outgoing v r).sameRun
      have later := ih distinct (v := openEntering outgoing v r) (frame.mode.trans run)
        fun x mem => (sole x (List.mem_cons_of_mem _ mem)).same (other x mem)
      have once := openEntering_openings run outgoing (sole r List.mem_cons_self) p
      rw [List.foldl_cons]
      generalize ended : rs.foldl (openEntering outgoing) (openEntering outgoing v r) = w at later ⊢
      have after : SameRecords r.ident (openEntering outgoing v r) w := ended ▸ SameRecords.foldl (fun u x mem =>
        openEntering_sameRecords (ident_ne_of_notMem first mem) outgoing u) _
      have rest : (rs.filter fun x : Route => decide (x.ident.dst = .port p ∧ Raised (openEntering outgoing v r) w x.ident)) =
          rs.filter fun x : Route => decide (x.ident.dst = .port p ∧ Raised v w x.ident) :=
        List.filter_congr fun x mem => by rw [decide_eq_decide, (other x mem).raised_iff (.refl _ w)]
      have upThere := (SameRecords.refl r.ident v).raised_iff after
      simp only [← upThere] at once
      rw [later, rest, withOpenings_add frame.ports frame.govConfig once, List.filter_cons]
      by_cases up : r.ident.dst = .port p ∧ Raised v w r.ident
      · rw [if_pos up, if_pos (decide_eq_true up), List.length_cons, Nat.add_comm]
      · rw [if_neg up, if_neg fun hit => up (of_decide_eq_true hit), Nat.zero_add]

end Sys2Proof.Proofs
end

section
/-! PROOFS. SWAP_JUDGEMENT (10.3, 10.5). -/

namespace Sys2Proof.Proofs

open Sys2Proof.Machine

/-! ## No opening where ROUTE leaves (R27, R28, R107) -/

/-- ROUTE leaving a path raises no target. -/
def LeavesQuietly (v : State) : Prop := ∀ q ∈ v.paths, v.targetOf (q.leave .route) ≤ q.target

/-- R21: the target of a path that ROUTE does not hold depends on the levels of its keys alone. -/
theorem targetOf_of_unrouted {v w : State} (level : ∀ k : KeyId, w.keys[k].level = v.keys[k].level) {q : Path} (route : q.route = false) :
    w.targetOf q = v.targetOf q := by
  rw [State.targetOf, State.targetOf, State.loudest, State.loudest, route]
  simp only [level]
  rfl

theorem leavesQuietly_of_changes {s v : State} (aimed : s.aimed) (changes : Changes (exchangedSets s) v) : LeavesQuietly v :=
  fun q mem => by
    rcases changes_aimedAt changes mem with before | now
    · rw [targetOf_of_unrouted (v := s) (fun k => (changes.sameRun.key k).level) (leave_route_keeps q).2.1, aimed q before]
      exact leave_lowers s .route q
    · rw [show q.target = v.targetOf q from now]
      exact leave_lowers v .route q

theorem dropRoute_gov {v : State} (quiet : LeavesQuietly v) (id : PathId) : (v.dropRoute id).gov = v.gov := by
  have left : (v.removeHolder id .route).gov = v.gov := touchPath_gov fun q found => quiet q (findPath_some found).1
  rcases routeLeftEarpiece_cases id (v.removeHolder id .route) with same | held <;> rw [State.dropRoute]
  · rw [same, left]
  · rw [held, ← left]
    refine touchPath_gov fun q found => ?_
    obtain ⟨mem, ident⟩ := findPath_some found
    rw [touchPath_aimsPath v id (Path.leave .route) q mem ident]
    exact suspend_lowers _ q

theorem foldl_dropLeaving_gov {s v : State} (aimed : s.aimed) (incoming outgoing : List Route) (changes : Changes (exchangedSets s) v) :
    (outgoing.foldl (dropLeaving incoming) v).gov = v.gov := by
  induction outgoing generalizing v with
  | nil => rfl
  | cons r rs ih =>
      refine (ih (changes.trans (dropLeaving_changes incoming v r))).trans ?_
      unfold dropLeaving
      split
      · exact dropRoute_gov (leavesQuietly_of_changes aimed changes) r.ident
      · rfl

/-! ## The exchange (R171) -/

/-- The sets have exchanged roles, and ROUTE has left the paths of the routes that do not come in again. -/
def released (s : State) : State := s.routes.active.foldl (dropLeaving s.routes.standby) (exchangedSets (judged s))

/-- The exchange whole. -/
def exchanged (s : State) : State := s.routes.standby.foldl (openEntering s.routes.active) (released s)

theorem judged_exchange (s : State) : (judged s).exchange = exchanged s := exchange_eq (judged s)

theorem released_onlyOpens (s : State) : OnlyOpens (exchangedSets (judged s)) (released s) :=
  OnlyOpens.foldl (dropLeaving_onlyOpens _) _ _

theorem exchanged_onlyOpens (s : State) : OnlyOpens (exchangedSets (judged s)) (exchanged s) :=
  (released_onlyOpens s).trans (OnlyOpens.foldl (openEntering_onlyOpens _) _ _)

/-- R171: the removals leave the paths of every route but one that leaves the active set. -/
theorem released_same {s : State} {id : PathId}
    (stays : ∀ o ∈ s.routes.active, o.ident = id → ∃ r ∈ s.routes.standby, r.ident = id) : SameRecords id s (released s) :=
  SameRecords.foldl (fun _ o mem => dropLeaving_sameRecords (stays o mem) _) (exchangedSets (judged s))

/-- R171: the incoming set leaves the paths that are not its routes'. -/
theorem exchanged_same {s : State} {id : PathId} (other : ∀ r ∈ s.routes.standby, r.ident ≠ id) :
    SameRecords id (released s) (exchanged s) :=
  SameRecords.foldl (fun v r mem => openEntering_sameRecords (other r mem) s.routes.active v) _

theorem released_fits {s : State} (fits : Fits s.routes.standby s) : Fits s.routes.standby (released s) :=
  fits.of_idents (foldl_dropLeaving_idents s.routes.standby s.routes.active (exchangedSets (judged s)))

/-- R107: the path of a route that has left the active set. -/
theorem dropped_mem_exchanged {s : State} {o : Route} (mem : o ∈ s.routes.active) (leaves : ∀ r ∈ s.routes.standby, r.ident ≠ o.ident)
    {p : Path} (h : IsRecord s p) (ident : p.ident = o.ident) : dropped (exchangedSets (judged s)) p ∈ (exchanged s).paths := by
  have gone := foldl_dropLeaving_record (u := exchangedSets (judged s)) s.routes.active
    (findRoute_none.2 (ident ▸ leaves)) (.refl _) h
  rw [if_pos ⟨o, mem, ident.symm⟩] at gone
  exact (exchanged_same leaves _ ((dropped_keeps _ p).1.trans ident)).2 gone.1

theorem exchanged_unrouted {s : State} {o : Route} (mem : o ∈ s.routes.active) (leaves : ∀ r ∈ s.routes.standby, r.ident ≠ o.ident) :
    Unrouted o.ident (exchanged s) := fun p there ident =>
  foldl_dropLeaving_unrouted (findRoute_none.2 leaves) s.routes.active (.inr ⟨o, mem, rfl⟩) p
    ((exchanged_same leaves p ident).1 there) ident

/-- Where the incoming set names each path once: the state in which the record of one of its routes, which is that of `s`, is worked
on. -/
theorem exchanged_reaches {s : State} (fits : Fits s.routes.standby s) (distinct : (s.routes.standby.map Route.ident).Nodup) {r : Route}
    (mem : r ∈ s.routes.standby) : ∃ w rest, SameRecords r.ident s w ∧ Fits (r :: rest) w ∧ w.routeLevel r.ident = r.level ∧
      (∀ ks, w.loudest r.ident ks false = s.loudest r.ident ks false) ∧
      SameRecords r.ident (openEntering s.routes.active w r) (exchanged s) := by
  obtain ⟨w, rest, frame, same, room, after⟩ := foldl_openEntering_reaches s.routes.active distinct mem (released_fits fits)
  have before : SameRecords r.ident s (released s) := released_same fun _ _ _ => ⟨r, mem, rfl⟩
  refine ⟨w, rest, before.trans same, room, ?_⟩
  obtain ⟨paths, records, rfl, -⟩ := (released_onlyOpens s).trans frame
  exact ⟨routeLevel_of_mem mem distinct, fun ks => rfl, after⟩

/-- R24: the path of an incoming route that had none. -/
theorem exchanged_creates {s : State} (fits : Fits s.routes.standby s) (distinct : (s.routes.standby.map Route.ident).Nodup) {r : Route}
    (mem : r ∈ s.routes.standby) (enters : ∀ o ∈ s.routes.active, o.ident ≠ r.ident) (absent : ∀ p ∈ s.paths, p.ident ≠ r.ident) :
    ∃ pos, ⟨pos, r.ident, [], true, r.level, 0, 0, false, false, false⟩ ∈ (exchanged s).paths := by
  obtain ⟨w, rest, before, room, level, -, after⟩ := exchanged_reaches fits distinct mem
  have created := openEntering_creates (findRoute_none.2 enters) level room (before.absent (findPath_none.2 absent))
  exact ⟨_, (after _ rfl).2 created⟩

/-- R25, R26, R34: the path of an incoming route that had one. -/
theorem exchanged_joins {s : State} (fits : Fits s.routes.standby s) (distinct : (s.routes.standby.map Route.ident).Nodup) {r : Route}
    (mem : r ∈ s.routes.standby) (enters : ∀ o ∈ s.routes.active, o.ident ≠ r.ident) {p : Path} (h : IsRecord s p)
    (ident : p.ident = r.ident) :
    let ks := if p.closing = true then [] else p.keys
    Path.retargeted { p with keys := ks, route := true, suspended := false, closing := false,
                             spent := if p.closing = true then false else p.spent }
      (max (s.loudest r.ident ks false) r.level) ∈ (exchanged s).paths := by
  obtain ⟨w, rest, before, -, level, loudest, after⟩ := exchanged_reaches fits distinct mem
  have joined := openEntering_joins (findRoute_none.2 enters) level (h.same (ident ▸ before)) ident
  dsimp only at joined ⊢
  rw [loudest] at joined
  refine (after _ ?_).2 joined
  exact (retargeted_keeps _ _).2.1.trans ident

/-- R29: the path of a route of both sets. -/
theorem exchanged_relevels {s : State} (fits : Fits s.routes.standby s) (distinct : (s.routes.standby.map Route.ident).Nodup)
    (distinct' : (s.routes.active.map Route.ident).Nodup) {r o : Route} (mem : r ∈ s.routes.standby) (mem' : o ∈ s.routes.active)
    (stays : o.ident = r.ident) {p : Path} (h : IsRecord s p) (ident : p.ident = r.ident) (route : p.route = true) :
    (if o.level = r.level then p else p.retargeted (if p.suspended = true ∨ p.closing = true then 0 else
      max (s.loudest r.ident p.keys false) r.level)) ∈ (exchanged s).paths := by
  obtain ⟨w, rest, before, -, level, loudest, after⟩ := exchanged_reaches fits distinct mem
  have found : findRoute r.ident s.routes.active = some o := stays ▸ findRoute_of_mem mem' distinct'
  have relevelled := openEntering_relevels found level (h.same (ident ▸ before)) ident route
  rw [loudest] at relevelled
  refine (after _ ?_).2 relevelled
  split
  · exact ident
  · exact (retargeted_keeps _ _).2.1.trans ident

/-- R35, R158: the openings that the exchange counts. -/
theorem exchanged_openings {s : State} (run : s.mode = .run) (aimed : s.aimed) (sole : s.paths.Pairwise fun a b => a.ident ≠ b.ident)
    (distinct : (s.routes.standby.map Route.ident).Nodup) (p : PortId) : (exchanged s).gov.records[p] =
      s.withOpenings p (s.routes.standby.filter fun r : Route =>
        decide (r.ident.dst = .port p ∧ Raised s (exchanged s) r.ident)).length := by
  have same (r : Route) (mem : r ∈ s.routes.standby) : SameRecords r.ident s (released s) :=
    released_same fun _ _ _ => ⟨r, mem, rfl⟩
  have frame := (Changes.foldl _ (dropLeaving_changes s.routes.standby) s.routes.active (exchangedSets (judged s))).sameRun
  have aimed' : (judged s).aimed := aimed_of_same (s := s) (fun _ => rfl) rfl rfl aimed
  have gov : (released s).gov = s.gov := foldl_dropLeaving_gov aimed' s.routes.standby s.routes.active (.refl _)
  have counted := foldl_openEntering_openings s.routes.active distinct (v := released s) (frame.mode.trans run)
    (fun r mem => (sole_of_distinct sole r.ident).same (same r mem)) p
  have routes : (s.routes.standby.filter fun r : Route => decide (r.ident.dst = .port p ∧ Raised (released s) (exchanged s) r.ident)) =
      s.routes.standby.filter fun r : Route => decide (r.ident.dst = .port p ∧ Raised s (exchanged s) r.ident) :=
    List.filter_congr fun r mem => by rw [decide_eq_decide, (same r mem).raised_iff (.refl _ _)]
  refine counted.trans ?_
  rw [show s.routes.standby.foldl (openEntering s.routes.active) (released s) = exchanged s from rfl, routes,
    State.withOpenings, State.withOpenings, gov, show (released s).ports = s.ports from frame.ports]

/-- Settles O28: a limit is reported as `judgeSwap_of_limit` says; else the exchange, path by path. -/
theorem swapIsJudged : Obligations.SwapIsJudged := by
  unfold Obligations.SwapIsJudged
  refine ⟨fun s high due window => ?_, ?_⟩
  · obtain ⟨gov, mix, link, eq⟩ := endWindow_eq s
    have low : s.endWindow.rstnLow = false := by rw [eq]; exact high
    have dueThen : s.endWindow.routes.judgementDue = true := by rw [eq]; exact due
    refine ⟨s.endWindow, exec_windowEnd high, low, endWindow_windowDue s, by rw [eq], by rw [eq], ?_⟩
    rw [exec_swapJudgement high, exec_swapJudgement low, takeJudgement_of_due due, takeJudgement_of_due dueThen,
      endWindow_of_not_due (endWindow_windowDue s)]
  · intro s high due window incoming outgoing creations tableFull full cleared failed
    rw [exec_swapJudgement high, takeJudgement_of_due due, endWindow_of_not_due window]
    refine ⟨fun table => by rw [judgeSwap_of_limit (swapLimit_of_table table)]; rfl,
      fun room d isFull first => by rw [judgeSwap_of_limit (swapLimit_of_destination room isFull first)]; rfl, fun room into => ?_⟩
    rw [judgeSwap_of_room (swapLimit_of_room room into), judged_exchange]
    have fits : Fits s.routes.standby s := fits_of_room room into
    obtain ⟨paths, records, frame, -⟩ := exchanged_onlyOpens s
    refine ⟨_, rfl, by rw [State.report_routes, frame]; rfl, fun r mem enters => ?_, fun distinct r mem enters => ⟨fun absent => ?_, ?_⟩,
      fun p mem other => ?_, fun distinct distinct' r mem o mem' stays p there ident only route => ?_,
      fun o mem leaves p there ident only route => ?_, fun o mem leaves => exchanged_unrouted mem leaves,
      fun run aimed sole distinct _ => ⟨?_, ?_, exchanged_openings run aimed sole distinct⟩, ?_⟩
    · exact foldl_openEntering_carries (findRoute_none.2 enters) _ (released_fits fits) (.inr ⟨r, mem, rfl⟩)
    · obtain ⟨pos, created⟩ := exchanged_creates fits distinct mem enters absent
      exact ⟨_, created, rfl, rfl, rfl, rfl, rfl, rfl, by simp [Path.level, rampLevel], rfl, rfl⟩
    · exact fun p there ident only => exchanged_joins fits distinct mem enters ⟨there, ident ▸ only⟩ ident
    · have same := (released_same fun o mem same => absurd same (other o (List.mem_append_right _ mem))).trans
        (exchanged_same fun r mem => other r (List.mem_append_left _ mem))
      exact (same p rfl).2 mem
    · exact exchanged_relevels fits distinct distinct' mem mem' stays ⟨there, ident ▸ only⟩ ident route
    · intro behind
      obtain ⟨ident', pos, keys, unrouted, level⟩ := dropped_keeps (exchangedSets (judged s)) p
      refine ⟨_, dropped_mem_exchanged mem leaves ⟨there, ident ▸ only⟩ ident, ident', pos, keys, unrouted, level,
        dropped_of_alone _ route, fun held isOpen _ => ?_⟩
      obtain ⟨open', ranked, unranked⟩ := dropped_of_held (exchangedSets (judged s)) route held isOpen
      have ranks : outranked (exchangedSets (judged s)) p = true ↔ behind := by
        rw [outranked_iff, ident]
        exact and_iff_right held
      refine ⟨open', fun is => ranked (ranks.2 is), fun isNot => ?_⟩
      rw [← ident]
      exact unranked (Bool.eq_false_iff.2 (mt ranks.1 isNot))
    · rw [State.report_gov, frame]
      rfl
    · rw [State.report_gov, frame]
      exact window
    · rw [frame]
      exact ⟨rfl, rfl, rfl, rfl, rfl, rfl, rfl, rfl, rfl, rfl, rfl, rfl⟩

end Sys2Proof.Proofs
end

section
/-! PROOFS. The bounds of queues, lists and ranges (11.2, 11.4, 6.1, 5.2, 5.5, 8.2, 8.3, 7.2, 7.6, 9.2): what the shared operations
keep of them. -/

namespace Sys2Proof.Proofs

open Sys2Proof.Machine

/-! ## The bounds, block by block -/

/-- R100: every interrupt list is in order. -/
def EarsWf (ears : Vector (Option Ear) 48) : Prop := ∀ (p : PortId) (e : Ear), ears[p] = some e → e.wf

/-- R82, R88: few waiters, distinct members. -/
def GroupWf (r : GroupRecord) : Prop := r.waiters.length ≤ 4 ∧ (r.members.map Member.port).Nodup

/-- R143, R144: few cues, and the ready frames in channel order. -/
def TxWf (tx : Transmitter) : Prop := tx.cues.length ≤ 8 ∧ tx.ready.Pairwise fun a b : AudioFrame => a.channel < b.channel

/-- R118, R130: the quality counts and the unmatched count. -/
def RxWf (rx : Receiver) : Prop := (∀ c : ChanId, rx.channels[c].quality ≤ 255) ∧ rx.unmatched ≤ 65535

theorem listsWf_iff (s : State) :
    s.listsWf ↔ EarsWf s.ears ∧ (∀ g : GroupId, GroupWf s.groups[g]) ∧ TxWf s.tx := by
  unfold State.listsWf EarsWf GroupWf TxWf
  rw [forall_and, and_assoc]

theorem rangesWf_iff (s : State) : s.rangesWf ↔ (∀ p : PortId, s.gov.records[p].wf) ∧ RxWf s.rx := Iff.rfl

/-- What holds of the bounds of `s` holds of those of `t`. -/
structure Keeps (s t : State) : Prop where
  link : s.link.wf → t.link.wf
  ears : EarsWf s.ears → EarsWf t.ears
  groups : (∀ g : GroupId, GroupWf s.groups[g]) → ∀ g : GroupId, GroupWf t.groups[g]
  tx : TxWf s.tx → TxWf t.tx
  records : (∀ p : PortId, s.gov.records[p].wf) → ∀ p : PortId, t.gov.records[p].wf
  rx : RxWf s.rx → RxWf t.rx

theorem Keeps.refl (s : State) : Keeps s s := ⟨id, id, id, id, id, id⟩

theorem Keeps.trans {s t u : State} (h : Keeps s t) (h' : Keeps t u) : Keeps s u where
  link w := h'.link (h.link w)
  ears w := h'.ears (h.ears w)
  groups w := h'.groups (h.groups w)
  tx w := h'.tx (h.tx w)
  records w := h'.records (h.records w)
  rx w := h'.rx (h.rx w)

theorem Keeps.foldl {α : Type} (f : State → α → State) (hf : ∀ s x, Keeps s (f s x)) (xs : List α) (s : State) :
    Keeps s (xs.foldl f s) := by
  induction xs generalizing s with
  | nil => exact .refl s
  | cons x xs ih => exact (hf s x).trans (ih (f s x))

/-- A property of every record of a table, when one record is replaced by one that has it. -/
theorem forall_tableSet {α : Type} {n : Nat} {v : Vector α n} {i : Fin n} {x : α} {P : α → Prop} (all : ∀ j : Fin n, P v[j])
    (new : P x) (j : Fin n) : P (tableSet v i x)[j] := by
  rw [tableSet_get]
  split
  · exact new
  · exact all j

/-! ## Reports (R183) -/

theorem report_wf {l : ControlLink} (n : Notice) (h : l.wf) : (l.report n).wf := by
  obtain ⟨replies, notices, distinct⟩ := h
  refine ⟨by rw [(l.report_sameAnswers n).replies]; exact replies, ?_⟩
  rcases l.report_cases n with ⟨same, -⟩ | ⟨-, fresh, room, queued⟩
  · rw [same]; exact ⟨notices, distinct⟩
  · rw [queued, List.filter_append, List.length_append]
    refine ⟨room, List.nodup_append.2 ⟨distinct, (List.nodup_singleton n).filter _, fun a old b new same => ?_⟩⟩
    rw [List.mem_filter, List.mem_singleton] at new
    rw [same, new.1] at old
    obtain isEvent | absent := fresh
    · rw [← new.1, new.2] at isEvent
      cases isEvent
    · rw [List.contains_eq_mem, decide_eq_false_iff_not] at absent
      exact absent (List.mem_filter.1 old).1

theorem reported_wf (ns : List Notice) {l : ControlLink} (h : l.wf) : (reported ns l).wf := by
  induction ns generalizing l with
  | nil => exact h
  | cons n ns ih => exact ih (report_wf n h)

theorem report_keeps (n : Notice) (s : State) : Keeps s (s.report n) := { Keeps.refl s with link := report_wf n }

/-! ## Single records -/

theorem setPort_keeps (p : PortId) (r : PortRecord) (s : State) : Keeps s (s.setPort p r) := { Keeps.refl s with }
theorem setKey_keeps (k : KeyId) (r : KeyRecord) (s : State) : Keeps s (s.setKey k r) := { Keeps.refl s with }
theorem setCheck_keeps (c : ChanId) (r : Check) (s : State) : Keeps s (s.setCheck c r) := { Keeps.refl s with }
theorem setGain_keeps (p : PortId) (g : Option Gain) (s : State) : Keeps s (s.setGain p g) := { Keeps.refl s with }

theorem setGroup_keeps {g : GroupId} {r : GroupRecord} {s : State}
    (bounded : GroupWf s.groups[g] → GroupWf r) : Keeps s (s.setGroup g r) :=
  { Keeps.refl s with groups := fun all => forall_tableSet all (bounded (all g)) }

theorem setEar_keeps {p : PortId} {o : Option Ear} {s : State} (wf : EarsWf s.ears → ∀ e, o = some e → e.wf) :
    Keeps s (s.setEar p o) :=
  { Keeps.refl s with ears := fun all => forall_tableSet (P := fun o : Option Ear => ∀ e, o = some e → e.wf) all (wf all) }

theorem setProtection_keeps {p : PortId} {r : Protection} {s : State} (wf : s.gov.records[p].wf → r.wf) :
    Keeps s (s.setProtection p r) :=
  { Keeps.refl s with records := fun all => forall_tableSet all (wf (all p)) }

theorem setChannel_keeps {ch : ChanId} {c : Machine.Channel} {s : State}
    (quality : s.rx.channels[ch].quality ≤ 255 → c.quality ≤ 255) : Keeps s (s.setChannel ch c) :=
  { Keeps.refl s with
    rx := fun all => ⟨forall_tableSet (P := fun c : Machine.Channel => c.quality ≤ 255) all.1 (quality (all.1 ch)), all.2⟩ }

/-! ## Deliveries (chapters 2, 4, 5, 6) -/

/-- R158: an opening keeps a protection record in its range. -/
theorem openingIfRaised_keeps (a b : Nat) (d : Endpoint) (s : State) : Keeps s (s.openingIfRaised a b d) where
  link := by rw [State.openingIfRaised_link]; exact id
  ears := by rw [State.openingIfRaised_ears]; exact id
  groups := by rw [State.openingIfRaised_groups]; exact id
  tx := by rw [State.openingIfRaised_tx]; exact id
  rx := by rw [State.openingIfRaised_rx]; exact id
  records wf p := by
    obtain ⟨n, eq, range⟩ := (State.openingIfRaised_gov a b d s).2.2 p
    obtain ⟨level, history, openings⟩ := wf p
    rw [eq]
    exact ⟨level, history, range.elim (fun same => same ▸ openings) id⟩

theorem paths_keeps (ps : List Path) (s : State) : Keeps s { s with paths := ps } := { Keeps.refl s with }

theorem touchPath_keeps (id : PathId) (f : Path → Path) (s : State) : Keeps s (s.touchPath id f) := by
  unfold State.touchPath
  split
  · exact .refl s
  · exact (paths_keeps _ s).trans (openingIfRaised_keeps _ _ _ _)

theorem change_keeps {s t : State} (h : Change s t) : Keeps s t := by
  cases h with
  | report n => exact report_keeps n s
  | key k r => exact setKey_keeps k r s
  | group g r same =>
      refine setGroup_keeps fun ⟨few, distinct⟩ => ⟨?_, same.ports ▸ distinct⟩
      exact same.waiters.elim id fun fewer => fewer.trans few
  | ear p e e' present wf =>
      refine setEar_keeps fun all x is => ?_
      cases is
      exact wf (all p e present)
  | touch id f => exact touchPath_keeps id f s
  | create id h asked => exact (paths_keeps _ s).trans (openingIfRaised_keeps _ _ _ _)

/-- Delivering, withdrawing and serving keys keeps the bounds. -/
theorem changes_keeps {s t : State} (h : Changes s t) : Keeps s t := by
  induction h with
  | refl => exact .refl s
  | tail _ change ih => exact ih.trans (change_keeps change)

theorem setActivation_keeps (k : KeyId) (a : Activation) (s : State) : Keeps s (s.setActivation k a) :=
  (setKey_keeps k _ s).trans (report_keeps _ _)

theorem keyAction_keeps (k : KeyId) (a : KeyAction) (s : State) : Keeps s (s.keyAction k a) :=
  changes_keeps (State.keyAction_changes k a s)

theorem keyTransition_keeps (k : KeyId) (t : Option (Activation × KeyAction)) (s : State) : Keeps s (s.keyTransition k t) := by
  unfold State.keyTransition
  split
  · exact .refl s
  · exact (setActivation_keeps _ _ s).trans (keyAction_keeps _ _ _)

theorem forceCallKey_keeps (k : KeyId) (s : State) : Keeps s (s.forceCallKey k).1 := by
  unfold State.forceCallKey
  split
  · exact (setActivation_keeps _ _ s).trans (changes_keeps (State.withdraw_changes _ _))
  · exact .refl s

/-! ## Channels and checks (R130, R137, R153) -/

theorem putChannel_keeps {ch : ChanId} {c : Machine.Channel} {s : State}
    (quality : s.rx.channels[ch].quality ≤ 255 → c.quality ≤ 255) : Keeps s (s.putChannel ch c) := by
  rw [putChannel_eq]
  exact (setChannel_keeps quality).trans { Keeps.refl _ with link := reported_wf _ }

theorem raise_quality (c : Machine.Channel) : c.raise.quality ≤ 255 := Nat.min_le_left _ _

theorem lower_quality {c : Machine.Channel} (h : c.quality ≤ 255) : c.lower.quality ≤ 255 := by
  unfold Channel.lower
  split
  · exact h
  · exact (Nat.sub_le _ _).trans h

theorem primeStore_quality (q : Seq) (b : Block) (c : Machine.Channel) : (c.primeStore q b).quality = c.quality := by
  unfold Channel.primeStore
  dsimp only
  split
  · split <;> rfl
  · rfl

theorem takePriming_quality (q : Seq) (b : Block) (c : Machine.Channel) : (c.takePriming q b).quality = c.quality := by
  unfold Channel.takePriming
  split
  · rfl
  · split
    · split
      · rfl
      · exact primeStore_quality q b c
    · split
      · exact primeStore_quality q b _
      · rfl

theorem takeRunning_quality (q : Seq) (b : Block) {c : Machine.Channel} (h : c.quality ≤ 255) :
    (c.takeRunning q b).quality ≤ 255 := by
  unfold Channel.takeRunning
  split
  · exact h
  · split
    · split <;> exact h
    · split
      · split <;> exact raise_quality c
      · exact raise_quality c

theorem takeAudio_quality (q : Seq) (payload : Option Block) {c : Machine.Channel} (h : c.quality ≤ 255) :
    (c.takeAudio q payload).quality ≤ 255 := by
  unfold Channel.takeAudio
  split
  case h_3 => rw [takePriming_quality]; exact h
  case h_4 | h_6 => exact raise_quality c
  case h_5 => exact takeRunning_quality q _ h
  all_goals exact h

theorem yieldBlock_quality {c : Machine.Channel} (h : c.quality ≤ 255) : c.yieldBlock.1.quality ≤ 255 := by
  unfold Channel.yieldBlock
  split
  · split
    · exact lower_quality (c := c.takeOut _) h
    · exact raise_quality c
  · exact h
  · exact h

theorem recover_quality {c : Machine.Channel} (h : c.quality ≤ 255) : c.recover.quality ≤ 255 := by
  unfold Channel.recover
  split
  · exact Nat.zero_le _
  · exact h

theorem abortCheck_keeps (ch : ChanId) (st : CheckState) (r : Option CheckReason) (n : BlockCount) (s : State) :
    Keeps s (s.abortCheck ch st r n) := by
  unfold State.abortCheck
  split
  · exact (setCheck_keeps ch _ s).trans (report_keeps _ _)
  · exact .refl s

/-! ## The window end (R159) -/

theorem nextLevel_le {wanted present m : Nat} (h : wanted ≤ m) (h' : present ≤ m) : nextLevel wanted present ≤ m := by
  unfold nextLevel
  split
  · exact h
  · split <;> omega

theorem closedLevel_le (c : GovConfig) (peak : Nat) : c.closedLevel peak ≤ 2 := by
  unfold GovConfig.closedLevel
  split
  · split
    · exact Nat.le_refl 2
    · split <;> decide
  · decide
  · decide

theorem openLevel_le (c : GovConfig) (h : List Nat) : c.openLevel h ≤ 2 := by
  unfold GovConfig.openLevel
  split <;> decide

theorem appendHistory_length (n : Nat) (h : List Nat) : (appendHistory n h).length ≤ 8 := by
  simp only [appendHistory, Config.historyWindows, List.length_drop]
  omega

theorem endWindow_wf (c : GovConfig) (clips : Nat) {r : Protection} (h : r.wf) : (r.endWindow c clips).wf :=
  ⟨nextLevel_le (Nat.max_le.2 ⟨closedLevel_le _ _, openLevel_le _ _⟩) h.1, appendHistory_length _ _, Nat.zero_le _⟩

theorem endWindowPort_keeps (p : PortId) (s : State) : Keeps s (s.endWindowPort p) := by
  unfold State.endWindowPort
  split
  · dsimp only
    rw [retargetGain_eq]
    have ended (g : Option Gain) : Keeps s ((s.setProtection p _).setGain p g) :=
      (setProtection_keeps (endWindow_wf s.gov.config s.mix.clips[p])).trans (setGain_keeps p g _)
    split
    · exact ended _
    · exact (ended _).trans (report_keeps _ _)
  · exact .refl s

theorem endWindow_keeps (s : State) : Keeps s s.endWindow := by
  unfold State.endWindow
  split
  · exact Keeps.trans (t := { s with gov := { s.gov with windowDue := false } }) { Keeps.refl s with }
      (Keeps.foldl _ (fun s p => endWindowPort_keeps p s) _ _)
  · exact .refl s

end Sys2Proof.Proofs
end

section
/-! PROOFS. The bounds of queues, lists and ranges: the device's own steps keep them (1.3, 1.4, 2.2, 5.5.2, 7.4 to 7.8, 8.7, 9.5, 10.3). -/

namespace Sys2Proof.Proofs

open Sys2Proof.Machine

/-! ## Due steps -/

theorem leaveLive_keeps {ch : ChanId} {c : Machine.Channel} (r : CheckReason) {s : State}
    (quality : s.rx.channels[ch].quality ≤ 255 → c.quality ≤ 255) : Keeps s (s.leaveLive ch c r) := by
  unfold State.leaveLive
  dsimp only
  refine Keeps.trans (Keeps.trans ?_ (abortCheck_keeps ch _ _ _ _)) (changes_keeps (State.runPasses_changes _ _))
  split
  · exact (putChannel_keeps quality).trans (forceCallKey_keeps _ _)
  · exact putChannel_keeps quality

theorem takeDrop_keeps (ch : ChanId) (s : State) : Keeps s (s.takeDrop ch) := by
  unfold State.takeDrop
  split
  · exact (endWindow_keeps s).trans (leaveLive_keeps _ id)
  · exact .refl s

theorem takeIdleLimit_keeps (ch : ChanId) (s : State) : Keeps s (s.takeIdleLimit ch) := by
  unfold State.takeIdleLimit
  split
  · exact (endWindow_keeps s).trans (leaveLive_keeps _ fun _ => Nat.zero_le _)
  · exact .refl s

theorem takeConcealLimit_keeps (ch : ChanId) (s : State) : Keeps s (s.takeConcealLimit ch) := by
  unfold State.takeConcealLimit
  split
  · exact putChannel_keeps id
  · exact .refl s

theorem takeRecovery_keeps (ch : ChanId) (s : State) : Keeps s (s.takeRecovery ch) := by
  unfold State.takeRecovery
  split
  · exact putChannel_keeps recover_quality
  · exact .refl s

theorem settleChannel_keeps (ch : ChanId) (s : State) : Keeps s (s.settleChannel ch) :=
  (((takeDrop_keeps ch s).trans (takeIdleLimit_keeps ch _)).trans (takeConcealLimit_keeps ch _)).trans (takeRecovery_keeps ch _)

theorem takeCompletion_keeps (ch : ChanId) (s : State) : Keeps s (s.takeCompletion ch) := by
  unfold State.takeCompletion
  split
  · exact ((setCheck_keeps ch _ s).trans (report_keeps _ _)).trans (putChannel_keeps id)
  · exact .refl s

theorem removeSpent_keeps (which : Path → Bool) (s : State) : Keeps s (s.removeSpent which) := paths_keeps _ s

theorem exchange_keeps (s : State) : Keeps s s.exchange :=
  Keeps.trans (t := exchangedSets s) { Keeps.refl s with } (changes_keeps (State.exchange_changes s))

theorem judgeSwap_keeps (s : State) : Keeps s s.judgeSwap := by
  have cleared : Keeps s (judged s) := { Keeps.refl s with }
  obtain ⟨n, eq | eq⟩ := judgeSwap_cases s
  · rw [eq]; exact cleared.trans (report_keeps _ _)
  · rw [eq]; exact (cleared.trans (exchange_keeps _)).trans (report_keeps _ _)

theorem takeJudgement_keeps (s : State) : Keeps s s.takeJudgement := by
  unfold State.takeJudgement
  split
  · exact (endWindow_keeps s).trans (judgeSwap_keeps _)
  · exact .refl s

theorem settleSteps_keeps (s : State) : Keeps s s.settleSteps := by
  unfold State.settleSteps
  dsimp only
  refine Keeps.trans ?_ (takeJudgement_keeps _)
  refine Keeps.trans ?_ (Keeps.foldl _ (fun s g => changes_keeps (State.takeTimeouts_changes g s)) _ _)
  refine Keeps.trans ?_ (Keeps.foldl _ (fun s ch => takeCompletion_keeps ch s) _ _)
  refine Keeps.trans ?_ (Keeps.foldl _ (fun s ch => settleChannel_keeps ch s) _ _)
  exact (endWindow_keeps s).trans (removeSpent_keeps _ _)

/-! ## The clock's return (R13, R136) -/

theorem lanes_keeps (l : Lanes) (s : State) : Keeps s { s with lanes := l } := { Keeps.refl s with }

theorem returnChannel_keeps (ch : ChanId) (s : State) : Keeps s (s.returnChannel ch) := by
  unfold State.returnChannel
  split
  · exact putChannel_keeps id
  · exact .refl s

theorem takeClockPresent_keeps (s : State) : Keeps s s.takeClockPresent := by
  unfold State.takeClockPresent
  split
  · exact ((lanes_keeps _ s).trans (report_keeps _ _)).trans (Keeps.foldl _ (fun s ch => returnChannel_keeps ch s) _ _)
  · exact .refl s

theorem settle_keeps (s : State) : Keeps s s.settle :=
  ((settleSteps_keeps s).trans (takeClockPresent_keeps _)).trans (settleSteps_keeps _)

/-! ## The block (R42) -/

theorem yieldChannel_keeps (n : BlockCount) (ch : ChanId) (s : State) : Keeps s (s.yieldChannel n ch) := by
  unfold State.yieldChannel
  dsimp only
  split
  · exact .refl s
  · split
    · exact (putChannel_keeps yieldBlock_quality).trans (setCheck_keeps _ _ _)
    · exact putChannel_keeps yieldBlock_quality

/-- R110: a dip that advances leaves its interrupt list as it stands. -/
theorem advanceRamps_keeps (s : State) : Keeps s s.advanceRamps :=
  { Keeps.refl s with
    ears := fun wf p e is => by
      rw [State.advanceRamps] at is
      simp only [Fin.getElem_fin, tableMap_getElem, Option.map_eq_some_iff] at is
      obtain ⟨e', was, rfl⟩ := is
      exact wf p e' was }

/-- R157: a peak is no part of a record's bounds. -/
theorem mixBlock_keeps (n : BlockCount) (s : State) : Keeps s (s.mixBlock n) :=
  { Keeps.refl s with
    records := fun wf p => by
      rw [State.mixBlock]
      simp only [Fin.getElem_fin, tableOf_getElem]
      split <;> exact wf p }

/-- R141: a frame stands for the channel that made it. -/
theorem channel_of_mem_frameOf {n : BlockCount} {s : State} {ch : ChanId} {f : AudioFrame} (mem : f ∈ frameOf n s ch) :
    f.channel = ch := by
  unfold frameOf at mem
  split at mem
  · cases mem
  · rw [List.mem_singleton.1 mem]

theorem frameOf_pairwise (n : BlockCount) (s : State) (ch : ChanId) :
    (frameOf n s ch).Pairwise fun a b : AudioFrame => a.channel < b.channel := by
  unfold frameOf
  split
  · exact .nil
  · exact List.pairwise_singleton _ _

/-- R144: the frames of a block stand in channel order. -/
theorem makeFrames_keeps (n : BlockCount) (s : State) : Keeps s (s.makeFrames n) := by
  rw [makeFrames_eq]
  refine { Keeps.refl s with tx := fun wf => ⟨wf.1, List.pairwise_flatMap.2 ⟨fun ch _ => frameOf_pairwise n s ch, ?_⟩⟩ }
  refine (List.pairwise_lt_finRange 8).imp fun {c d} before f memf g memg => ?_
  rw [channel_of_mem_frameOf memf, channel_of_mem_frameOf memg]
  exact before

theorem computeBlock_keeps (n : BlockCount) (s : State) : Keeps s (s.computeBlock n) := by
  unfold State.computeBlock
  dsimp only
  refine Keeps.trans ?_ (makeFrames_keeps n _)
  refine Keeps.trans ?_ (mixBlock_keeps n _)
  refine Keeps.trans ?_ (advanceRamps_keeps _)
  exact Keeps.trans (t := { s with eventBlock := n }) { Keeps.refl s with } (Keeps.foldl _ (fun s ch => yieldChannel_keeps n ch s) _ _)

theorem takeBoundary_keeps (s : State) : Keeps s s.takeBoundary := by
  unfold State.takeBoundary
  split
  · split
    · exact lanes_keeps _ s
    · have counted (n : BlockCount) (s : State) : Keeps s (s.advanceCount n) := { Keeps.refl s with }
      exact ((computeBlock_keeps _ s).trans (counted _ _)).trans (lanes_keeps _ _)
  · exact .refl s

theorem passBoundary_keeps (s : State) : Keeps s s.passBoundary := by
  unfold State.passBoundary
  split
  · exact (takeBoundary_keeps s).trans (settleSteps_keeps _)
  · exact .refl s

end Sys2Proof.Proofs
end

section
/-! PROOFS. Every step keeps the queues of the control link, the lists and the ranges. -/

namespace Sys2Proof.Proofs

open Sys2Proof.Machine

/-! ## Requests executed in CONFIG -/

theorem closeChannel_keeps (c : ChanId) (s : State) : Keeps s (s.closeChannel c) := by
  unfold State.closeChannel
  split
  · exact .refl s
  · exact putChannel_keeps fun _ => Nat.zero_le _

theorem emptyEar_wf : Ear.empty.wf := ⟨Nat.zero_le _, .nil⟩

theorem protectionReset_wf : Protection.reset.wf := ⟨Nat.zero_le _, Nat.zero_le _, Nat.zero_le _⟩

/-- R99, R155: a change of kind renews the interrupt list and the protection record. -/
theorem writePort_keeps (p : PortId) (k : PortKind) (i o : Option Slot) (c : Option ChanId) (s : State) :
    Keeps s (s.writePort p k i o c) := by
  unfold State.writePort
  dsimp only
  have written : Keeps s (if k = s.ports[p].kind then s.setPort p (s.ports[p].configure k i o c)
      else ((s.setPort p (s.ports[p].configure k i o c)).setEar p
        (if k = .earpiece then some Ear.empty else none)).setProtection p Protection.reset) := by
    split
    · exact setPort_keeps p _ s
    · refine ((setPort_keeps p _ s).trans (setEar_keeps fun _ e is => ?_)).trans (setProtection_keeps fun _ => protectionReset_wf)
      split at is <;> cases is
      exact emptyEar_wf
  split
  · split
    · exact written
    · exact written.trans (closeChannel_keeps _ _)
  · exact written

theorem portRequest_keeps (n k : Nat) (i o c : Option Nat) (s : State) : Keeps s (s.portRequest n k i o c).1 := by
  unfold State.portRequest
  dsimp only
  split
  · split
    · iterate 5 (split; · exact .refl s)
      exact writePort_keeps _ _ _ _ _ _
    · exact .refl s
  · exact .refl s

theorem closeRequest_keeps (c : Nat) (s : State) : Keeps s (s.closeRequest c).1 := by
  unfold State.closeRequest
  split
  · exact closeChannel_keeps _ _
  · exact .refl s

theorem channelRequest_keeps (c op : Nat) (id : LinkId) (pr md ck : Option Nat) (s : State) :
    Keeps s (s.channelRequest c op id pr md ck).1 := by
  unfold State.channelRequest
  split
  · exact closeRequest_keeps _ _
  · split
    · split
      · exact .refl s
      · exact putChannel_keeps fun _ => Nat.zero_le _
    · exact .refl s
  · exact .refl s

theorem filterRequest_keeps (n e : Nat) (v m : LinkId) (c : Nat) (s : State) : Keeps s (s.filterRequest n e v m c).1 := by
  unfold State.filterRequest
  split <;> exact { Keeps.refl s with }

theorem governorRequest_keeps (m : Nat) (tl tm c1 c2 l : Option Nat) (s : State) :
    Keeps s (s.governorRequest m tl tm c1 c2 l).1 := by
  unfold State.governorRequest
  split <;> exact { Keeps.refl s with }

/-! ## Definitions and routes -/

theorem trimRequest_keeps (n v : Nat) (dip : Option Nat) (s : State) : Keeps s (s.trimRequest n v dip).1 := by
  have retargets (p : PortId) (s : State) : Keeps s (s.retargetDip p) := by
    unfold State.retargetDip
    split
    · exact .refl s
    · rename_i e there
      split
      · exact .refl s
      · split
        · exact .refl s
        · refine (setEar_keeps fun wf x is => ?_).trans (report_keeps _ _)
          cases is
          exact wf p e there
  unfold State.trimRequest
  split
  · rename_i p _
    split
    · have trimmed : Keeps s (withTrim s p v dip) := (setPort_keeps p _ s).trans (setGain_keeps p _ _)
      rw [accept, writeTrim_eq]
      dsimp only
      split
      · exact trimmed.trans (retargets p _)
      · exact trimmed
    · exact .refl s
  · exact .refl s

theorem removeRequest_keeps (n : Nat) (s : State) : Keeps s (s.removeRequest n).1 := by
  unfold State.removeRequest
  split
  · iterate 2 (split; · exact .refl s)
    exact setKey_keeps _ _ s
  · exact .refl s

theorem keyRequest_keeps (n o tt tn : Nat) (l pr m : Option Nat) (s : State) : Keeps s (s.keyRequest n o tt tn l pr m).1 := by
  unfold State.keyRequest
  split
  · exact removeRequest_keeps _ _
  · split
    · iterate 3 (split; · exact .refl s)
      exact setKey_keeps _ _ s
    · exact .refl s

/-- R82: the members of a group that is written are distinct, and it has no waiter. -/
theorem groupRequest_keeps (n m : Nat) (t : Option Nat) (ms : List Nat) (s : State) : Keeps s (s.groupRequest n m t ms).1 := by
  unfold State.groupRequest
  split
  · rename_i g mode ports _ _ _
    iterate 2 (split; · exact .refl s)
    split
    · exact .refl s
    · rename_i distinct
      obtain ⟨waiters, members⟩ := groupWritten_spec mode t (not_not.1 distinct)
      split
      · exact .refl s
      · exact setGroup_keeps fun _ => ⟨by rw [waiters]; exact Nat.zero_le _, members⟩
  · exact .refl s

theorem presenceRequest_keeps (n v : Nat) (s : State) : Keeps s (s.presenceRequest n v).1 := by
  unfold State.presenceRequest
  split
  · split
    · unfold accept State.writePresence
      dsimp only
      split
      · exact (setPort_keeps _ _ s).trans (changes_keeps (State.runPasses_changes _ _))
      · exact setPort_keeps _ _ s
    · exact .refl s
  · exact .refl s

theorem routes_keeps (r : RouteStore) (s : State) : Keeps s { s with routes := r } := { Keeps.refl s with }

theorem routeAddRequest_keeps (a d c : Nat) (l : Option Nat) (s : State) : Keeps s (s.routeAddRequest a d c l).1 := by
  unfold State.routeAddRequest
  split
  · iterate 3 (split; · exact .refl s)
    exact routes_keeps _ s
  · exact .refl s

theorem routeDropRequest_keeps (a d c : Nat) (s : State) : Keeps s (s.routeDropRequest a d c).1 := by
  unfold State.routeDropRequest
  split
  · iterate 2 (split; · exact .refl s)
    exact routes_keeps _ s
  · exact .refl s

theorem routeCopyRequest_keeps (s : State) : Keeps s s.routeCopyRequest.1 := by
  unfold State.routeCopyRequest
  split
  · exact .refl s
  · exact routes_keeps _ s

theorem swapRequest_keeps (s : State) : Keeps s s.swapRequest.1 := by
  unfold State.swapRequest
  split
  · exact routes_keeps _ s
  · split
    · exact .refl s
    · exact routes_keeps _ s

/-- R184: the mask is no part of the queues. -/
theorem mask_keeps (mask : Byte) (s : State) : Keeps s { s with link := { s.link with mask := mask } } := { Keeps.refl s with }

/-- R185: an empty notice queue has its bounds. -/
theorem resync_keeps (s : State) : Keeps s { s with link := { s.link with notices := [], overflow := false } } :=
  { Keeps.refl s with link := fun wf => ⟨wf.1, Nat.zero_le _, List.nodup_nil⟩ }

/-! ## Requests executed in RUN, and queries -/

theorem keyPressRequest_keeps (n : Nat) (f : State → KeyId → Option (Activation × KeyAction)) (s : State) :
    Keeps s (s.keyPressRequest n f).1 := by
  unfold State.keyPressRequest
  split
  · split
    · exact .refl s
    · exact keyTransition_keeps _ _ s
  · exact .refl s

theorem length_concat_le {α : Type} {n : Nat} {xs : List α} (x : α) (room : ¬ n ≤ xs.length) : (xs ++ [x]).length ≤ n := by
  rw [List.length_append]
  exact Nat.lt_of_not_le room

/-- R143: a cue joins a queue that has room for it. -/
theorem cueSendRequest_keeps (c q : Nat) (s : State) : Keeps s (s.cueSendRequest c q).1 := by
  unfold State.cueSendRequest
  split
  · iterate 2 (split; · exact .refl s)
    split
    · exact .refl s
    · rename_i room
      exact { Keeps.refl s with tx := fun wf => ⟨length_concat_le _ room, wf.2⟩ }
  · exact .refl s

theorem checkStartRequest_keeps (c : Nat) (d f : Option Nat) (s : State) : Keeps s (s.checkStartRequest c d f).1 := by
  unfold State.checkStartRequest
  split
  · split
    · exact .refl s
    · split
      · exact setCheck_keeps _ _ s
      · exact .refl s
  · exact .refl s

theorem checkStopRequest_keeps (c : Nat) (s : State) : Keeps s (s.checkStopRequest c).1 := by
  unfold State.checkStopRequest
  split
  · exact abortCheck_keeps _ _ _ _ s
  · exact .refl s

theorem query_keeps {α : Type} (x : Option α) (f : α → Except Status (List Field)) (s : State) : Keeps s (s.query x f).1 := by
  unfold State.query
  split
  · exact .refl s
  · split <;> exact .refl s

/-! ## START, STOP and reset -/

theorem startRun_keeps (s : State) : Keeps s s.startRun := by
  have begins : Keeps s (begun s) := { Keeps.refl s with rx := fun wf => ⟨wf.1, Nat.zero_le _⟩ }
  exact begins.trans (changes_keeps (openRoutes_changes _))

theorem afterStop_quality {c : Machine.Channel} (h : c.quality ≤ 255) : (afterStop c).quality ≤ 255 := by
  unfold afterStop
  split
  · exact h
  · exact Nat.zero_le _

/-- R80, R98, R115, R140, R145, R165: what STOP leaves in each bounded table. -/
theorem stopRun_keeps (s : State) : Keeps s s.stopRun := by
  rw [stopRun_eq, stopped]
  constructor
  case link => exact reported_wf _
  case ears =>
    intro _ p e is
    simp only [Fin.getElem_fin, tableMap_getElem, Option.map_eq_some_iff] at is
    obtain ⟨_, _, rfl⟩ := is
    exact emptyEar_wf
  case groups =>
    intro wf g
    simp only [Fin.getElem_fin, tableMap_getElem]
    refine ⟨Nat.zero_le _, ?_⟩
    rw [GroupRecord.stop, List.map_map]
    exact (wf g).2
  case tx => exact fun wf => ⟨(List.length_filter_le _ _).trans wf.1, .nil⟩
  case records =>
    intro _ p
    rw [Fin.getElem_fin, Vector.getElem_replicate]
    exact protectionReset_wf
  case rx =>
    refine fun wf => ⟨fun c => ?_, wf.2⟩
    simp only [Fin.getElem_fin, tableOf_getElem]
    exact afterStop_quality (wf.1 c)

/-- R17: the reset condition is within every bound. -/
theorem resetAll_keeps (low : Bool) (s : State) : Keeps s (s.resetAll low) where
  link _ := ⟨Nat.zero_le _, Nat.zero_le _, List.nodup_nil⟩
  ears _ p e is := by
    rw [State.resetAll, State.reset, Fin.getElem_fin, Vector.getElem_replicate] at is
    cases is
  groups _ g := by
    rw [State.resetAll, State.reset, Fin.getElem_fin, Vector.getElem_replicate]
    exact ⟨Nat.zero_le _, List.nodup_nil⟩
  tx _ := ⟨Nat.zero_le _, .nil⟩
  records _ p := by
    rw [State.resetAll, State.reset, Governor.reset, Fin.getElem_fin, Vector.getElem_replicate]
    exact protectionReset_wf
  rx _ := by
    refine ⟨fun c => ?_, Nat.zero_le _⟩
    rw [State.resetAll, State.reset, Receiver.reset, Fin.getElem_fin, Vector.getElem_replicate]
    exact Nat.zero_le _

/-! ## Taking a request or an event -/

/-- A control link whose two queues are those of before. -/
theorem link_keeps {l : ControlLink} {s : State} (replies : l.replies = s.link.replies) (notices : l.notices = s.link.notices) :
    Keeps s { s with link := l } :=
  { Keeps.refl s with
    link := fun wf => by
      rw [ControlLink.wf, replies, notices]
      exact wf }

theorem openWrite_keeps (s : State) : Keeps s s.openWrite := link_keeps rfl rfl

theorem opened_keeps (s : State) : Keeps s s.opened := (settle_keeps s).trans (openWrite_keeps _)

theorem refuseWrite_keeps (s : State) : Keeps s s.refuseWrite := link_keeps rfl rfl

/-- R181: a reply joins a queue that has room for it. -/
theorem replied_keeps {s : State} (room : s.repliesFull = false) (kind tag : Byte) (st : Status) (body : List Field) :
    Keeps s (s.replied kind tag st body) := by
  exact { Keeps.refl s with link := fun wf => ⟨length_concat_le _ (of_decide_eq_false room), wf.2⟩ }

theorem repliesFull_congr {s t : State} (h : SameReplies s t) : t.repliesFull = s.repliesFull := by
  rw [State.repliesFull, State.repliesFull, h.replies]

theorem request_keeps {kind tag : Byte} {allowed : AllowedIn} {act : State → Answer} (h : ∀ s : State, Keeps s (act s).1)
    (replies : ∀ s : State, SameReplies s (act s).1) (s : State) : Keeps s (s.request kind tag allowed act) := by
  unfold State.request
  split
  · exact .refl s
  · dsimp only
    rw [← State.opened]
    split
    · exact (opened_keeps s).trans (refuseWrite_keeps s.opened)
    · rename_i room
      rw [Bool.not_eq_true] at room
      split
      · rw [State.answer_eq_replied]
        exact ((opened_keeps s).trans (h _)).trans (replied_keeps ((repliesFull_congr (replies _)).trans room) _ _ _ _)
      · rw [State.answer_eq_replied]
        exact (opened_keeps s).trans (replied_keeps room _ _ _ _)

theorem event_keeps {f : State → State} (h : ∀ s, Keeps s (f s)) (s : State) : Keeps s (s.event f) := by
  unfold State.event
  split
  · exact .refl s
  · exact (settle_keeps s).trans (h _)

theorem ownStep_keeps {f : State → State} (h : ∀ s, Keeps s (f s)) (s : State) : Keeps s (s.ownStep f) := by
  unfold State.ownStep
  split
  · exact .refl s
  · exact h s

/-! ## The clock, the lanes, the link port, the control link -/

theorem declareLost_keeps (s : State) : Keeps s s.declareLost := by
  unfold State.declareLost
  split
  · exact (lanes_keeps _ s).trans (report_keeps _ _)
  · exact .refl s

theorem takeSync_keeps (gap : Bool) (slots : SlotFrame) (s : State) : Keeps s (s.takeSync gap slots) := by
  have framed (s1 : State) : Keeps s1 (if s1.lanes.clockPresent then s1.captureAndDrive slots else s1.countSync gap) := by
    split <;> exact lanes_keeps _ s1
  unfold State.takeSync
  dsimp only
  refine Keeps.trans ?_ (framed _)
  split
  · exact declareLost_keeps s
  · exact passBoundary_keeps s

/-- R118: the unmatched count stops at its end. -/
theorem countUnmatched_keeps (s : State) : Keeps s s.countUnmatched :=
  { Keeps.refl s with rx := fun wf => ⟨wf.1, Nat.min_le_left _ _⟩ }

theorem arrival_keeps {id : LinkId} {take : ChanId → State → State} (h : ∀ ch s, Keeps s (take ch s)) (s : State) :
    Keeps s (s.arrival id take) := by
  unfold State.arrival
  split
  · exact .refl s
  · dsimp only
    refine Keeps.trans (t := { s with eventBlock := s.blockCount }) { Keeps.refl s with } ?_
    split
    · exact countUnmatched_keeps _
    · exact h _ _

theorem audioTo_keeps (ch : ChanId) (q : Seq) (payload : Option Block) (s : State) : Keeps s (s.audioTo ch q payload) := by
  have passes (s : State) (before : ChanState) : Keeps s (s.passesForRunning ch before) := by
    unfold State.passesForRunning
    split
    · split
      · exact changes_keeps (State.runPasses_changes _ _)
      · exact .refl s
    · exact .refl s
  exact (putChannel_keeps (takeAudio_quality q payload)).trans (passes _ _)

theorem cueTo_keeps (ch : ChanId) (code : Byte) (s : State) : Keeps s (s.cueTo ch code) := by
  have noted : Keeps s ((s.setChannel ch { s.rx.channels[ch] with lastCue := some code }).report (.cueIn ch code s.blockCount)) :=
    (setChannel_keeps (c := { s.rx.channels[ch] with lastCue := some code }) id).trans (report_keeps _ _)
  have calls (k : KeyId) (s : State) : Keeps s (s.callCue k) := by
    unfold State.callCue
    split
    · exact keyTransition_keeps _ _ s
    · exact .refl s
  have cancels (k : KeyId) (s : State) : Keeps s (s.cancelCue k) := by
    unfold State.cancelCue
    split
    · exact keyTransition_keeps _ _ s
    · exact .refl s
  unfold State.cueTo
  dsimp only
  split
  · split
    · split
      · exact noted.trans (calls _ _)
      · exact noted.trans (cancels _ _)
    · exact noted
  · exact noted

theorem cuePayload_keeps (payload : List Byte) (ch : ChanId) (s : State) : Keeps s (s.cuePayload payload ch) := by
  unfold State.cuePayload
  split
  · exact cueTo_keeps _ _ s
  · exact .refl s

theorem malformed_keeps (s : State) : Keeps s s.malformed := by
  unfold State.malformed
  split
  · exact .refl s
  · exact countUnmatched_keeps s

theorem beginCue_length (qs : List OutCue) : (beginCue qs).length = qs.length := by
  induction qs with
  | nil => rfl
  | cons q qs ih =>
      rw [beginCue]
      split
      · rw [List.length_cons, ih, List.length_cons]
      · rfl

theorem arbitrate_keeps (ready : Bool) (s : State) : Keeps s (s.arbitrate ready) := by
  unfold State.arbitrate
  split
  · unfold State.beginFrame
    split
    · rename_i f rest frames
      refine { Keeps.refl s with tx := fun wf => ⟨wf.1, ?_⟩ }
      have order := wf.2
      rw [frames] at order
      exact (List.pairwise_cons.1 order).2
    · split
      · exact { Keeps.refl s with tx := fun wf => ⟨by rw [beginCue_length]; exact wf.1, wf.2⟩ }
      · exact .refl s
  · exact .refl s

theorem finishFrame_keeps (s : State) : Keeps s s.finishFrame := by
  unfold State.finishFrame
  split
  · exact .refl s
  · exact { Keeps.refl s with }
  · exact { Keeps.refl s with tx := fun wf => ⟨(List.length_filter_le _ _).trans wf.1, wf.2⟩ }

theorem badFrame_keeps (kind tag : Option Byte) (s : State) : Keeps s (s.badFrame kind tag) := by
  unfold State.badFrame
  dsimp only
  split
  · exact (openWrite_keeps s).trans (refuseWrite_keeps _)
  · rename_i room
    exact (openWrite_keeps s).trans { Keeps.refl s.openWrite with
      link := fun wf => ⟨length_concat_le _ fun full => room (decide_eq_true full), wf.2⟩ }

theorem beginRead_keeps (s : State) : Keeps s s.beginRead := link_keeps rfl rfl
theorem beginOther_keeps (type : Byte) (s : State) : Keeps s (s.beginOther type) := link_keeps rfl rfl

theorem beginTransaction_keeps (type : Byte) (s : State) : Keeps s (s.beginTransaction type) := by
  unfold State.beginTransaction
  split
  · exact beginRead_keeps s
  · exact beginOther_keeps type s

/-- R186: a notice sent leaves its queue, or stands there again. -/
theorem requeue_wf (marked : Bool) {ns : List Notice} (h : ns.length ≤ 64 ∧ (ns.filter Notice.isStateKind).Nodup) :
    (requeue marked ns).length ≤ 64 ∧ ((requeue marked ns).filter Notice.isStateKind).Nodup := by
  obtain ⟨few, distinct⟩ := h
  cases ns with
  | nil => exact ⟨few, distinct⟩
  | cons n ns =>
      rw [requeue]
      split
      · have perm : List.Perm (ns ++ [n]) (n :: ns) := List.perm_append_singleton n ns
        exact ⟨perm.length_eq ▸ few, (perm.filter _).nodup_iff.2 distinct⟩
      · exact ⟨(Nat.le_succ _).trans few, distinct.sublist ((List.sublist_cons_self n ns).filter _)⟩

theorem sent_wf (r : Reading) {l : ControlLink} (h : l.wf) : (l.sent r).wf := by
  unfold ControlLink.sent
  split
  · exact ⟨by rw [List.length_tail]; exact (Nat.sub_le _ _).trans h.1, h.2⟩
  · exact ⟨h.1, requeue_wf r.marked h.2⟩
  · exact h

theorem endRead_keeps (complete : Bool) (s : State) : Keeps s (s.endRead complete) := by
  refine { Keeps.refl s with link := fun wf => ?_ }
  have ended : (match s.link.reading with
      | some r => if complete then s.link.sent r else s.link
      | none => s.link).wf := by
    split
    · split
      · exact sent_wf _ wf
      · exact wf
    · exact wf
  exact ended

/-! ## Every command -/

theorem restart_keeps (s : State) : Keeps s (if s.rstnLow then s else
    if s.opened.repliesFull then s.opened.refuseWrite else s.opened.restartAll) := by
  split
  · exact .refl s
  · split
    · exact (opened_keeps s).trans (refuseWrite_keeps _)
    · have status (s : State) : Keeps (s.resetAll false) s.restartAll := link_keeps rfl rfl
      exact ((opened_keeps s).trans (resetAll_keeps false _)).trans (status _)

theorem start_keeps (s : State) : Keeps s (match s.mode with | .config => s.startRun | .run => s) := by
  split
  · exact startRun_keeps s
  · exact .refl s

theorem start_sameReplies (s : State) : SameReplies s (match s.mode with | .config => s.startRun | .run => s) := by
  split
  · exact startRun_sameReplies s
  · exact .refl s

theorem stop_keeps (s : State) : Keeps s (match s.mode with | .run => s.stopRun | .config => s) := by
  split
  · exact stopRun_keeps s
  · exact .refl s

theorem stop_sameReplies (s : State) : SameReplies s (match s.mode with | .run => s.stopRun | .config => s) := by
  split
  · exact stopRun_sameReplies s
  · exact .refl s

/-- What a command leaves is within the bounds that it found. -/
theorem exec_keeps (c : Instr) (s : State) : ∃ t, exec c s = .next t ∧ Keeps s t := by
  cases c with
  | resetInput low =>
      refine ⟨_, rfl, ?_⟩
      split
      · exact resetAll_keeps low s
      · exact .refl s
  | start => exact ⟨_, rfl, request_keeps start_keeps start_sameReplies s⟩
  | stop => exact ⟨_, rfl, request_keeps stop_keeps stop_sameReplies s⟩
  | restart => exact ⟨_, rfl, restart_keeps s⟩
  | port => exact ⟨_, rfl, request_keeps (portRequest_keeps _ _ _ _ _) (portRequest_sameReplies _ _ _ _ _) s⟩
  | channel => exact ⟨_, rfl, request_keeps (channelRequest_keeps _ _ _ _ _ _) (channelRequest_sameReplies _ _ _ _ _ _) s⟩
  | channelClose => exact ⟨_, rfl, request_keeps (closeRequest_keeps _) (closeRequest_sameReplies _) s⟩
  | filter => exact ⟨_, rfl, request_keeps (filterRequest_keeps _ _ _ _ _) (filterRequest_sameReplies _ _ _ _ _) s⟩
  | governor => exact ⟨_, rfl, request_keeps (governorRequest_keeps _ _ _ _ _ _) (governorRequest_sameReplies _ _ _ _ _ _) s⟩
  | trim => exact ⟨_, rfl, request_keeps (trimRequest_keeps _ _ _) (trimRequest_sameReplies _ _ _) s⟩
  | key => exact ⟨_, rfl, request_keeps (keyRequest_keeps _ _ _ _ _ _ _) (keyRequest_sameReplies _ _ _ _ _ _ _) s⟩
  | keyRemove => exact ⟨_, rfl, request_keeps (removeRequest_keeps _) (removeRequest_sameReplies _) s⟩
  | group => exact ⟨_, rfl, request_keeps (groupRequest_keeps _ _ _ _) (groupRequest_sameReplies _ _ _ _) s⟩
  | presence => exact ⟨_, rfl, request_keeps (presenceRequest_keeps _ _) (presenceRequest_sameReplies _ _) s⟩
  | routeAdd => exact ⟨_, rfl, request_keeps (routeAddRequest_keeps _ _ _ _) (routeAddRequest_sameReplies _ _ _ _) s⟩
  | routeDrop => exact ⟨_, rfl, request_keeps (routeDropRequest_keeps _ _ _) (routeDropRequest_sameReplies _ _ _) s⟩
  | routeCopy => exact ⟨_, rfl, request_keeps routeCopyRequest_keeps routeCopyRequest_sameReplies s⟩
  | swap => exact ⟨_, rfl, request_keeps swapRequest_keeps swapRequest_sameReplies s⟩
  | notify => exact ⟨_, rfl, request_keeps (mask_keeps _) (fun _ => ⟨rfl, rfl, rfl⟩) s⟩
  | resync => exact ⟨_, rfl, request_keeps resync_keeps (fun _ => ⟨rfl, rfl, rfl⟩) s⟩
  | press | release => exact ⟨_, rfl, request_keeps (keyPressRequest_keeps _ _) (keyPressRequest_sameReplies _ _) s⟩
  | cueSend => exact ⟨_, rfl, request_keeps (cueSendRequest_keeps _ _) (cueSendRequest_sameReplies _ _) s⟩
  | checkStart => exact ⟨_, rfl, request_keeps (checkStartRequest_keeps _ _ _) (checkStartRequest_sameReplies _ _ _) s⟩
  | checkStop => exact ⟨_, rfl, request_keeps (checkStopRequest_keeps _) (checkStopRequest_sameReplies _) s⟩
  | queryPort | queryPaths | queryKey | queryGroup | queryEarpiece | queryChannel | queryProtect | queryRoutes =>
      exact ⟨_, rfl, request_keeps (fun s => query_keeps _ _ s) (fun s => query_sameReplies _ _ s) s⟩
  | badFrame => exact ⟨_, rfl, event_keeps (badFrame_keeps _ _) s⟩
  | readTransaction => exact ⟨_, rfl, event_keeps beginRead_keeps s⟩
  | otherTransaction => exact ⟨_, rfl, event_keeps (beginTransaction_keeps _) s⟩
  | blockBoundary => exact ⟨_, rfl, ownStep_keeps (fun s => (settleSteps_keeps s).trans (takeBoundary_keeps _)) s⟩
  | concealLimit ch => exact ⟨_, rfl, ownStep_keeps (takeConcealLimit_keeps ch) s⟩
  | channelIdleLimit ch => exact ⟨_, rfl, ownStep_keeps (takeIdleLimit_keeps ch) s⟩
  | channelDrop ch => exact ⟨_, rfl, ownStep_keeps (takeDrop_keeps ch) s⟩
  | channelRecovery ch => exact ⟨_, rfl, ownStep_keeps (takeRecovery_keeps ch) s⟩
  | checkCompletion ch => exact ⟨_, rfl, ownStep_keeps (takeCompletion_keeps ch) s⟩
  | pathRemoval => exact ⟨_, rfl, ownStep_keeps (removeSpent_keeps _) s⟩
  | waitTimeout k => exact ⟨_, rfl, ownStep_keeps (fun s => changes_keeps (State.takeTimeout_changes k s)) s⟩
  | windowEnd => exact ⟨_, rfl, ownStep_keeps endWindow_keeps s⟩
  | swapJudgement => exact ⟨_, rfl, ownStep_keeps takeJudgement_keeps s⟩
  | clockLost => exact ⟨_, rfl, event_keeps declareLost_keeps s⟩
  | clockPresent => exact ⟨_, rfl, ownStep_keeps (fun s => (settleSteps_keeps s).trans (takeClockPresent_keeps _)) s⟩
  | audioFrameArrival => exact ⟨_, rfl, event_keeps (arrival_keeps fun ch s => audioTo_keeps ch _ _ s) s⟩
  | cueFrameArrival => exact ⟨_, rfl, event_keeps (arrival_keeps (cuePayload_keeps _)) s⟩
  | malformedLinkFrame => exact ⟨_, rfl, event_keeps malformed_keeps s⟩
  | linkFrameBegin ready => exact ⟨_, rfl, event_keeps (arbitrate_keeps ready) s⟩
  | linkFrameSent => exact ⟨_, rfl, event_keeps finishFrame_keeps s⟩
  | frameSync gap slots => exact ⟨_, rfl, event_keeps (takeSync_keeps gap slots) s⟩
  | readTransactionEnd => exact ⟨_, rfl, event_keeps (endRead_keeps _) s⟩

theorem step_keeps {s t : State} (h : step s = .next t) : Keeps s t := by
  rw [step] at h
  split at h
  · rw [Host.Outcome.next.inj h]; exact .refl t
  · rename_i c rest _
    obtain ⟨u, eq, keeps⟩ := exec_keeps c { s with pending := rest }
    rw [Host.Outcome.next.inj (h.symm.trans eq)]
    exact Keeps.trans (t := { s with pending := rest }) { Keeps.refl s with } keeps

/-- Settles O59: the bounds stand block by block (`Keeps`); every command keeps each of them, since every operation that it is made
of does. -/
theorem everyStepKeepsQueuesListsAndRanges : Obligations.EveryStepKeepsQueuesListsAndRanges := by
  unfold Obligations.EveryStepKeepsQueuesListsAndRanges
  intro s t stepped
  have keeps := step_keeps stepped
  rw [listsWf_iff, listsWf_iff, rangesWf_iff, rangesWf_iff]
  exact ⟨keeps.link, fun ⟨ears, groups, tx⟩ => ⟨keeps.ears ears, keeps.groups groups, keeps.tx tx⟩,
    fun ⟨records, rx⟩ => ⟨keeps.records records, keeps.rx rx⟩⟩

end Sys2Proof.Proofs
end

section
/-! PROOFS. The control link's queues (11.2, 11.4, 11.8.1): frames that are refused, NOTIFY and RESYNC, reports, and the status byte. -/

namespace Sys2Proof.Proofs

open Sys2Proof.Machine

/-! ## Frames that find no room, and bad frames (R178, R181) -/

/-- R178: what a bad frame does while RSTN is high. -/
theorem exec_badFrame {s : State} (high : s.rstnLow = false) (kind tag : Option Byte) : exec (.badFrame kind tag) s =
    .next (if s.opened.repliesFull then s.opened.refuseWrite
      else s.opened.queueReply ⟨kind.getD 0, tag.getD 0, .badFrame, []⟩) :=
  congrArg Host.Outcome.next (State.event_of_high high _)

/-- R17, R181: what RESTART does while RSTN is high. -/
theorem exec_restart {s : State} (high : s.rstnLow = false) (tag : Byte) : exec (.restart tag) s =
    .next (if s.opened.repliesFull then s.opened.refuseWrite else s.opened.restartAll) :=
  congrArg Host.Outcome.next (if_neg (by rw [high]; decide))

theorem opened_repliesFull {s : State} (full : 16 ≤ s.link.replies.length) : s.opened.repliesFull = true := by
  obtain ⟨-, -, -, -, replies⟩ := s.opened_outside
  rw [State.repliesFull, replies]
  exact decide_eq_true full

/-- Settles O7: a request by `State.request_of_full`; RESTART and a bad frame make the same test of their own. -/
theorem fullReplyQueueRefusesFrames : Obligations.FullReplyQueueRefusesFrames := by
  unfold Obligations.FullReplyQueueRefusesFrames
  rintro c s high full (isRequest | ⟨tag, rfl⟩ | ⟨kind, tag, rfl⟩)
  · obtain ⟨h, header⟩ := Option.isSome_iff_exists.1 isRequest
    obtain ⟨act, meaning, -⟩ := exec_of_requestHeader header
    rw [meaning, State.request_of_full high full]
    rfl
  · rw [exec_restart high, if_pos (opened_repliesFull full)]
    rfl
  · rw [exec_badFrame high, if_pos (opened_repliesFull full)]
    rfl

/-- Settles O9. -/
theorem badFrameIsAnswered : Obligations.BadFrameIsAnswered := by
  unfold Obligations.BadFrameIsAnswered
  intro s kind tag takes
  rw [exec_badFrame takes.1, takes.notFull, if_neg Bool.false_ne_true]
  rfl

/-! ## NOTIFY and RESYNC (R184, R185) -/

/-- Settles O29. -/
theorem notifyAndResync : Obligations.NotifyAndResync := by
  unfold Obligations.NotifyAndResync
  rintro s tag mask takes u rfl
  exact ⟨AcceptedWith.of takes rfl rfl rfl rfl, AcceptedWith.of takes rfl rfl rfl rfl⟩

/-! ## Reports (R183 to R186) -/

theorem isBeingSent_iff (l : ControlLink) (n : Notice) : l.isBeingSent n = true ↔
    ∃ r, l.reading = some r ∧ r.source = .notice ∧ l.notices.head? = some n := by
  unfold ControlLink.isBeingSent
  cases l.reading with
  | none => simp
  | some r => simp

theorem report_of_disabled {l : ControlLink} {n : Notice} (off : l.enabled n = false) : l.report n = l :=
  if_pos (by rw [off]; rfl)

/-- R183, R186: a change of a subject that has an entry. -/
theorem report_of_waiting {l : ControlLink} {n : Notice} (on : l.enabled n = true) (state : n.isStateKind = true)
    (waits : n ∈ l.notices) : l.report n = if l.isBeingSent n then l.markReading else l := by
  unfold ControlLink.report
  rw [on, state, List.contains_iff_mem.2 waits]
  rfl

/-- R183, R185: a notice that joins the tail, or is discarded. -/
theorem report_of_new {l : ControlLink} {n : Notice} (on : l.enabled n = true) (new : n.isStateKind = false ∨ n ∉ l.notices) :
    l.report n = if l.notices.length < 64 then { l with notices := l.notices ++ [n] } else { l with overflow := true } := by
  have fresh : (n.isStateKind && l.notices.contains n) = false := by
    rw [Bool.and_eq_false_iff, List.contains_eq_mem, decide_eq_false_iff_not]
    exact new
  unfold ControlLink.report
  rw [on, fresh]
  by_cases room : l.notices.length < 64
  · rw [if_pos room]
    exact if_neg (Nat.not_le_of_lt room)
  · rw [if_neg room]
    exact if_pos (Nat.le_of_not_lt room)

/-- Settles O30: the kind's flag, then whether the subject has an entry, then whether that entry is being sent. -/
theorem reportsJoinTheNoticeQueue : Obligations.ReportsJoinTheNoticeQueue := by
  unfold Obligations.ReportsJoinTheNoticeQueue
  refine fun l n => ⟨report_of_disabled, fun on => ⟨fun state waits idle => ?_, fun state sending => ?_, report_of_new on⟩⟩
  · rw [report_of_waiting on state waits, if_neg (mt (isBeingSent_iff l n).1 idle)]
  · have waits : n ∈ l.notices := by
      obtain ⟨-, -, -, head⟩ := sending
      exact List.mem_of_mem_head? head
    rw [report_of_waiting on state waits, if_pos ((isBeingSent_iff l n).2 sending)]
    rfl

/-! ## The status byte (R177, R187) -/

/-- 11.8.1: eight flags as a byte. -/
def flagByte (b7 b6 b5 b4 b3 b2 b1 b0 : Bool) : Byte :=
  BitVec.ofNat 8 (128 * flagCode b7 + 64 * flagCode b6 + 32 * flagCode b5 + 16 * flagCode b4 + 8 * flagCode b3 + 4 * flagCode b2 +
    2 * flagCode b1 + flagCode b0)

theorem statusByte_eq (s : State) : s.statusByte = flagByte s.link.fresh s.routes.swapPending s.lanes.clockPresent
    (decide (s.mode = .run)) s.link.writeRefused s.link.overflow (!s.link.notices.isEmpty) (!s.link.replies.isEmpty) := rfl

theorem flagByte_bits : ∀ b7 b6 b5 b4 b3 b2 b1 b0 : Bool,
    let byte := flagByte b7 b6 b5 b4 b3 b2 b1 b0
    byte.getLsbD 7 = b7 ∧ byte.getLsbD 6 = b6 ∧ byte.getLsbD 5 = b5 ∧ byte.getLsbD 4 = b4 ∧ byte.getLsbD 3 = b3 ∧
      byte.getLsbD 2 = b2 ∧ byte.getLsbD 1 = b1 ∧ byte.getLsbD 0 = b0 := by decide

/-- Settles O31: the byte's bits are its flags, by the finite table of eight flags. -/
theorem statusByteCarriesTheFlags : Obligations.StatusByteCarriesTheFlags := by
  unfold Obligations.StatusByteCarriesTheFlags
  intro s
  obtain ⟨fresh, pending, present, run, refused, overflow, notices, replies⟩ := flagByte_bits s.link.fresh s.routes.swapPending
    s.lanes.clockPresent (decide (s.mode = .run)) s.link.writeRefused s.link.overflow (!s.link.notices.isEmpty)
    (!s.link.replies.isEmpty)
  rw [statusByte_eq]
  refine ⟨fresh, pending, present, ?_, refused, overflow, ?_, ?_, ?_⟩
  · rw [run, decide_eq_true_iff]
  · rw [notices, Bool.not_eq_true', List.isEmpty_eq_false_iff]
  · rw [replies, Bool.not_eq_true', List.isEmpty_eq_false_iff]
  · rw [notices, replies, State.attn, Bool.and_eq_true, Bool.or_eq_true, Bool.not_eq_true']

end Sys2Proof.Proofs
end

section
/-! PROOFS. READ_TRANSACTION and READ_TRANSACTION_END (11.1, 11.5, 11.8): the bytes of replies and notices, and what the end of a
transaction does with the entry sent. -/

namespace Sys2Proof.Proofs

open Sys2Proof.Machine

/-! ## What a notice tells -/

theorem fieldPort_eq_find (s : State) (c : ChanId) : s.fieldPort c = (List.finRange 48).find? fun p : PortId =>
    decide (s.ports[p].kind = .field ∧ s.ports[p].channel = some c) := by
  simp only [Bool.decide_and]
  rw [State.fieldPort, tableRows_eq, List.find?_map, Option.map_map]
  exact Option.map_id'

theorem protectionOf_eq (s : State) (p : PortId) : s.protectionOf p =
    if s.ports[p].kind = .panel ∨ s.ports[p].kind = .earpiece then s.gov.records[p] else ⟨0, 0, 0, [], none⟩ :=
  if_congr (PortKind.governed_iff _) rfl rfl

/-- R155: a port that is not governed has level 0, and with it the cap of level 0. -/
theorem capOf_eq (s : State) (p : PortId) : s.capOf p = if (s.protectionOf p).level = 0 then 4096
    else if (s.protectionOf p).level = 1 then s.gov.config.cap1 else s.gov.config.cap2 := by
  unfold State.capOf State.protectionOf
  split
  · exact cap_eq _ _
  · rfl

theorem lastFields_eq (w : Option LastWindow) : lastFields w =
    [.opt32 (w.map LastWindow.peak), .tagged16 (w.map LastWindow.openings), .opt16 (w.map LastWindow.clips)] := by
  cases w <;> rfl

theorem protectNotice_eq (s : State) (p : PortId) : s.protectNotice p = (s.tells (.protect p)).2 := by
  rw [State.protectNotice, capOf_eq, protectionOf_eq, lastFields_eq, listFields, ← List.map_eq_flatMap]
  rfl

/-- 11.8.2, R78, R113, R137, R162, R134, R174, R153: a notice's kind and the fields of its body. -/
theorem tells_eq (s : State) (n : Notice) : s.tells n = (n.kindCode, s.noticeBody n) := by
  cases n with
  | key | cueIn | check | clock => rfl
  | earpiece p =>
      rw [State.tells, State.noticeBody, State.earpieceNotice]
      cases s.ears[p] <;> rfl
  | link c =>
      rw [State.tells, State.noticeBody, State.linkNotice, fieldPort_eq_find]
      rfl
  | protect p =>
      rw [State.noticeBody, protectNotice_eq]
      rfl
  | swap outcome block routes creations limit =>
      cases limit with
      | none => rfl
      | some l => cases l <;> rfl

/-! ## Bytes (R189, 11.8.2) -/

/-- 11.8.2: a frame as the part forms it. -/
theorem outbound_eq (cls : Nat) (header : List Nat) (body : List Field) : outbound cls header body =
    bytes16 (1 + header.length + (bodyBytes body).length) ++ byteOf cls :: (header.map byteOf ++ bodyBytes body) := by
  have sent : Field.sent = Field.bytes := funext Field.sent_eq_bytes
  have octet : octets 1 = fun n => [byteOf n] := funext octets_one
  rw [outbound, sent, octet, ← List.map_eq_flatMap, octets_two, ← bodyBytes]
  simp only [List.cons_append, List.nil_append, List.length_cons, List.length_append, List.length_map]
  rw [Nat.add_comm 1, Nat.add_right_comm]

theorem replyBytes_eq (r : Reply) : r.bytes = outbound 1 [r.kind.toNat, r.tag.toNat, r.status.code] r.body := by
  have same (b : Byte) : byteOf b.toNat = b := by rw [byteOf, BitVec.ofNat_toNat, BitVec.setWidth_eq]
  rw [outbound_eq, List.map_cons, List.map_cons, same, same]
  rfl

theorem noticeBytes_eq (s : State) (n : Notice) : s.noticeBytes n = outbound 2 [(s.tells n).1] (s.tells n).2 := by
  rw [tells_eq, outbound_eq]
  rfl

/-- R186: the entry that a READ takes. -/
theorem outboundFrame_eq (s : State) : s.outboundFrame =
    match s.link.replies, s.link.notices with
    | r :: _, _ => ⟨.reply, outbound 1 [r.kind.toNat, r.tag.toNat, r.status.code] r.body, false⟩
    | [], n :: _ => ⟨.notice, outbound 2 [(s.tells n).1] (s.tells n).2, false⟩
    | [], [] => ⟨.empty, [0, 0], false⟩ := by
  unfold State.outboundFrame
  cases s.link.replies with
  | cons r rs => exact congrArg (fun frame => Reading.mk .reply frame false) (replyBytes_eq r)
  | nil =>
      cases s.link.notices with
      | cons n ns => exact congrArg (fun frame => Reading.mk .notice frame false) (noticeBytes_eq s n)
      | nil => rfl

/-! ## The end of a transaction (R176, R186) -/

theorem requeue_eq (marked : Bool) (ns : List Notice) :
    requeue marked ns = ns.tail ++ if marked then ns.head?.toList else [] := by
  cases ns <;> cases marked <;> simp [requeue]

/-- R186: a frame sent whole. -/
theorem endRead_of_whole {s : State} {r : Reading} (h : s.link.reading = some r) : s.endRead true =
    let ended := { s.link with reading := none, writing := false }
    { s with link :=
      match r.source with
      | .reply => { ended with replies := s.link.replies.tail }
      | .notice => { ended with notices := s.link.notices.tail ++ if r.marked then s.link.notices.head?.toList else [] }
      | .empty => ended } := by
  unfold State.endRead
  rw [h]
  dsimp only
  rw [if_pos rfl, ControlLink.sent, ← requeue_eq]
  cases r.source <;> rfl

/-- R186: a frame cut short, and a transaction that is no READ, leave both queues. -/
theorem endRead_of_cut {s : State} {complete : Bool} (h : complete = false ∨ s.link.reading = none) :
    s.endRead complete = { s with link := { s.link with reading := none, writing := false } } := by
  unfold State.endRead
  split
  · rename_i r reading
    rw [h.resolve_right (by rw [reading]; exact Option.some_ne_none r)]
    rfl
  · rfl

theorem endRead_of_idle {s : State} (complete : Bool) (h : s.link.reading = none) :
    s.endRead complete = { s with link := { s.link with writing := false } } := by
  rw [endRead_of_cut (.inr h), ← h]

/-! ## The statement -/

/-- Settles O32: the frame by `outboundFrame_eq`, its bytes on SDO by the rules of `ControlLink.sdo`, the ends by their three courses. -/
theorem readTransactionSendsOneEntry : Obligations.ReadTransactionSendsOneEntry := by
  unfold Obligations.ReadTransactionSendsOneEntry
  intro s high v settled chosen
  have taken : v.outboundFrame = chosen := outboundFrame_eq v
  clear_value chosen
  subst taken
  have high' : v.rstnLow = false := settled ▸ s.settle_outside.rstnLow.trans high
  have sent (t : State) (low : t.rstnLow = v.rstnLow) (n : Nat) : t.sdo n = some (t.link.sdo n) :=
    State.sdo_of_high (low.trans high') n
  have meant (f : State → State) : s.event f = f v := settled ▸ State.event_of_high high f
  refine ⟨⟨v.beginRead, congrArg Host.Outcome.next (meant _), rfl, sent v.beginRead rfl 0, fun n => ?_⟩,
    fun type other => ⟨v.beginOther type, ?_, rfl, sent (v.beginOther type) rfl 0, fun n => ?_⟩, rfl, fun complete idle => ?_,
    fun r reading => ⟨?_, ?_⟩⟩
  · exact (sent v.beginRead rfl _).trans (congrArg some (ControlLink.sdo_of_read rfl n))
  · exact congrArg Host.Outcome.next ((meant _).trans (State.beginTransaction_other _ other))
  · exact (sent (v.beginOther type) rfl _).trans (congrArg some (ControlLink.sdo_of_other rfl n))
  · exact congrArg Host.Outcome.next ((meant _).trans (endRead_of_idle complete idle))
  · exact congrArg Host.Outcome.next ((meant _).trans (endRead_of_cut (.inl rfl)))
  · exact congrArg Host.Outcome.next ((meant _).trans (endRead_of_whole reading))

end Sys2Proof.Proofs
end

section
/-! PROOFS. The queries (11.3): the fields that each of them answers, and its refusals. -/

namespace Sys2Proof.Proofs

open Sys2Proof.Machine

/-! ## How a query is answered (R182) -/

theorem query_accepted {α : Type} {i : Instr} {s u : State} {kind tag : Byte} {x : Option α} {a : α}
    {f : State → α → Except Status (List Field)} {body : List Field} (takes : s.takesRequests) (opened : s.opened = u)
    (header : requestHeader i = some ⟨kind, tag, .either⟩)
    (meaning : exec i s = .next (s.request kind tag .either fun s => s.query x (f s))) (object : x = some a)
    (answer : f u a = .ok body) : AcceptedWith i s u body := by
  refine AcceptedWith.of takes header meaning rfl ?_
  simp only [opened, State.query, object, answer]

/-- R182: no object of that number, or none that the query's own rule answers for. -/
theorem query_refused {α : Type} {i : Instr} {s u : State} {kind tag : Byte} {st : Status} {x : Option α}
    {f : State → α → Except Status (List Field)} (takes : s.takesRequests) (opened : s.opened = u)
    (header : requestHeader i = some ⟨kind, tag, .either⟩)
    (meaning : exec i s = .next (s.request kind tag .either fun s => s.query x (f s)))
    (why : x = none ∧ st = .badArg ∨ ∃ a, x = some a ∧ f u a = .error st) : RefusedWith i st s := by
  refine RefusedWith.of takes header meaning rfl ?_
  obtain ⟨object, rfl⟩ | ⟨a, object, answer⟩ := why
  · simp only [State.query, object]
  · simp only [opened, State.query, object, answer]

/-! ## The fields that are computed -/

/-- R138: an offset stands for a block of its own sequence. -/
theorem holds_isSome (c : Machine.Channel) (q : Seq) :
    (c.holds q).isSome = decide ((c.ring[ringPlace q]).map RingBlock.seq = some q) := by
  rw [Channel.holds]
  cases c.ring[ringPlace q] with
  | none => rfl
  | some b => by_cases same : b.seq = q <;> simp [Option.filter, same]

theorem offsets_eq (c : Machine.Channel) : c.offsets = match c.nextSeq with
    | some e => (List.range 32).filter fun i : Nat =>
        decide ((c.ring[ringPlace (e + BitVec.ofNat 16 i)]).map RingBlock.seq = some (e + BitVec.ofNat 16 i))
    | none => [] := by
  unfold Channel.offsets
  cases c.nextSeq with
  | none => rfl
  | some e => exact List.filter_congr fun i _ => holds_isSome c _

/-- R56, R164. -/
theorem clipsInProgress_eq (s : State) (p : PortId) :
    s.clipsInProgress p = if s.blockCount.toNat % 100 = 0 then 0 else s.mix.clips[p] :=
  if_congr decide_eq_true_iff rfl rfl

/-- R155, R164: the report on a governed port. -/
theorem protectBody_of_governed {s : State} {p : PortId} (governed : s.ports[p].kind.governed = true) : s.protectBody p =
    let r := s.gov.records[p]
    let cap := if r.level = 0 then 4096 else if r.level = 1 then s.gov.config.cap1 else s.gov.config.cap2
    [.u32 s.blockCount.toNat, .u8 s.gov.config.mode.code, .u16 r.level, .u16 cap, .opt32 (some (s.blockCount.toNat / 100)),
      .opt32 (some r.peak), .tagged16 (some r.openings),
      .u16 (if s.blockCount.toNat % 100 = 0 then 0 else s.mix.clips[p]), .opt32 (r.last.map fun w => w.peak),
      .tagged16 (r.last.map fun w => w.openings), .opt16 (r.last.map fun w => w.clips)] ++
      (.u8 r.history.length :: r.history.flatMap fun n : Nat => [.u16 n]) := by
  unfold State.protectBody State.capOf State.protectionOf
  simp only [governed, if_true, lastFields_eq, clipsInProgress_eq, cap_eq]
  rfl

/-- R155, R164: the figures of a FIELD port are absent. -/
theorem protectBody_of_field {s : State} {p : PortId} (field : s.ports[p].kind = .field) : s.protectBody p =
    [.u32 s.blockCount.toNat, .u8 s.gov.config.mode.code, .u16 0, .u16 4096, .opt32 none, .opt32 none, .tagged16 none,
      .u16 (if s.blockCount.toNat % 100 = 0 then 0 else s.mix.clips[p]), .opt32 none, .tagged16 none, .opt16 none, .u8 0] := by
  unfold State.protectBody State.capOf State.protectionOf
  rw [field, clipsInProgress_eq]
  rfl

theorem protectQuery_of_listens {s : State} {p : PortId} (h : s.ports[p].kind.listens) :
    s.protectQuery p = .ok (s.protectBody p) := if_pos ((PortKind.hasOutput_iff _).2 h)

theorem routeQueryOf_number (a : Bool) (i : Fin 256) : routeQueryOf (if a then 0 else 1) i.val = some (a, i.val) := by
  unfold routeQueryOf
  cases a <;> exact if_pos i.isLt

theorem routeQueryOf_none {a i : Nat} (h : 2 ≤ a ∨ 256 ≤ i) : routeQueryOf a i = none := by
  unfold routeQueryOf
  split
  · rename_i active number
    refine if_neg fun few => ?_
    have known : a < 2 := by
      unfold activeSetOf at number
      split at number
      · decide
      · decide
      · cases number
    exact h.elim (Nat.not_le_of_lt known) (Nat.not_le_of_lt few)
  · rfl

/-! ## The statement -/

/-- Settles O37: each query's body is the list that its rule gives, field by field; the refusals by the number or the port's kind. -/
theorem queriesReportAndChangeNothing : Obligations.QueriesReportAndChangeNothing := by
  unfold Obligations.QueriesReportAndChangeNothing
  intro s tag takes u opened
  dsimp only
  have range {n i : Nat} (h : n ≤ i) : objectNumber n i = none := objectNumber_eq_none.2 h
  refine ⟨fun p => ?_, fun d => ?_, fun k => ⟨u.linkOwned k, u.linkOwned_iff k, ?_⟩, fun g => ?_, fun p e kind list => ?_,
    fun c => ⟨u.fieldPort c, fun p => (fieldPort_eq_some_iff u c p).1, fun none bound => ?_, ?_⟩,
    fun p => ⟨fun governed => ?_, fun field => ?_⟩, fun a i => ?_, fun n h => ⟨?_, ?_, ?_⟩, fun n h => ?_, fun n h => ?_,
    fun n h => ?_, fun n h => ?_, fun a i h => ?_, fun p => ⟨fun kind => ?_, fun kind => ?_⟩⟩
  · exact query_accepted takes opened rfl rfl (objectNumber_val p) rfl
  · exact query_accepted takes opened rfl rfl (endpointOf_code d) rfl
  · exact query_accepted takes opened rfl rfl (objectNumber_val k) rfl
  · exact query_accepted takes opened rfl rfl (objectNumber_val g) rfl
  · refine query_accepted takes opened rfl rfl (objectNumber_val p) ?_
    rw [State.earpieceQuery, if_pos kind, list]
    rfl
  · rw [← State.fieldPort_isSome_iff, none] at bound
    cases bound
  · refine query_accepted takes opened rfl rfl (objectNumber_val c) ?_
    rw [State.channelBody, callKeyOf_eq, offsets_eq]
    rfl
  · refine query_accepted takes opened rfl rfl (objectNumber_val p) ?_
    have listens : u.ports[p].kind.listens := governed.imp_right .inl
    rw [protectQuery_of_listens listens, protectBody_of_governed ((PortKind.governed_iff _).2 governed)]
  · refine query_accepted takes opened rfl rfl (objectNumber_val p) ?_
    rw [protectQuery_of_listens (.inr (.inr field)), protectBody_of_field field]
  · refine query_accepted takes opened rfl rfl (routeQueryOf_number a i) ?_
    rw [State.routesBody]
    rfl
  · exact query_refused takes opened rfl rfl (.inl ⟨range h, rfl⟩)
  · exact query_refused takes opened rfl rfl (.inl ⟨range h, rfl⟩)
  · exact query_refused takes opened rfl rfl (.inl ⟨range h, rfl⟩)
  · exact query_refused takes opened rfl rfl (.inl ⟨endpointOf_none h, rfl⟩)
  · exact query_refused takes opened rfl rfl (.inl ⟨range h, rfl⟩)
  · exact query_refused takes opened rfl rfl (.inl ⟨range h, rfl⟩)
  · exact query_refused takes opened rfl rfl (.inl ⟨range h, rfl⟩)
  · exact query_refused takes opened rfl rfl (.inl ⟨routeQueryOf_none h, rfl⟩)
  · exact query_refused takes opened rfl rfl (.inr ⟨p, objectNumber_val p, if_neg kind⟩)
  · refine query_refused takes opened rfl rfl (.inr ⟨p, objectNumber_val p, if_neg ?_⟩)
    exact mt (PortKind.hasOutput_iff _).1 kind

end Sys2Proof.Proofs
end

section
/-! PROOFS. Request frames (11.1, 11.2, 11.8.2, 11.8.3): every field is read back from its bytes, and so is every request. -/

namespace Sys2Proof.Proofs

open Sys2Proof.Machine

/-! ## Fields (R189) -/

theorem toNat_byteOf {n : Nat} (fits : fits8 n = true) : (byteOf n).toNat = n := by
  rw [byteOf, BitVec.toNat_ofNat]
  exact Nat.mod_eq_of_lt (of_decide_eq_true fits)

theorem be16_bytes {n : Nat} (fits : fits16 n = true) : be16 (byteOf (n / 256)) (byteOf n) = n := by
  have small : n < 65536 := of_decide_eq_true fits
  simp only [be16, byteOf, BitVec.toNat_ofNat]
  omega

theorem be32_bytes {n : Nat} (small : n < 4294967296) :
    be32 (byteOf (n / 16777216)) (byteOf (n / 65536)) (byteOf (n / 256)) (byteOf n) = n := by
  simp only [be32, byteOf, BitVec.toNat_ofNat]
  omega

theorem word16_bits (x : BitVec 16) : word16 (x.extractLsb' 8 8) (x.extractLsb' 0 8) = x := by
  rw [extractLsb'_eq_byteOf, extractLsb'_eq_byteOf, pow_zero, Nat.div_one]
  exact word16_octets x

/-- R189: all ones stand for a field that is absent. -/
theorem orAbsent_getD {ones : Nat} {o : Option Nat} (fits : optFits ones o = true) : orAbsent ones (o.getD ones) = o := by
  cases o with
  | none => exact if_pos rfl
  | some n => exact if_neg (Nat.ne_of_lt (of_decide_eq_true fits))

theorem getD_lt_of_optFits {ones : Nat} {o : Option Nat} (fits : optFits ones o = true) : o.getD ones < ones + 1 := by
  cases o with
  | none => exact Nat.lt_succ_self _
  | some n => exact Nat.lt_succ_of_lt (of_decide_eq_true fits)

theorem opt8_byte {o : Option Nat} (fits : opt8Fits o = true) : opt8 (byteOf (o.getD 255)) = o := by
  rw [opt8, toNat_byteOf (decide_eq_true (getD_lt_of_optFits fits)), orAbsent_getD fits]

theorem opt16_bytes {o : Option Nat} (fits : opt16Fits o = true) :
    opt16 (byteOf (o.getD 65535 / 256)) (byteOf (o.getD 65535)) = o := by
  rw [opt16, be16_bytes (decide_eq_true (getD_lt_of_optFits fits)), orAbsent_getD fits]

theorem opt32_bytes {o : Option Nat} (fits : opt32Fits o = true) :
    opt32 (byteOf (o.getD 4294967295 / 16777216)) (byteOf (o.getD 4294967295 / 65536)) (byteOf (o.getD 4294967295 / 256))
      (byteOf (o.getD 4294967295)) = o := by
  rw [opt32, be32_bytes (getD_lt_of_optFits fits), orAbsent_getD fits]

/-! ## Bodies (11.8.3) -/

/-- 11.8.3: an operation, or a target type, that is not 0. -/
theorem toNat_byteOf_ne_zero {n : Nat} (fits : fits8 n = true) (nonzero : (n != 0) = true) : (byteOf n).toNat ≠ 0 := by
  rw [toNat_byteOf fits]
  exact bne_iff_ne.1 nonzero

theorem map_toNat_byteOf {ns : List Nat} (fits : ns.all fits8 = true) : (ns.map byteOf).map BitVec.toNat = ns := by
  rw [List.map_map]
  exact (List.map_congr_left fun n mem => toNat_byteOf (List.all_eq_true.1 fits n mem)).trans (List.map_id ns)

/-- 11.8.3: the body that a well-formed request makes is read back as that request. -/
theorem decodeBody_of_encodeBody {i : Instr} (fits : i.wellFormed = true) {kind tag : Byte} {body : List Byte}
    (h : encodeBody i = some (kind, tag, body)) : decodeBody kind tag body = some i := by
  cases i with
  | start | stop | restart | routeCopy | swap | notify | resync => cases h; rfl
  | checkStop | queryPort | queryPaths | queryGroup | queryEarpiece | queryChannel | queryProtect =>
      cases h
      refine congrArg some ?_
      rw [toNat_byteOf fits]
  | press | release | queryKey =>
      cases h
      refine congrArg some ?_
      rw [be16_bytes fits]
  | channelClose =>
      cases h
      refine congrArg some ?_
      rw [toNat_byteOf fits]
  | keyRemove =>
      cases h
      refine congrArg some ?_
      rw [be16_bytes fits]
  | port =>
      cases h
      simp only [Instr.wellFormed, Bool.and_eq_true] at fits
      obtain ⟨⟨⟨⟨p, k⟩, i⟩, o⟩, c⟩ := fits
      refine congrArg some ?_
      rw [toNat_byteOf p, toNat_byteOf k, opt8_byte i, opt8_byte o, opt8_byte c]
  | channel =>
      cases h
      simp only [Instr.wellFormed, Bool.and_eq_true] at fits
      obtain ⟨⟨⟨⟨⟨c, op⟩, nonzero⟩, prime⟩, delay⟩, key⟩ := fits
      refine (if_neg (toNat_byteOf_ne_zero op nonzero)).trans (congrArg some ?_)
      rw [toNat_byteOf c, toNat_byteOf op, word16_bits, opt8_byte prime, opt16_bytes delay, opt16_bytes key]
  | filter =>
      cases h
      simp only [Instr.wellFormed, Bool.and_eq_true] at fits
      obtain ⟨⟨f, e⟩, c⟩ := fits
      refine congrArg some ?_
      rw [toNat_byteOf f, toNat_byteOf e, word16_bits, word16_bits, toNat_byteOf c]
  | governor =>
      cases h
      simp only [Instr.wellFormed, Bool.and_eq_true] at fits
      obtain ⟨⟨⟨⟨⟨mode, low⟩, mid⟩, cap1⟩, cap2⟩, limit⟩ := fits
      refine congrArg some ?_
      rw [toNat_byteOf mode, opt32_bytes low, opt32_bytes mid, opt16_bytes cap1, opt16_bytes cap2, opt16_bytes limit]
  | trim =>
      cases h
      simp only [Instr.wellFormed, Bool.and_eq_true] at fits
      obtain ⟨⟨p, trim⟩, dip⟩ := fits
      refine congrArg some ?_
      rw [toNat_byteOf p, be16_bytes trim, opt16_bytes dip]
  | key =>
      cases h
      simp only [Instr.wellFormed, Bool.and_eq_true] at fits
      obtain ⟨⟨⟨⟨⟨⟨⟨k, owner⟩, type⟩, nonzero⟩, number⟩, level⟩, priority⟩, mode⟩ := fits
      refine (if_neg (toNat_byteOf_ne_zero type nonzero)).trans (congrArg some ?_)
      rw [be16_bytes k, toNat_byteOf owner, toNat_byteOf type, toNat_byteOf number, opt16_bytes level, opt8_byte priority,
        opt8_byte mode]
  | group =>
      cases h
      simp only [Instr.wellFormed, Bool.and_eq_true, decide_eq_true_eq] at fits
      obtain ⟨⟨⟨⟨g, mode⟩, timeout⟩, few⟩, members⟩ := fits
      refine (if_pos ?_).trans (congrArg some ?_)
      · rw [List.length_map, toNat_byteOf (decide_eq_true (Nat.lt_of_le_of_lt few (by decide)))]
      · rw [toNat_byteOf g, toNat_byteOf mode, opt16_bytes timeout, map_toNat_byteOf members]
  | presence =>
      cases h
      simp only [Instr.wellFormed, Bool.and_eq_true] at fits
      refine congrArg some ?_
      rw [toNat_byteOf fits.1, toNat_byteOf fits.2]
  | routeAdd =>
      cases h
      simp only [Instr.wellFormed, Bool.and_eq_true] at fits
      obtain ⟨⟨⟨src, dst⟩, cls⟩, level⟩ := fits
      refine congrArg some ?_
      rw [toNat_byteOf src, toNat_byteOf dst, toNat_byteOf cls, opt16_bytes level]
  | routeDrop =>
      cases h
      simp only [Instr.wellFormed, Bool.and_eq_true] at fits
      obtain ⟨⟨src, dst⟩, cls⟩ := fits
      refine congrArg some ?_
      rw [toNat_byteOf src, toNat_byteOf dst, toNat_byteOf cls]
  | cueSend =>
      cases h
      simp only [Instr.wellFormed, Bool.and_eq_true] at fits
      refine congrArg some ?_
      rw [toNat_byteOf fits.1, be16_bytes fits.2]
  | checkStart =>
      cases h
      simp only [Instr.wellFormed, Bool.and_eq_true] at fits
      obtain ⟨⟨c, duration⟩, forward⟩ := fits
      refine congrArg some ?_
      rw [toNat_byteOf c, opt16_bytes duration, opt8_byte forward]
  | queryRoutes =>
      cases h
      simp only [Instr.wellFormed, Bool.and_eq_true] at fits
      refine congrArg some ?_
      rw [toNat_byteOf fits.1, be16_bytes fits.2]
  | _ => cases h

/-- 11.8.3: a body's length, with the kind and the tag, fits the length byte. -/
theorem encodeBody_length {i : Instr} (fits : i.wellFormed = true) {kind tag : Byte} {body : List Byte}
    (h : encodeBody i = some (kind, tag, body)) : body.length + 2 < 256 := by
  cases i with
  | group g m w ms =>
      cases h
      simp only [Instr.wellFormed, Bool.and_eq_true, decide_eq_true_eq] at fits
      obtain ⟨⟨-, few⟩, -⟩ := fits
      simp only [optBytes16, bytes16, List.cons_append, List.nil_append, List.length_cons, List.length_map]
      omega
  | _ => cases h <;> exact of_decide_eq_true rfl

/-! ## Frames and transactions (R176, R178) -/

/-- R178: a whole frame whose body can be read. -/
theorem takeFrame_of_body {kind tag : Byte} {body : List Byte} {i : Instr} (short : body.length + 2 < 256)
    (read : decodeBody kind tag body = some i) : takeFrame (byteOf (body.length + 2) :: kind :: tag :: body) = some i := by
  have length : (byteOf (body.length + 2)).toNat = (kind :: tag :: body).length := toNat_byteOf (decide_eq_true short)
  dsimp only [takeFrame]
  rw [length, if_neg (Nat.lt_irrefl _), List.take_length]
  dsimp only
  rw [read]
  rfl

theorem encodeBody_isSome {i : Instr} (h : (requestHeader i).isSome ∨ ∃ tag, i = .restart tag) : (encodeBody i).isSome := by
  obtain isRequest | ⟨tag, rfl⟩ := h
  · cases i with
    | resetInput | badFrame | readTransaction | otherTransaction | blockBoundary | concealLimit | channelIdleLimit | channelDrop
    | channelRecovery | checkCompletion | pathRemoval | waitTimeout | windowEnd | swapJudgement | clockLost | clockPresent
    | audioFrameArrival | cueFrameArrival | malformedLinkFrame | linkFrameBegin | linkFrameSent | frameSync
    | readTransactionEnd => cases isRequest
    | _ => rfl
  · rfl

/-- Settles O57: the body is read back by `decodeBody_of_encodeBody`, its length fits the length byte, and a WRITE carries one frame. -/
theorem requestFramesDecodeToTheirRequests : Obligations.RequestFramesDecodeToTheirRequests := by
  unfold Obligations.RequestFramesDecodeToTheirRequests
  refine fun i fits => ⟨fun isRequest => ?_, fun bytes frame => ?_⟩
  · rw [encodeFrame, Option.isSome_map]
    exact encodeBody_isSome isRequest
  · obtain ⟨⟨kind, tag, body⟩, encoded, rfl⟩ := Option.map_eq_some_iff.1 frame
    have read := takeFrame_of_body (encodeBody_length fits encoded) (decodeBody_of_encodeBody fits encoded)
    refine ⟨read, ?_⟩
    exact congrArg (fun request : Option Instr => [Instr.otherTransaction 0x3C] ++ request.toList) read

end Sys2Proof.Proofs
end

section
/-! PROOFS. Settling (0.3.2): it takes the due steps as their commands would, in the default order. -/

namespace Sys2Proof.Proofs

open Sys2Proof.Machine

/-! ## Commands one after another -/

theorem commanded_cons {c : Instr} {s t : State} (h : exec c s = .next t) (cs : List Instr) :
    s.commanded (c :: cs) = t.commanded cs := by
  rw [State.commanded, List.foldl_cons, h]
  rfl

theorem commanded_nil (s : State) : s.commanded [] = s := rfl

theorem commanded_append (cs ds : List Instr) (s : State) : s.commanded (cs ++ ds) = (s.commanded cs).commanded ds :=
  List.foldl_append ..

/-- The commands of several objects, object by object. -/
theorem commanded_flatMap {α : Type} {cs : α → List Instr} {f : α → State → State}
    (meaning : ∀ x (s : State), s.rstnLow = false → s.commanded (cs x) = f x s) (outside : ∀ x (s : State), s.sameOutside (f x s))
    (xs : List α) {s : State} (high : s.rstnLow = false) : s.commanded (xs.flatMap cs) = xs.foldl (fun s x => f x s) s := by
  induction xs generalizing s with
  | nil => rfl
  | cons x xs ih => rw [List.flatMap_cons, commanded_append, meaning x s high, ih ((outside x s).rstnLow.trans high), List.foldl_cons]

/-- The own steps of several objects, one command each. -/
theorem commanded_map {α : Type} {c : α → Instr} {f : α → State → State} (meaning : ∀ x s, exec (c x) s = .next (s.ownStep (f x)))
    (outside : ∀ x (s : State), s.sameOutside (f x s)) (xs : List α) {s : State} (high : s.rstnLow = false) :
    s.commanded (xs.map c) = xs.foldl (fun s x => f x s) s := by
  rw [List.map_eq_flatMap]
  refine commanded_flatMap (fun x s high => ?_) outside xs high
  rw [commanded_cons ((meaning x s).trans (congrArg _ (State.ownStep_of_high high _))), commanded_nil]

/-! ## The own steps as commands -/

theorem takeDrop_outside (ch : ChanId) (s : State) : s.sameOutside (s.takeDrop ch) := by
  unfold State.takeDrop
  split
  · exact s.endWindow_outside.trans (State.leaveLive_outside _ _ _ _)
  · exact s.sameOutside_refl

theorem takeIdleLimit_outside (ch : ChanId) (s : State) : s.sameOutside (s.takeIdleLimit ch) := by
  unfold State.takeIdleLimit
  split
  · exact s.endWindow_outside.trans (State.leaveLive_outside _ _ _ _)
  · exact s.sameOutside_refl

theorem takeConcealLimit_outside (ch : ChanId) (s : State) : s.sameOutside (s.takeConcealLimit ch) := by
  unfold State.takeConcealLimit
  split
  · exact State.putChannel_outside _ _ _
  · exact s.sameOutside_refl

theorem takeRecovery_outside (ch : ChanId) (s : State) : s.sameOutside (s.takeRecovery ch) := by
  unfold State.takeRecovery
  split
  · exact State.putChannel_outside _ _ _
  · exact s.sameOutside_refl

/-- A command is one of the device's own steps: its meaning is `f`, which leaves a quiet state as it is (log 38). -/
structure OwnStep (c : Instr) (f : State → State) : Prop where
  meaning : ∀ s, exec c s = .next (s.ownStep f)
  outside : ∀ s : State, s.sameOutside (f s)
  quiet : ∀ s : State, s.stepsQuiet = true → f s = s

theorem channelQuiet_iff (s : State) (ch : ChanId) : s.channelQuiet ch = true ↔ s.rx.channels[ch].dropDue = false ∧
    s.rx.channels[ch].idleDue = false ∧ s.rx.channels[ch].concealDue = false ∧ s.rx.channels[ch].recoveryDue = false ∧
    s.completionDue ch = false := by
  simp only [State.channelQuiet, Bool.and_eq_true, Bool.not_eq_true', and_assoc]

theorem due_of_stepsQuiet {s : State} (quiet : s.stepsQuiet = true) (ch : ChanId) : s.rx.channels[ch].dropDue = false ∧
    s.rx.channels[ch].idleDue = false ∧ s.rx.channels[ch].concealDue = false ∧ s.rx.channels[ch].recoveryDue = false ∧
    s.completionDue ch = false := by
  obtain ⟨-, channels, -⟩ := (stepsQuiet_iff s).1 quiet
  exact (channelQuiet_iff s ch).1 (channels ch)

theorem ownStep_windowEnd : OwnStep .windowEnd State.endWindow :=
  ⟨fun _ => rfl, State.endWindow_outside, fun _ quiet => endWindow_of_not_due ((stepsQuiet_iff _).1 quiet).1⟩

theorem ownStep_pathRemoval (i : Fin 512) : OwnStep (.pathRemoval i) (State.takeRemoval i.val) := by
  refine ⟨fun _ => rfl, State.removeSpent_outside _, fun s quiet => ?_⟩
  obtain ⟨-, -, unspent, -⟩ := (stepsQuiet_iff s).1 quiet
  exact removeSpent_of_none unspent _

theorem ownStep_channelDrop (ch : ChanId) : OwnStep (.channelDrop ch) (State.takeDrop ch) := by
  refine ⟨fun _ => rfl, takeDrop_outside ch, fun s quiet => ?_⟩
  obtain ⟨drop, -⟩ := due_of_stepsQuiet quiet ch
  exact State.takeDrop_of_not_due drop

theorem ownStep_channelIdleLimit (ch : ChanId) : OwnStep (.channelIdleLimit ch) (State.takeIdleLimit ch) := by
  refine ⟨fun _ => rfl, takeIdleLimit_outside ch, fun s quiet => ?_⟩
  obtain ⟨-, idle, -⟩ := due_of_stepsQuiet quiet ch
  exact State.takeIdleLimit_of_not_due idle

theorem ownStep_concealLimit (ch : ChanId) : OwnStep (.concealLimit ch) (State.takeConcealLimit ch) := by
  refine ⟨fun _ => rfl, takeConcealLimit_outside ch, fun s quiet => ?_⟩
  obtain ⟨-, -, conceal, -⟩ := due_of_stepsQuiet quiet ch
  exact State.takeConcealLimit_of_not_due conceal

theorem ownStep_channelRecovery (ch : ChanId) : OwnStep (.channelRecovery ch) (State.takeRecovery ch) := by
  refine ⟨fun _ => rfl, takeRecovery_outside ch, fun s quiet => ?_⟩
  obtain ⟨-, -, -, recovery, -⟩ := due_of_stepsQuiet quiet ch
  exact State.takeRecovery_of_not_due recovery

theorem ownStep_checkCompletion (ch : ChanId) : OwnStep (.checkCompletion ch) (State.takeCompletion ch) := by
  refine ⟨fun _ => rfl, State.takeCompletion_outside ch, fun s quiet => ?_⟩
  obtain ⟨-, -, -, -, completion⟩ := due_of_stepsQuiet quiet ch
  exact State.takeCompletion_of_not_due completion

theorem takeTimeout_outside (k : KeyId) (s : State) : s.sameOutside (s.takeTimeout k) :=
  (State.takeTimeout_changes k s).sameOutside

theorem ownStep_waitTimeout (k : KeyId) : OwnStep (.waitTimeout k) (State.takeTimeout k) := by
  refine ⟨fun _ => rfl, takeTimeout_outside k, fun s quiet => ?_⟩
  obtain ⟨-, -, -, groups, -⟩ := (stepsQuiet_iff s).1 quiet
  exact State.takeTimeout_of_not_due fun g => timeoutDue_of_quiet (groups g) k

theorem ownStep_swapJudgement : OwnStep .swapJudgement State.takeJudgement := by
  refine ⟨fun _ => rfl, State.takeJudgement_outside, fun s quiet => ?_⟩
  obtain ⟨-, -, -, -, judgement⟩ := (stepsQuiet_iff s).1 quiet
  exact takeJudgement_of_not_due judgement

theorem OwnStep.of_high {c : Instr} {f : State → State} (own : OwnStep c f) {s : State} (high : s.rstnLow = false) :
    exec c s = .next (f s) := (own.meaning s).trans (congrArg _ (State.ownStep_of_high high f))

theorem mem_stepsBeforeTimeouts {c : Instr} : c ∈ stepsBeforeTimeouts ↔ c = .windowEnd ∨ (∃ i, .pathRemoval i = c) ∨
    (∃ ch : ChanId, c = .channelDrop ch ∨ c = .channelIdleLimit ch ∨ c = .concealLimit ch ∨ c = .channelRecovery ch) ∨
    ∃ ch, .checkCompletion ch = c := by
  simp only [stepsBeforeTimeouts, List.mem_append, List.mem_cons, List.mem_map, List.mem_flatMap, List.mem_finRange, true_and,
    List.not_mem_nil, or_false, or_assoc]

theorem mem_ownSteps {c : Instr} : c ∈ ownSteps ↔ c ∈ stepsBeforeTimeouts ∨ (∃ k, .waitTimeout k = c) ∨ c = .swapJudgement := by
  simp only [ownSteps, List.mem_append, List.mem_map, List.mem_finRange, true_and, List.mem_singleton, or_assoc]

theorem ownStep_of_mem {c : Instr} (mem : c ∈ ownSteps) : ∃ f, OwnStep c f := by
  rw [mem_ownSteps, mem_stepsBeforeTimeouts] at mem
  obtain (rfl | ⟨i, rfl⟩ | ⟨ch, rfl | rfl | rfl | rfl⟩ | ⟨ch, rfl⟩) | ⟨k, rfl⟩ | rfl := mem
  · exact ⟨_, ownStep_windowEnd⟩
  · exact ⟨_, ownStep_pathRemoval i⟩
  · exact ⟨_, ownStep_channelDrop ch⟩
  · exact ⟨_, ownStep_channelIdleLimit ch⟩
  · exact ⟨_, ownStep_concealLimit ch⟩
  · exact ⟨_, ownStep_channelRecovery ch⟩
  · exact ⟨_, ownStep_checkCompletion ch⟩
  · exact ⟨_, ownStep_waitTimeout k⟩
  · exact ⟨_, ownStep_swapJudgement⟩

/-! ## The steps before the timeouts -/

/-- R30: removals one after another are one removal. -/
theorem removeSpent_removeSpent (f g : Path → Bool) (s : State) :
    (s.removeSpent f).removeSpent g = s.removeSpent fun p => f p || g p := by
  have one (p : Path) : (!(p.spent && g p) && !(p.spent && f p)) = !(p.spent && (f p || g p)) := by
    cases p.spent <;> cases f p <;> cases g p <;> rfl
  simp only [State.removeSpent, List.filter_filter, one]

theorem removeSpent_congr {f g : Path → Bool} {s : State} (h : ∀ p ∈ s.paths, f p = g p) : s.removeSpent f = s.removeSpent g := by
  rw [State.removeSpent, State.removeSpent, List.filter_congr fun p mem => by rw [h p mem]]

theorem foldl_takeRemoval (ps : List (Fin 512)) (s : State) :
    ps.foldl (fun s i => s.takeRemoval i.val) s = s.removeSpent fun p => ps.any fun i => decide (p.pos = i.val) := by
  induction ps generalizing s with
  | nil =>
      rw [List.foldl_nil, State.removeSpent, List.filter_eq_self.2 fun p _ => by rw [List.any_nil, Bool.and_false]; rfl]
  | cons i ps ih => rw [List.foldl_cons, ih, State.takeRemoval, removeSpent_removeSpent]; rfl

/-- What settling's steps leave before the timeouts. -/
def beforeTimeouts (s : State) : State :=
  (List.finRange 8).foldl (fun s ch => s.takeCompletion ch)
    ((List.finRange 8).foldl (fun s ch => s.settleChannel ch) (s.endWindow.removeSpent fun _ => true))

theorem settleSteps_eq (s : State) : s.settleSteps =
    ((List.finRange 32).foldl (fun s g => s.takeTimeouts g) (beforeTimeouts s)).takeJudgement := rfl

theorem beforeTimeouts_outside (s : State) : s.sameOutside (beforeTimeouts s) := by
  refine State.sameOutside.trans ?_ (State.sameOutside_foldl _ (fun s ch => s.takeCompletion_outside ch) _ _)
  refine State.sameOutside.trans ?_ (State.sameOutside_foldl _ (fun s ch => s.settleChannel_outside ch) _ _)
  exact s.endWindow_outside.trans (State.removeSpent_outside _ _)

/-- R30: in a table of positions below 512 the removals of all positions leave no spent record. -/
theorem foldl_takeRemoval_all {s : State} (small : ∀ p ∈ s.paths, p.pos < 512) :
    (List.finRange 512).foldl (fun s i => s.takeRemoval i.val) s = s.removeSpent fun _ => true := by
  rw [foldl_takeRemoval]
  exact removeSpent_congr fun p mem => List.any_eq_true.2 ⟨⟨p.pos, small p mem⟩, List.mem_finRange _, decide_eq_true rfl⟩

theorem commanded_one {c : Instr} {f : State → State} (own : OwnStep c f) {s : State} (high : s.rstnLow = false)
    (cs : List Instr) : s.commanded (c :: cs) = (f s).commanded cs := commanded_cons (own.of_high high) cs

theorem commanded_channel (ch : ChanId) {s : State} (high : s.rstnLow = false) :
    s.commanded [.channelDrop ch, .channelIdleLimit ch, .concealLimit ch, .channelRecovery ch] = s.settleChannel ch := by
  have drop := (takeDrop_outside ch s).rstnLow.trans high
  have idle := (takeIdleLimit_outside ch (s.takeDrop ch)).rstnLow.trans drop
  have conceal := (takeConcealLimit_outside ch ((s.takeDrop ch).takeIdleLimit ch)).rstnLow.trans idle
  rw [commanded_one (ownStep_channelDrop ch) high, commanded_one (ownStep_channelIdleLimit ch) drop,
    commanded_one (ownStep_concealLimit ch) idle, commanded_one (ownStep_channelRecovery ch) conceal, commanded_nil,
    State.settleChannel]

/-- The window end, the removals, the channels and the completions, as commands. -/
theorem commanded_stepsBeforeTimeouts {s : State} (high : s.rstnLow = false) (small : ∀ p ∈ s.paths, p.pos < 512) :
    s.commanded stepsBeforeTimeouts = beforeTimeouts s := by
  have window : s.endWindow.rstnLow = false := s.endWindow_outside.rstnLow.trans high
  have paths : s.endWindow.paths = s.paths := by
    obtain ⟨gov, mix, link, eq⟩ := endWindow_eq s
    rw [eq]
  have removed : (s.endWindow.removeSpent fun _ => true).rstnLow = false := window
  have channels : ((List.finRange 8).foldl (fun s ch => s.settleChannel ch) (s.endWindow.removeSpent fun _ => true)).rstnLow =
      false :=
    (State.sameOutside_foldl _ (fun s ch => s.settleChannel_outside ch) _ _).rstnLow.trans removed
  have first : s.commanded (.windowEnd :: (List.finRange 512).map Instr.pathRemoval) = s.endWindow.removeSpent fun _ => true := by
    rw [commanded_one ownStep_windowEnd high,
      commanded_map (fun i => (ownStep_pathRemoval i).meaning) (fun i => (ownStep_pathRemoval i).outside) _ window]
    exact foldl_takeRemoval_all (by rw [paths]; exact small)
  unfold stepsBeforeTimeouts
  rw [commanded_append, commanded_append, first,
    commanded_flatMap (fun ch _ => commanded_channel ch) (fun ch s => s.settleChannel_outside ch) _ removed]
  exact commanded_map (fun ch => (ownStep_checkCompletion ch).meaning) (fun ch => (ownStep_checkCompletion ch).outside) _ channels

/-! ## The timeouts (R92) -/

/-- From `v` to `w` waiters have only left their queues, each without a deadline from then on. -/
def OnlyLeft (v w : State) : Prop := ∀ g : GroupId, ∃ stays : KeyId → Bool,
  w.groups[g].waiters = v.groups[g].waiters.filter stays ∧ ∀ k : KeyId, stays k = false → w.keys[k].deadline = none

theorem OnlyLeft.refl (v : State) : OnlyLeft v v := fun _ => ⟨fun _ => true, (List.filter_eq_self.2 fun _ _ => rfl).symm, fun _ no => by cases no⟩

theorem takeTimeout_cases (k : KeyId) (s : State) : s.takeTimeout k = s ∨ ∃ g, s.takeTimeout k = s.timeOut g k := by
  unfold State.takeTimeout
  split
  · split
    · exact .inr ⟨_, rfl⟩
    · exact .inl rfl
  · exact .inl rfl

theorem timeOut_deadline (g : GroupId) (k j : KeyId) (s : State) :
    (s.timeOut g k).keys[j].deadline = if k = j then none else s.keys[j].deadline := by
  rw [timeOut_eq, State.report_keys]
  have set := tableSet_get s.keys k j { s.keys[k] with
    deadline := none, entries := s.keys[k].entries ++ [⟨none, .denied .timeout⟩] }
  refine (congrArg KeyRecord.deadline set).trans ?_
  split <;> rfl

theorem timeOut_waiters (g h : GroupId) (k : KeyId) (s : State) : (s.timeOut g k).groups[h].waiters =
    if g = h then s.groups[h].waiters.filter fun x => decide (x ≠ k) else s.groups[h].waiters := by
  rw [timeOut_eq, State.report_groups]
  have set := tableSet_get s.groups g h { s.groups[g] with waiters := s.groups[g].waiters.filter fun x => decide (x ≠ k) }
  refine (congrArg GroupRecord.waiters set).trans ?_
  split
  · rename_i same; rw [same]
  · rfl

/-- R92: a key without a deadline stays without one. -/
theorem takeTimeout_deadline {j : KeyId} {s : State} (k : KeyId) (h : s.keys[j].deadline = none) :
    (s.takeTimeout k).keys[j].deadline = none := by
  obtain same | ⟨g, left⟩ := takeTimeout_cases k s
  · rw [same]; exact h
  · rw [left, timeOut_deadline, h, ite_self]

theorem takeTimeout_of_no_deadline {k : KeyId} {s : State} (h : s.keys[k].deadline = none) : s.takeTimeout k = s := by
  refine State.takeTimeout_of_not_due fun g => Bool.eq_false_iff.2 fun due => ?_
  obtain ⟨-, -, deadline⟩ := (timeoutDue_iff s g k).1 due
  rw [h] at deadline
  cases deadline

theorem OnlyLeft.takeTimeout {v w : State} (h : OnlyLeft v w) (k : KeyId) : OnlyLeft v (w.takeTimeout k) := by
  obtain same | ⟨g, left⟩ := takeTimeout_cases k w
  · rw [same]; exact h
  · intro g'
    obtain ⟨stays, waiters, gone⟩ := h g'
    rw [left]
    have keeps (j : KeyId) (no : stays j = false) : (w.timeOut g k).keys[j].deadline = none := by
      rw [timeOut_deadline, gone j no, ite_self]
    rw [timeOut_waiters, waiters]
    split
    · refine ⟨fun j => decide (j ≠ k) && stays j, List.filter_filter, fun j no => ?_⟩
      obtain leaves | no := Bool.and_eq_false_iff.1 no
      · have same : j = k := not_not.1 (of_decide_eq_false leaves)
        rw [timeOut_deadline, if_pos same.symm]
      · exact keeps j no
    · exact ⟨stays, rfl, keeps⟩

theorem OnlyLeft.foldl {v w : State} (h : OnlyLeft v w) (ks : List KeyId) :
    OnlyLeft v (ks.foldl (fun s k => s.takeTimeout k) w) := by
  induction ks generalizing w with
  | nil => exact h
  | cons k ks ih => exact ih (h.takeTimeout k)

/-- The waiters that have left are passed over without effect. -/
theorem foldl_takeTimeout_filter {stays : KeyId → Bool} (ks : List KeyId) {w : State}
    (gone : ∀ k : KeyId, stays k = false → w.keys[k].deadline = none) :
    (ks.filter stays).foldl (fun s k => s.takeTimeout k) w = ks.foldl (fun s k => s.takeTimeout k) w := by
  induction ks generalizing w with
  | nil => rfl
  | cons k ks ih =>
      rw [List.foldl_cons]
      cases stay : stays k with
      | true =>
          rw [List.filter_cons_of_pos stay, List.foldl_cons]
          exact ih fun j no => takeTimeout_deadline k (gone j no)
      | false =>
          rw [List.filter_cons_of_neg (by rw [stay]; exact Bool.false_ne_true), takeTimeout_of_no_deadline (gone k stay)]
          exact ih gone

/-- R92: the timeouts of every group by the queues that stood before the first of them (log 18). -/
theorem foldl_takeTimeouts {v w : State} (h : OnlyLeft v w) (gs : List GroupId) :
    gs.foldl (fun s g => s.takeTimeouts g) w =
      gs.foldl (fun s g => v.groups[g].waiters.foldl (fun s k => s.takeTimeout k) s) w := by
  induction gs generalizing w with
  | nil => rfl
  | cons g gs ih =>
      obtain ⟨stays, waiters, gone⟩ := h g
      have one : w.takeTimeouts g = v.groups[g].waiters.foldl (fun s k => s.takeTimeout k) w := by
        rw [State.takeTimeouts, waiters, foldl_takeTimeout_filter _ gone]
      rw [List.foldl_cons, List.foldl_cons, one]
      exact ih (h.foldl _)

theorem timeouts_outside (ks : List KeyId) (s : State) : s.sameOutside (ks.foldl (fun s k => s.takeTimeout k) s) :=
  State.sameOutside_foldl _ (fun s k => takeTimeout_outside k s) ks s

theorem commanded_timeoutsAndJudgement {v : State} (high : v.rstnLow = false) : v.commanded v.timeoutsAndJudgement =
    ((List.finRange 32).foldl (fun s g => s.takeTimeouts g) v).takeJudgement := by
  have timeouts : v.commanded ((List.finRange 32).flatMap fun g : GroupId => v.groups[g].waiters.map Instr.waitTimeout) =
      (List.finRange 32).foldl (fun s g => v.groups[g].waiters.foldl (fun s k => s.takeTimeout k) s) v :=
    commanded_flatMap (fun g s high =>
      commanded_map (fun k => (ownStep_waitTimeout k).meaning) (fun k => (ownStep_waitTimeout k).outside) _ high)
      (fun g s => timeouts_outside _ s) _ high
  have after : ((List.finRange 32).foldl (fun s g => v.groups[g].waiters.foldl (fun s k => s.takeTimeout k) s) v).rstnLow =
      false :=
    (State.sameOutside_foldl _ (fun s (g : GroupId) => timeouts_outside v.groups[g].waiters s) _ v).rstnLow.trans high
  rw [State.timeoutsAndJudgement, commanded_append, timeouts, commanded_one ownStep_swapJudgement after,
    foldl_takeTimeouts (.refl v)]
  rfl

/-- Settling's steps as commands in the default order. -/
theorem settleSteps_eq_commanded {s : State} (high : s.rstnLow = false) (small : ∀ p ∈ s.paths, p.pos < 512) :
    s.settleSteps = (s.commanded stepsBeforeTimeouts).commanded (s.commanded stepsBeforeTimeouts).timeoutsAndJudgement := by
  rw [commanded_stepsBeforeTimeouts high small,
    commanded_timeoutsAndJudgement ((beforeTimeouts_outside s).rstnLow.trans high), settleSteps_eq]

/-! ## One step alone -/

theorem commanded_of_idle {cs : List Instr} {s : State} (idle : ∀ d ∈ cs, exec d s = .next s) : s.commanded cs = s := by
  induction cs with
  | nil => rfl
  | cons c cs ih =>
      rw [commanded_cons (idle c List.mem_cons_self)]
      exact ih fun d mem => idle d (List.mem_cons_of_mem c mem)

/-- Of several commands only `c` has an effect, and none has one behind it. -/
theorem commanded_of_one {c : Instr} {s t : State} {cs : List Instr} (others : ∀ d ∈ cs, d ≠ c → exec d s = .next s)
    (own : exec c s = .next t) (idle : ∀ d ∈ cs, exec d t = .next t) : s.commanded cs = if c ∈ cs then t else s := by
  induction cs with
  | nil => rfl
  | cons d cs ih =>
      have later : ∀ e ∈ cs, exec e t = .next t := fun e mem => idle e (List.mem_cons_of_mem d mem)
      by_cases same : d = c
      · subst same
        rw [commanded_cons own, commanded_of_idle later, if_pos List.mem_cons_self]
      · rw [commanded_cons (others d List.mem_cons_self same), ih (fun e mem => others e (List.mem_cons_of_mem d mem)) later]
        exact if_congr (by rw [List.mem_cons, or_iff_right (Ne.symm same)]) rfl rfl

theorem mem_timeoutsAndJudgement {c : Instr} {v : State} : c ∈ v.timeoutsAndJudgement ↔
    (∃ (g : GroupId) (k : KeyId), k ∈ v.groups[g].waiters ∧ .waitTimeout k = c) ∨ c = .swapJudgement := by
  simp only [State.timeoutsAndJudgement, List.mem_append, List.mem_flatMap, List.mem_finRange, true_and, List.mem_map,
    List.mem_singleton]

theorem mem_ownSteps_of_timeouts {c : Instr} {v : State} (mem : c ∈ v.timeoutsAndJudgement) : c ∈ ownSteps :=
  mem_ownSteps.2 (.inr ((mem_timeoutsAndJudgement.1 mem).imp_left fun ⟨_, k, _, is⟩ => ⟨k, is⟩))

/-- R92: a key that waits nowhere does not time out. -/
theorem takeTimeout_of_not_waiting {k : KeyId} {s : State} (h : ∀ g : GroupId, k ∉ s.groups[g].waiters) : s.takeTimeout k = s :=
  State.takeTimeout_of_not_due fun g => Bool.eq_false_iff.2 fun due => by
    obtain ⟨-, waits, -⟩ := (timeoutDue_iff s g k).1 due
    exact h g waits

/-- An own step that settling does not command has no effect. -/
theorem exec_of_not_commanded {c : Instr} {s : State} (high : s.rstnLow = false) (mem : c ∈ ownSteps)
    (before : c ∉ stepsBeforeTimeouts) (after : c ∉ s.timeoutsAndJudgement) : exec c s = .next s := by
  obtain is | ⟨k, rfl⟩ | rfl := mem_ownSteps.1 mem
  · exact absurd is before
  · rw [(ownStep_waitTimeout k).of_high high, takeTimeout_of_not_waiting fun g waits =>
      after (mem_timeoutsAndJudgement.2 (.inl ⟨g, k, waits, rfl⟩))]
  · exact absurd (mem_timeoutsAndJudgement.2 (.inr rfl)) after

/-- Where one step alone is due and leaves none due, settling's steps take it. -/
theorem settleSteps_of_one {s t : State} (high : s.rstnLow = false) (small : ∀ p ∈ s.paths, p.pos < 512) {c : Instr}
    (mem : c ∈ ownSteps) (others : ∀ d ∈ ownSteps, d ≠ c → exec d s = .next s) (own : exec c s = .next t)
    (quiet : t.stepsQuiet = true) : s.settleSteps = t := by
  obtain ⟨f, is⟩ := ownStep_of_mem mem
  have low : t.rstnLow = false := by
    rw [← Host.Outcome.next.inj ((is.of_high high).symm.trans own), (is.outside s).rstnLow, high]
  have idle (d : Instr) (mem : d ∈ ownSteps) : exec d t = .next t := by
    obtain ⟨g, is⟩ := ownStep_of_mem mem
    rw [is.of_high low, is.quiet t quiet]
  have first := commanded_of_one (fun d mem => others d (mem_ownSteps.2 (.inl mem))) own
    fun d mem => idle d (mem_ownSteps.2 (.inl mem))
  have second := commanded_of_one (fun d mem => others d (mem_ownSteps_of_timeouts (v := s) mem)) own
    fun d mem => idle d (mem_ownSteps_of_timeouts mem)
  rw [settleSteps_eq_commanded high small, first]
  by_cases before : c ∈ stepsBeforeTimeouts
  · rw [if_pos before]
    exact commanded_of_idle fun d mem => idle d (mem_ownSteps_of_timeouts mem)
  · rw [if_neg before, second]
    by_cases after : c ∈ s.timeoutsAndJudgement
    · exact if_pos after
    · rw [if_neg after]
      exact Host.Outcome.next.inj ((exec_of_not_commanded high mem before after).symm.trans own)

/-! ## The statement -/

/-- A quiet state settles to itself. -/
theorem settle_of_quiet {s : State} (h : s.quiet = true) : s.settle = s := by
  rw [State.quiet, Bool.and_eq_true, Bool.not_eq_true'] at h
  obtain ⟨quiet, absent⟩ := h
  rw [State.settle, settleSteps_of_quiet quiet, takeClockPresent_of_not_due absent, settleSteps_of_quiet quiet]

/-- Settles O5: settling's steps are their commands in the default order; where one alone is due, every other command of that order
leaves the state as it is, before it and behind it. -/
theorem quietStateSettlesToItself : Obligations.QuietStateSettlesToItself := by
  unfold Obligations.QuietStateSettlesToItself
  refine ⟨fun s quiet => ⟨settle_of_quiet quiet, ?_⟩, fun s high => ⟨fun small => ⟨settleSteps_eq_commanded high small,
    fun c t mem others own quiet => settleSteps_of_one high small mem others own quiet⟩, ?_, fun v settled quiet => ?_⟩⟩
  · rw [State.opened, settle_of_quiet quiet]
    rfl
  · exact ⟨s.settleSteps.takeClockPresent, congrArg Host.Outcome.next (State.ownStep_of_high high _), rfl⟩
  · have high' : v.rstnLow = false := settled ▸ s.settleSteps_outside.rstnLow.trans high
    have boundary {u : State} (high : u.rstnLow = false) : exec .blockBoundary u = .next u.settleSteps.takeBoundary :=
      congrArg Host.Outcome.next (State.ownStep_of_high high _)
    rw [boundary high, boundary high', settled, settleSteps_of_quiet quiet]

end Sys2Proof.Proofs
end

section
/-! PROOFS. The machine (0.3.2, 1.1, 1.6): every command but the RESET input's own is disregarded while RSTN is low and leaves the queue
of commands alone. -/

namespace Sys2Proof.Proofs

open Sys2Proof.Machine

/-! ## The clock, the lanes and the link port -/

theorem lanes_outside (lanes : Lanes) (s : State) : s.sameOutside { s with lanes := lanes } :=
  State.sameOutside_of rfl rfl rfl rfl rfl

theorem declareLost_outside (s : State) : s.sameOutside s.declareLost := by
  unfold State.declareLost
  split
  · exact (lanes_outside _ s).report _
  · exact s.sameOutside_refl

theorem takeSync_outside (gap : Bool) (slots : SlotFrame) (s : State) : s.sameOutside (s.takeSync gap slots) := by
  have before : s.sameOutside (if gap then s.declareLost else s.passBoundary) := by
    split
    · exact declareLost_outside s
    · exact s.passBoundary_outside
  have framed (u : State) : u.sameOutside (if u.lanes.clockPresent then u.captureAndDrive slots else u.countSync gap) := by
    split <;> exact lanes_outside _ u
  exact before.trans (framed _)

theorem countUnmatched_outside (s : State) : s.sameOutside s.countUnmatched := State.sameOutside_of rfl rfl rfl rfl rfl

theorem arrival_outside {id : LinkId} {take : ChanId → State → State} (h : ∀ ch (s : State), s.sameOutside (take ch s))
    (s : State) : s.sameOutside (s.arrival id take) := by
  unfold State.arrival
  split
  · exact s.sameOutside_refl
  · dsimp only
    refine (s.atBlock_outside s.blockCount).trans ?_
    split
    · exact countUnmatched_outside _
    · exact h _ _

theorem setChannel_outside (ch : ChanId) (c : Machine.Channel) (s : State) : s.sameOutside (s.setChannel ch c) :=
  State.sameOutside_of rfl rfl rfl rfl rfl

theorem passesForRunning_outside (ch : ChanId) (before : ChanState) (s : State) : s.sameOutside (s.passesForRunning ch before) := by
  unfold State.passesForRunning
  split
  · split
    · exact (State.runPasses_changes _ _).sameOutside
    · exact s.sameOutside_refl
  · exact s.sameOutside_refl

theorem audioTo_outside (ch : ChanId) (q : Seq) (payload : Option Block) (s : State) : s.sameOutside (s.audioTo ch q payload) :=
  (State.putChannel_outside ch _ s).trans (passesForRunning_outside ch _ _)

theorem keyTransition_outside (k : KeyId) (t : Option (Activation × KeyAction)) (s : State) : s.sameOutside (s.keyTransition k t) := by
  unfold State.keyTransition
  split
  · exact s.sameOutside_refl
  · exact (State.setActivation_outside _ _ s).trans (State.keyAction_changes _ _ _).sameOutside

theorem callCue_outside (k : KeyId) (s : State) : s.sameOutside (s.callCue k) := by
  unfold State.callCue
  split
  · exact keyTransition_outside _ _ s
  · exact s.sameOutside_refl

theorem cancelCue_outside (k : KeyId) (s : State) : s.sameOutside (s.cancelCue k) := by
  unfold State.cancelCue
  split
  · exact keyTransition_outside _ _ s
  · exact s.sameOutside_refl

theorem cueTo_outside (ch : ChanId) (code : Byte) (s : State) : s.sameOutside (s.cueTo ch code) := by
  have noted : s.sameOutside ((s.setChannel ch { s.rx.channels[ch] with lastCue := some code }).report (.cueIn ch code s.blockCount)) :=
    (setChannel_outside ch _ s).report _
  unfold State.cueTo
  dsimp only
  split
  · split
    · split
      · exact noted.trans (callCue_outside _ _)
      · exact noted.trans (cancelCue_outside _ _)
    · exact noted
  · exact noted

theorem cuePayload_outside (payload : List Byte) (ch : ChanId) (s : State) : s.sameOutside (s.cuePayload payload ch) := by
  unfold State.cuePayload
  split
  · exact cueTo_outside _ _ s
  · exact s.sameOutside_refl

theorem malformed_outside (s : State) : s.sameOutside s.malformed := by
  unfold State.malformed
  split
  · exact s.sameOutside_refl
  · exact countUnmatched_outside s

theorem arbitrate_outside (ready : Bool) (s : State) : s.sameOutside (s.arbitrate ready) := by
  have tx (x : Transmitter) : s.sameOutside { s with tx := x } := State.sameOutside_of rfl rfl rfl rfl rfl
  unfold State.arbitrate
  split
  · unfold State.beginFrame
    split
    · exact tx _
    · split
      · exact tx _
      · exact s.sameOutside_refl
  · exact s.sameOutside_refl

theorem finishFrame_outside (s : State) : s.sameOutside s.finishFrame := by
  unfold State.finishFrame
  split <;> exact State.sameOutside_of rfl rfl rfl rfl rfl

/-! ## Transactions of the control link -/

theorem badFrame_pending (kind tag : Option Byte) (s : State) : (s.badFrame kind tag).pending = s.pending := by
  unfold State.badFrame
  dsimp only
  split <;> rfl

theorem beginTransaction_pending (type : Byte) (s : State) : (s.beginTransaction type).pending = s.pending := by
  unfold State.beginTransaction
  split <;> rfl

theorem restartAll_pending (s : State) : s.restartAll.pending = s.pending := rfl

theorem restartFrame_pending (s : State) :
    (if s.opened.repliesFull then s.opened.refuseWrite else s.opened.restartAll).pending = s.pending := by
  obtain ⟨-, -, -, pending, -⟩ := s.opened_outside
  split
  · rw [State.refuseWrite_pending, pending]
  · rw [restartAll_pending, pending]

/-! ## Every command -/

/-- R17: a command is disregarded while RSTN is low; otherwise its meaning is `f`, which leaves the queue of commands alone. -/
structure Gated (c : Instr) (f : State → State) : Prop where
  meaning : ∀ s, exec c s = .next (s.ownStep f)
  pending : ∀ s, (f s).pending = s.pending

theorem ownStep_of_low {s : State} (low : s.rstnLow = true) (f : State → State) : s.ownStep f = s := if_pos low

theorem Gated.of_low {c : Instr} {f : State → State} (gated : Gated c f) {s : State} (low : s.rstnLow = true) :
    exec c s = .next s := (gated.meaning s).trans (congrArg _ (ownStep_of_low low f))

theorem Gated.ownStep_pending {c : Instr} {f : State → State} (gated : Gated c f) (s : State) :
    (s.ownStep f).pending = s.pending := by
  unfold State.ownStep
  split
  · rfl
  · exact gated.pending s

/-- A command of the device's own. -/
theorem Gated.of_outside {c : Instr} {f : State → State} (meaning : ∀ s, exec c s = .next (s.ownStep f))
    (outside : ∀ s : State, s.sameOutside (f s)) : Gated c f := ⟨meaning, fun s => (outside s).pending⟩

theorem OwnStep.gated {c : Instr} {f : State → State} (own : OwnStep c f) : Gated c f := .of_outside own.meaning own.outside

/-- A command from outside, which finds the due steps taken. -/
theorem Gated.of_event {c : Instr} {f : State → State} (meaning : ∀ s, exec c s = .next (s.event f))
    (pending : ∀ s, (f s).pending = s.pending) : Gated c fun s => f s.settle :=
  ⟨meaning, fun s => (pending _).trans s.settle_outside.pending⟩

theorem replied_pending (kind tag : Byte) (st : Status) (body : List Field) (s : State) :
    (s.replied kind tag st body).pending = s.pending := rfl

/-- A request of the control link, by what its execution leaves alone. -/
theorem gated_of_requestHeader {c : Instr} {h : Header} (header : requestHeader c = some h) : ∃ f, Gated c f := by
  obtain ⟨act, meaning, same⟩ := exec_of_requestHeader header
  refine ⟨_, meaning, fun s => ?_⟩
  obtain ⟨-, -, -, pending, -⟩ := s.opened_outside
  dsimp only
  rw [← State.opened]
  split
  · rw [State.refuseWrite_pending, pending]
  · split
    · rw [State.answer_eq_replied, replied_pending, (same s.opened).pending, pending]
    · rw [State.answer_eq_replied, replied_pending, refuse, pending]

/-- R17: every command but the RESET input's own. -/
theorem gated_of_not_resetInput {c : Instr} (other : ∀ low, c ≠ .resetInput low) : ∃ f, Gated c f := by
  cases c with
  | resetInput low => exact absurd rfl (other low)
  | restart => exact ⟨_, fun _ => rfl, restartFrame_pending⟩
  | badFrame => exact ⟨_, .of_event (fun _ => rfl) (badFrame_pending _ _)⟩
  | readTransaction => exact ⟨_, .of_event (f := State.beginRead) (fun _ => rfl) fun _ => rfl⟩
  | otherTransaction => exact ⟨_, .of_event (fun _ => rfl) (beginTransaction_pending _)⟩
  | readTransactionEnd complete => exact ⟨_, .of_event (f := State.endRead complete) (fun _ => rfl) fun _ => rfl⟩
  | blockBoundary => exact ⟨_, .of_outside (fun _ => rfl) fun s => s.settleSteps_outside.trans (State.takeBoundary_outside _)⟩
  | clockPresent => exact ⟨_, .of_outside (fun _ => rfl) fun s => s.settleSteps_outside.trans (State.takeClockPresent_outside _)⟩
  | concealLimit ch => exact ⟨_, (ownStep_concealLimit ch).gated⟩
  | channelIdleLimit ch => exact ⟨_, (ownStep_channelIdleLimit ch).gated⟩
  | channelDrop ch => exact ⟨_, (ownStep_channelDrop ch).gated⟩
  | channelRecovery ch => exact ⟨_, (ownStep_channelRecovery ch).gated⟩
  | checkCompletion ch => exact ⟨_, (ownStep_checkCompletion ch).gated⟩
  | pathRemoval i => exact ⟨_, (ownStep_pathRemoval i).gated⟩
  | waitTimeout k => exact ⟨_, (ownStep_waitTimeout k).gated⟩
  | windowEnd => exact ⟨_, ownStep_windowEnd.gated⟩
  | swapJudgement => exact ⟨_, ownStep_swapJudgement.gated⟩
  | clockLost => exact ⟨_, .of_event (fun _ => rfl) fun s => (declareLost_outside s).pending⟩
  | audioFrameArrival =>
      exact ⟨_, .of_event (fun _ => rfl) fun s => (arrival_outside (fun ch s => audioTo_outside ch _ _ s) s).pending⟩
  | cueFrameArrival => exact ⟨_, .of_event (fun _ => rfl) fun s => (arrival_outside (cuePayload_outside _) s).pending⟩
  | malformedLinkFrame => exact ⟨_, .of_event (fun _ => rfl) fun s => (malformed_outside s).pending⟩
  | linkFrameBegin ready => exact ⟨_, .of_event (fun _ => rfl) fun s => (arbitrate_outside ready s).pending⟩
  | linkFrameSent => exact ⟨_, .of_event (fun _ => rfl) fun s => (finishFrame_outside s).pending⟩
  | frameSync gap slots => exact ⟨_, .of_event (fun _ => rfl) fun s => (takeSync_outside gap slots s).pending⟩
  | _ => exact gated_of_requestHeader rfl

/-- Every command answers a next state, with the queue of commands as it was. -/
theorem exec_pending (c : Instr) (s : State) : ∃ t, exec c s = .next t ∧ t.pending = s.pending := by
  by_cases pin : ∃ low, c = .resetInput low
  · obtain ⟨low, rfl⟩ := pin
    refine ⟨_, rfl, ?_⟩
    split <;> rfl
  · obtain ⟨f, gated⟩ := gated_of_not_resetInput (not_exists.1 pin)
    exact ⟨_, gated.meaning s, gated.ownStep_pending s⟩

/-- Settles O1: the step is taken by its definition, and no command faults or is refused. -/
theorem stepTakesFrontCommand : Obligations.StepTakesFrontCommand := by
  unfold Obligations.StepTakesFrontCommand
  refine ⟨fun _ _ _ => rfl, fun s empty => by rw [step, empty], fun c s => ?_⟩
  obtain ⟨t, meaning, -⟩ := exec_pending c s
  exact ⟨t, meaning⟩

/-- Settles O2: the state that a command answers is the one whose queue `exec_pending` tells. -/
theorem commandsLeaveTheQueue : Obligations.CommandsLeaveTheQueue := by
  unfold Obligations.CommandsLeaveTheQueue
  intro c s t answered
  obtain ⟨u, meaning, pending⟩ := exec_pending c s
  rw [Host.Outcome.next.inj (answered.symm.trans meaning), pending]

/-- Settles O4: every command but the pin's own is gated by RSTN. -/
theorem heldInResetNothingIsTaken : Obligations.HeldInResetNothingIsTaken := by
  unfold Obligations.HeldInResetNothingIsTaken
  refine fun s low => ⟨fun c other => ?_, ?_, fun n => State.sdo_of_low low n⟩
  · obtain ⟨f, gated⟩ := gated_of_not_resetInput other
    exact gated.of_low low
  · rw [State.attn, low]
    rfl

end Sys2Proof.Proofs
end

section
/-! PROOFS. The reset condition (1.6): what RSTN and RESTART leave, and the invariants that it meets. -/

namespace Sys2Proof.Proofs

open Sys2Proof.Machine

/-! ## What leaves the reset condition -/

/-- R17: a reset table holds one record at every place. -/
theorem resetAll_inResetCondition (low : Bool) (s : State) : (s.resetAll low).inResetCondition where
  mode := rfl
  blockCount := rfl
  port _ := Vector.getElem_replicate _
  clock := ⟨rfl, rfl, rfl, rfl⟩
  paths := rfl
  gain _ := Vector.getElem_replicate _
  key _ := Vector.getElem_replicate _
  group _ := Vector.getElem_replicate _
  ear _ := Vector.getElem_replicate _
  filter _ := Vector.getElem_replicate _
  channel c := by
    have record : (s.resetAll low).rx.channels[c] = Channel.reset := Vector.getElem_replicate _
    rw [record]
    exact ⟨rfl, rfl⟩
  unmatched := rfl
  transmitter := ⟨fun _ => Vector.getElem_replicate _, rfl, rfl, rfl⟩
  check _ := Vector.getElem_replicate _
  governor := rfl
  protection _ := Vector.getElem_replicate _
  routes := ⟨rfl, rfl, rfl⟩
  queues := ⟨rfl, rfl, rfl, rfl⟩
  flags := ⟨rfl, rfl, rfl, rfl⟩

/-- R17, R177: the status byte that RESTART's own transaction sent is no part of the reset condition. -/
theorem restartAll_inResetCondition (s : State) : s.restartAll.inResetCondition :=
  { resetAll_inResetCondition false s with }

theorem reset_inResetCondition : State.reset.inResetCondition := resetAll_inResetCondition false State.reset

/-- R17: RSTN driven low, or rising from low. -/
theorem exec_resetInput_resets {low : Bool} {s : State} (resets : (low || s.rstnLow) = true) :
    exec (.resetInput low) s = .next (s.resetAll low) := congrArg Host.Outcome.next (if_pos resets)

/-- R17: RSTN that stays high (log 5). -/
theorem exec_resetInput_idle {s : State} (high : s.rstnLow = false) : exec (.resetInput false) s = .next s :=
  congrArg Host.Outcome.next (if_neg (by rw [high]; decide))

/-- R17: RESTART where requests are taken. -/
theorem exec_restart_of_takes {s : State} (takes : s.takesRequests) (tag : Byte) :
    exec (.restart tag) s = .next s.opened.restartAll := by
  rw [exec_restart takes.1, takes.notFull]
  rfl

/-- Settles O3: RSTN and RESTART leave `State.resetAll`, RESTART but for its own status byte. -/
theorem resetLeavesTheResetCondition : Obligations.ResetLeavesTheResetCondition := by
  unfold Obligations.ResetLeavesTheResetCondition
  refine ⟨⟨reset_inResetCondition, rfl⟩, fun s => ?_, fun s low => ?_, fun s high => exec_resetInput_idle high,
    fun tag s takes => ?_⟩
  · exact ⟨_, exec_resetInput_resets rfl, resetAll_inResetCondition true s, rfl⟩
  · exact ⟨_, exec_resetInput_resets low, resetAll_inResetCondition false s, rfl⟩
  · exact ⟨_, exec_restart_of_takes takes tag, restartAll_inResetCondition s.opened, rfl⟩

/-! ## The invariants in the reset condition -/

theorem link_wf_of_inResetCondition {t : State} (reset : t.inResetCondition) : t.link.wf := by
  obtain ⟨replies, notices, -⟩ := reset.queues
  rw [ControlLink.wf, replies, notices]
  exact ⟨Nat.zero_le _, Nat.zero_le _, List.nodup_nil⟩

theorem listsWf_of_inResetCondition {t : State} (reset : t.inResetCondition) : t.listsWf := by
  obtain ⟨-, ready, cues, -⟩ := reset.transmitter
  refine (listsWf_iff t).2 ⟨fun p e present => ?_, fun g => ?_, ?_⟩
  · rw [reset.ear p] at present
    cases present
  · rw [reset.group g]
    exact ⟨Nat.zero_le _, List.nodup_nil⟩
  · rw [TxWf, ready, cues]
    exact ⟨Nat.zero_le _, .nil⟩

theorem reset_quality (c : ChanId) : State.reset.rx.channels[c].quality ≤ 255 := by
  have record : State.reset.rx.channels[c] = Channel.reset := Vector.getElem_replicate _
  rw [record]
  exact Nat.zero_le _

theorem reset_rangesWf : State.reset.rangesWf := by
  refine ⟨fun p => ?_, reset_quality, Nat.zero_le _⟩
  rw [reset_inResetCondition.protection p]
  exact protectionReset_wf

/-- Settles O60: with no path, no delivery and no waiter there is nothing to agree; the lists are empty and the counts 0. -/
theorem resetMeetsTheInvariants : Obligations.ResetMeetsTheInvariants := by
  unfold Obligations.ResetMeetsTheInvariants
  obtain ⟨deliveries, -⟩ := agrees_iff.1 (resetAll_agrees false State.reset)
  exact ⟨pathTableWf_nil, forall_mem_of_eq_nil rfl, aimed_of_nil rfl, deliveries,
    link_wf_of_inResetCondition reset_inResetCondition, listsWf_of_inResetCondition reset_inResetCondition, reset_rangesWf⟩

end Sys2Proof.Proofs
end
